-- ==== Sys2Proof/Word.lean ====
section
/-! DEFINITION. The one word type of the part: the byte that the serial ports carry. -/

namespace Sys2Proof

/-- A byte of a frame (R168); class codes, class masks and request codes are bytes too (R70, R171). -/
abbrev Byte := BitVec 8

end Sys2Proof
end

