-- ==== Sys2Proof/Config.lean ====
section
/-! DEFINITION. The fixed quantities of the part, and the choices that the spec leaves open. The latter are `opaque`
constants without a body: no statement can rest on their value. -/

namespace Sys2Proof.Config

/-- R1: the greatest wear, in sixteenths. -/
def wearMax : Nat := 4294967295
/-- R1: the greatest full-minute and eco-minute count. -/
def minuteCountMax : Nat := 16777215
/-- R1, R19: the greatest strike count, dropout count and replacement count. -/
def countMax : Nat := 65535
/-- R8: sixteenths of wear in one wear hour. -/
def wearHour : Nat := 960
/-- R20: records in the replacement history. -/
def historyMax : Nat := 4
/-- R21: lit ticks between two saves. -/
def litTickSave : Nat := 6
/-- R25: the ignition window, in seconds. -/
def ignitionWindow : Nat := 3
/-- R96: the longest attempt window, in milliseconds. -/
def windowMax : Nat := 8000
/-- R104: the greatest tilt count in either direction. -/
def tiltMax : Int := 8000
/-- R107: the play of the encoder, in counts. -/
def indexPlay : Nat := 4
/-- R109: the settle time, in milliseconds. -/
def settleTime : Nat := 500
/-- R118: the cap of the automatic inset, and R119's greatest applied dx. -/
def dxMax : Int := 480
/-- R119: the greatest applied dy. -/
def dyMax : Int := 300
/-- R114: the greatest session trim in either direction. -/
def trimMax : Int := 64
/-- R138: minutes in a week. -/
def weekMinutes : Nat := 10080
/-- R141, R157: bookings in the live table and in the staging list. -/
def tableMax : Nat := 48
/-- R151: minutes that one Extend Booking adds. -/
def extendStep : Nat := 15
/-- R151: the greatest extension, in minutes. -/
def extensionMax : Nat := 60
/-- R168: the sync byte. -/
def syncByte : Byte := 0x7E
/-- R168: the greatest payload of a frame. -/
def payloadMax : Nat := 64
/-- R167: the inter-byte time, in milliseconds. -/
def interByteTime : Nat := 20
/-- R180: notices in a queue. -/
def queueMax : Nat := 16
/-- R180: the count from which a notice of priority 1..3 is dropped. -/
def queueReserve : Nat := 12
/-- R180: the greatest lost count. -/
def lostMax : Nat := 255

/-- DESIGN CHOICE (log 5): where one event orders, changes or reports both lamps, the spec leaves open which is served
first (R46, R178). True: lamp B before lamp A. -/
opaque lampBFirst : Bool

/-- DESIGN CHOICE (log 10): where a refused Insert Booking overlaps several live bookings, the spec does not say which of
their ids the reply carries (R162). The value, reduced modulo their number, picks one. -/
opaque overlapChoice : List Nat → Nat

end Sys2Proof.Config
end

