-- ==== Sys2Proof/Syntax.lean ====
section
/-! DEFINITION. The commands of the part: one constructor of `Instr` for each row of spec/opcode_table.json, and the small
closed types their operands are made of. -/

namespace Sys2Proof

/-- The three request ports (00_scope.md, "How the part is reached"). -/
inductive Port where
  | panel | facility | engine
  deriving DecidableEq, Repr

/-- The two lamps (00_scope.md). -/
inductive Lamp where
  | a | b
  deriving DecidableEq, Repr

/-- A notice kind together with its subject (R178, R179): two notices have the same kind, subject kind and subject exactly
when their topics are equal. A booking is named by its id, an input by its row number. -/
inductive Topic where
  | thermalTrip
  | lampFailed (l : Lamp)
  | noLamp
  | timeInvalid
  | lampLife (l : Lamp)
  | senseFault (l : Lamp)
  | tiltFault
  | powerState
  | lockoutChanged
  | resyncRequest (row : Fin 10)
  | blank
  | inputSelected (row : Option (Fin 10))
  | acquisition (row : Fin 10)
  | geometryChanged
  | booking (id : Nat)
  | lampState (l : Lamp)
  | scheduleCommitted
  deriving DecidableEq, Repr

/-- The two blocks that take a minute tick, independently of each other (R138). -/
inductive TickTaker where
  | accounts | timetable
  deriving DecidableEq, Repr

/-- The separately saved pieces of the nonvolatile store, one for each block: its save is one write (R21, R172). The geometry is
the calibration with the presets, the timetable the schedule enable with the live table. -/
inductive StoreUnit where
  | accounts | lampParams | powerSettings | inputRows | acqParams | geometry | manualClaim | timetable
  deriving DecidableEq, Repr

/-- The circumstances of a power-on or hardware reset: the level of BACKUP-GOOD (R139), and the request, its code and payload, that
the PANEL port takes in the gap between the reset and the re-evaluation, if any (R135, log 32). -/
structure Restart where
  backupGood : Bool
  gap : Option (Byte × List Byte)
  deriving DecidableEq, Repr

/-- The requests of the catalogue (R171), in its order. -/
inductive Request where
  | readStatus
  | takeNotice
  | setNoticeMask
  | powerOn
  | powerOff
  | setLampPower
  | setBlank
  | facilityPowerClaim
  | setPowerDefaults
  | selectInput
  | selectClass
  | writeInputRow
  | readInputRow
  | setAcquisitionParameters
  | nudgeCorner
  | clearSessionTrims
  | writePreset
  | readPreset
  | storeSessionTrims
  | setKeystoneCalibration
  | armHoming
  | readGeometry
  | readCorners
  | readTilt
  | extendBooking
  | setTime
  | readScheduleState
  | readBookings
  | stageBegin
  | stageAppend
  | stageCommit
  | insertBooking
  | deleteBooking
  | setScheduleEnable
  | setManualLockout
  | openServiceWindow
  | closeServiceWindow
  | readLockout
  | readLampAccount
  | takeAccountSnapshot
  | readSnapshot
  | setLampThresholds
  | setLampParameters
  | lampReplaced
  | readReplacementHistory
  | clearLampFault
  | serviceReset
  | factoryReset
  | syncReport
  | presenceReport
  | thermalTrip
  | thermalClear
  deriving DecidableEq, Repr

/-- The commands. A request row is one whole frame: the port it arrives on and its payload `d` (log 1). -/
inductive Instr where
  /-- READ_STATUS, R67. -/
  | readStatus (p : Port) (d : List Byte)
  /-- TAKE_NOTICE, R181. -/
  | takeNotice (p : Port) (d : List Byte)
  /-- SET_NOTICE_MASK, R182. -/
  | setNoticeMask (p : Port) (d : List Byte)
  /-- POWER_ON, R53. -/
  | powerOn (p : Port) (d : List Byte)
  /-- POWER_OFF, R54. -/
  | powerOff (p : Port) (d : List Byte)
  /-- SET_LAMP_POWER, R63. -/
  | setLampPower (p : Port) (d : List Byte)
  /-- SET_BLANK, R64. -/
  | setBlank (p : Port) (d : List Byte)
  /-- FACILITY_POWER_CLAIM, R55. -/
  | facilityPowerClaim (p : Port) (d : List Byte)
  /-- SET_POWER_DEFAULTS, R66. -/
  | setPowerDefaults (p : Port) (d : List Byte)
  /-- SELECT_INPUT, R91. -/
  | selectInput (p : Port) (d : List Byte)
  /-- SELECT_CLASS, R92. -/
  | selectClass (p : Port) (d : List Byte)
  /-- WRITE_INPUT_ROW, R74. -/
  | writeInputRow (p : Port) (d : List Byte)
  /-- READ_INPUT_ROW, R73. -/
  | readInputRow (p : Port) (d : List Byte)
  /-- SET_ACQUISITION_PARAMETERS, R98. -/
  | setAcquisitionParameters (p : Port) (d : List Byte)
  /-- NUDGE_CORNER, R114. -/
  | nudgeCorner (p : Port) (d : List Byte)
  /-- CLEAR_SESSION_TRIMS, R115. -/
  | clearSessionTrims (p : Port) (d : List Byte)
  /-- WRITE_PRESET, R112. -/
  | writePreset (p : Port) (d : List Byte)
  /-- READ_PRESET, R113. -/
  | readPreset (p : Port) (d : List Byte)
  /-- STORE_SESSION_TRIMS, R116. -/
  | storeSessionTrims (p : Port) (d : List Byte)
  /-- SET_KEYSTONE_CALIBRATION, R111. -/
  | setKeystoneCalibration (p : Port) (d : List Byte)
  /-- ARM_HOMING, R108. -/
  | armHoming (p : Port) (d : List Byte)
  /-- READ_GEOMETRY, R121. -/
  | readGeometry (p : Port) (d : List Byte)
  /-- READ_CORNERS, R121. -/
  | readCorners (p : Port) (d : List Byte)
  /-- READ_TILT, R110. -/
  | readTilt (p : Port) (d : List Byte)
  /-- EXTEND_BOOKING, R151. -/
  | extendBooking (p : Port) (d : List Byte)
  /-- SET_TIME, R140. -/
  | setTime (p : Port) (d : List Byte)
  /-- READ_SCHEDULE_STATE, R165. -/
  | readScheduleState (p : Port) (d : List Byte)
  /-- READ_BOOKINGS, R164. -/
  | readBookings (p : Port) (d : List Byte)
  /-- STAGE_BEGIN, R158. -/
  | stageBegin (p : Port) (d : List Byte)
  /-- STAGE_APPEND, R159. -/
  | stageAppend (p : Port) (d : List Byte)
  /-- STAGE_COMMIT, R160. -/
  | stageCommit (p : Port) (d : List Byte)
  /-- INSERT_BOOKING, R162. -/
  | insertBooking (p : Port) (d : List Byte)
  /-- DELETE_BOOKING, R163. -/
  | deleteBooking (p : Port) (d : List Byte)
  /-- SET_SCHEDULE_ENABLE, R152. -/
  | setScheduleEnable (p : Port) (d : List Byte)
  /-- SET_MANUAL_LOCKOUT, R127. -/
  | setManualLockout (p : Port) (d : List Byte)
  /-- OPEN_SERVICE_WINDOW, R129. -/
  | openServiceWindow (p : Port) (d : List Byte)
  /-- CLOSE_SERVICE_WINDOW, R130. -/
  | closeServiceWindow (p : Port) (d : List Byte)
  /-- READ_LOCKOUT, R131. -/
  | readLockout (p : Port) (d : List Byte)
  /-- READ_LAMP_ACCOUNT, R15. -/
  | readLampAccount (p : Port) (d : List Byte)
  /-- TAKE_ACCOUNT_SNAPSHOT, R16. -/
  | takeAccountSnapshot (p : Port) (d : List Byte)
  /-- READ_SNAPSHOT, R17. -/
  | readSnapshot (p : Port) (d : List Byte)
  /-- SET_LAMP_THRESHOLDS, R13. -/
  | setLampThresholds (p : Port) (d : List Byte)
  /-- SET_LAMP_PARAMETERS, R14. -/
  | setLampParameters (p : Port) (d : List Byte)
  /-- LAMP_REPLACED, R19. -/
  | lampReplaced (p : Port) (d : List Byte)
  /-- READ_REPLACEMENT_HISTORY, R20. -/
  | readReplacementHistory (p : Port) (d : List Byte)
  /-- CLEAR_LAMP_FAULT, R39. -/
  | clearLampFault (p : Port) (d : List Byte)
  /-- SERVICE_RESET, R173. -/
  | serviceReset (p : Port) (d : List Byte)
  /-- FACTORY_RESET, R174. -/
  | factoryReset (p : Port) (d : List Byte)
  /-- SYNC_REPORT, R99. -/
  | syncReport (p : Port) (d : List Byte)
  /-- PRESENCE_REPORT, R100. -/
  | presenceReport (p : Port) (d : List Byte)
  /-- THERMAL_TRIP, R42. -/
  | thermalTrip (p : Port) (d : List Byte)
  /-- THERMAL_CLEAR, R43. -/
  | thermalClear (p : Port) (d : List Byte)
  /-- UNKNOWN_REQUEST, R170. -/
  | unknownRequest (p : Port) (code : Byte) (d : List Byte)
  /-- INTER_BYTE_TIMEOUT, R168. -/
  | interByteTimeout (p : Port)
  /-- REPLY_SENT, R169. -/
  | replySent (p : Port)
  /-- NOTICE_ADMISSION, R178, R180: the queue of port `p` takes the notice of a topic with a value. -/
  | noticeAdmission (p : Port) (topic : Topic) (value : BitVec 16)
  /-- MINUTE_TICK, R145. -/
  | minuteTick (first : TickTaker)
  /-- IGNITION_WINDOW_EXPIRY, R30. -/
  | ignitionWindowExpiry (l : Lamp)
  /-- RETRY_WAIT_EXPIRY, R31. -/
  | retryWaitExpiry (l : Lamp)
  /-- COOL_DOWN_EXPIRY, R35. -/
  | coolDownExpiry (l : Lamp)
  /-- FAN_TIME_END, R38. -/
  | fanTimeEnd (l : Lamp)
  /-- LIT_RISE, R29. -/
  | litRise (l : Lamp)
  /-- LIT_FALL, R36. -/
  | litFall (l : Lamp)
  /-- ACQUISITION_WINDOW_EXPIRY, R97. -/
  | acquisitionWindowExpiry
  /-- SETTLE_TIMER_EXPIRY, R109. -/
  | settleTimerExpiry
  /-- ENCODER_STEP, R105. -/
  | encoderStep (ta tb : Bool)
  /-- INDEX_PULSE, R107. -/
  | indexPulse
  /-- BLANK_TIMER_EXPIRY, R65. -/
  | blankTimerExpiry
  /-- GRACE_EXPIRY, R149. -/
  | graceExpiry
  /-- SERVICE_WINDOW_EXPIRY, R130. -/
  | serviceWindowExpiry
  /-- POWER_ON_RESET, R155. -/
  | powerOnReset (x : Restart)
  /-- HARDWARE_RESET, R155. -/
  | hardwareReset (x : Restart)
  /-- PORT_BYTE_RECEIVED, R168. -/
  | portByteReceived (p : Port) (b : Byte)
  /-- LOSS_OF_POWER, R22. -/
  | lossOfPower (cut : Option (Byte × List Byte)) (done : List StoreUnit)
  deriving DecidableEq, Repr

end Sys2Proof
end

