-- ==== Sys2Proof/Decode.lean ====
section
/-! DEFINITION. Reading a request frame: the request catalogue, the way from a code byte to a command and back, and the
check byte. The opcode table gives no row any bits, so no table word spells a command. -/

namespace Sys2Proof

/-- One row of the request catalogue (R171). -/
structure CatalogueRow where
  code : Byte
  request : Request
  ports : List Port
  length : Nat
  deriving DecidableEq, Repr

/-- The requests every port may send (R171). -/
def everyPort : List Port := [.panel, .facility, .engine]

/-- R171: lamp power, selection, corners and extension are for the panel and the facility. -/
def panelAndFacility : List Port := [.panel, .facility]

/-- R171, codes 0x00 to 0x1F. -/
def cataloguePower : List CatalogueRow := [
  ⟨0x01, .readStatus, everyPort, 0⟩,
  ⟨0x02, .takeNotice, everyPort, 0⟩,
  ⟨0x03, .setNoticeMask, everyPort, 1⟩,
  ⟨0x10, .powerOn, [.panel], 0⟩,
  ⟨0x11, .powerOff, [.panel], 0⟩,
  ⟨0x12, .setLampPower, panelAndFacility, 1⟩,
  ⟨0x13, .setBlank, panelAndFacility, 1⟩,
  ⟨0x15, .facilityPowerClaim, [.facility], 1⟩,
  ⟨0x16, .setPowerDefaults, [.facility], 4⟩]

/-- R171, codes 0x20 to 0x2F. -/
def catalogueSource : List CatalogueRow := [
  ⟨0x20, .selectInput, panelAndFacility, 1⟩,
  ⟨0x21, .selectClass, panelAndFacility, 1⟩,
  ⟨0x22, .writeInputRow, [.facility], 7⟩,
  ⟨0x23, .readInputRow, everyPort, 1⟩,
  ⟨0x24, .setAcquisitionParameters, [.facility], 3⟩]

/-- R171, codes 0x30 to 0x3F. -/
def catalogueGeometry : List CatalogueRow := [
  ⟨0x30, .nudgeCorner, panelAndFacility, 3⟩,
  ⟨0x31, .clearSessionTrims, panelAndFacility, 0⟩,
  ⟨0x32, .writePreset, [.facility], 18⟩,
  ⟨0x33, .readPreset, everyPort, 1⟩,
  ⟨0x34, .storeSessionTrims, [.facility], 0⟩,
  ⟨0x35, .setKeystoneCalibration, [.facility], 6⟩,
  ⟨0x36, .armHoming, [.facility], 0⟩,
  ⟨0x37, .readGeometry, everyPort, 0⟩,
  ⟨0x38, .readCorners, everyPort, 1⟩,
  ⟨0x39, .readTilt, everyPort, 0⟩]

/-- R171, codes 0x40 to 0x4F. -/
def catalogueTimetable : List CatalogueRow := [
  ⟨0x40, .extendBooking, panelAndFacility, 0⟩,
  ⟨0x41, .setTime, [.facility], 3⟩,
  ⟨0x42, .readScheduleState, everyPort, 0⟩,
  ⟨0x43, .readBookings, everyPort, 1⟩,
  ⟨0x44, .stageBegin, [.facility], 0⟩,
  ⟨0x45, .stageAppend, [.facility], 14⟩,
  ⟨0x46, .stageCommit, [.facility], 0⟩,
  ⟨0x47, .insertBooking, [.facility], 14⟩,
  ⟨0x48, .deleteBooking, [.facility], 2⟩,
  ⟨0x49, .setScheduleEnable, [.facility], 1⟩]

/-- R171, codes 0x50 to 0x5F. -/
def catalogueLockout : List CatalogueRow := [
  ⟨0x50, .setManualLockout, [.facility], 1⟩,
  ⟨0x51, .openServiceWindow, [.facility], 1⟩,
  ⟨0x52, .closeServiceWindow, [.facility], 0⟩,
  ⟨0x53, .readLockout, everyPort, 0⟩]

/-- R171, codes 0x60 to 0x6F. -/
def catalogueLamp : List CatalogueRow := [
  ⟨0x60, .readLampAccount, everyPort, 1⟩,
  ⟨0x61, .takeAccountSnapshot, [.facility], 0⟩,
  ⟨0x62, .readSnapshot, [.facility], 1⟩,
  ⟨0x63, .setLampThresholds, [.facility], 7⟩,
  ⟨0x64, .setLampParameters, [.facility], 5⟩,
  ⟨0x65, .lampReplaced, [.facility], 1⟩,
  ⟨0x66, .clearLampFault, [.facility], 1⟩,
  ⟨0x67, .readReplacementHistory, [.facility], 0⟩]

/-- R171, codes 0x70 to 0xFF. -/
def catalogueResetAndReport : List CatalogueRow := [
  ⟨0x70, .serviceReset, [.facility], 0⟩,
  ⟨0x71, .factoryReset, [.facility], 0⟩,
  ⟨0x80, .syncReport, [.engine], 2⟩,
  ⟨0x81, .presenceReport, [.engine], 2⟩,
  ⟨0x82, .thermalTrip, [.engine], 0⟩,
  ⟨0x83, .thermalClear, [.engine], 0⟩]

/-- R179: the ports whose queues take a notice of this kind. -/
def Topic.ports : Topic → List Port
  | .thermalTrip | .lampFailed _ | .noLamp | .powerState | .inputSelected _ | .acquisition _ => [.panel, .facility, .engine]
  | .timeInvalid | .senseFault _ | .tiltFault | .scheduleCommitted => [.facility]
  | .lampLife _ | .lockoutChanged | .booking _ => [.panel, .facility]
  | .resyncRequest _ | .blank | .geometryChanged => [.engine]
  | .lampState _ => [.panel, .engine]

/-- The request catalogue (R171). -/
def catalogue : List CatalogueRow :=
  cataloguePower ++ catalogueSource ++ catalogueGeometry ++ catalogueTimetable ++ catalogueLockout ++ catalogueLamp ++ catalogueResetAndReport

/-- The catalogue row of a code byte; none for a code that is not in the catalogue (R170). -/
def lookupCode (code : Byte) : Option CatalogueRow := catalogue.find? (fun row => row.code == code)

/-- The code byte of a request (R171). -/
def Request.code : Request → Byte
  | .readStatus => 0x01
  | .takeNotice => 0x02
  | .setNoticeMask => 0x03
  | .powerOn => 0x10
  | .powerOff => 0x11
  | .setLampPower => 0x12
  | .setBlank => 0x13
  | .facilityPowerClaim => 0x15
  | .setPowerDefaults => 0x16
  | .selectInput => 0x20
  | .selectClass => 0x21
  | .writeInputRow => 0x22
  | .readInputRow => 0x23
  | .setAcquisitionParameters => 0x24
  | .nudgeCorner => 0x30
  | .clearSessionTrims => 0x31
  | .writePreset => 0x32
  | .readPreset => 0x33
  | .storeSessionTrims => 0x34
  | .setKeystoneCalibration => 0x35
  | .armHoming => 0x36
  | .readGeometry => 0x37
  | .readCorners => 0x38
  | .readTilt => 0x39
  | .extendBooking => 0x40
  | .setTime => 0x41
  | .readScheduleState => 0x42
  | .readBookings => 0x43
  | .stageBegin => 0x44
  | .stageAppend => 0x45
  | .stageCommit => 0x46
  | .insertBooking => 0x47
  | .deleteBooking => 0x48
  | .setScheduleEnable => 0x49
  | .setManualLockout => 0x50
  | .openServiceWindow => 0x51
  | .closeServiceWindow => 0x52
  | .readLockout => 0x53
  | .readLampAccount => 0x60
  | .takeAccountSnapshot => 0x61
  | .readSnapshot => 0x62
  | .setLampThresholds => 0x63
  | .setLampParameters => 0x64
  | .lampReplaced => 0x65
  | .clearLampFault => 0x66
  | .readReplacementHistory => 0x67
  | .serviceReset => 0x70
  | .factoryReset => 0x71
  | .syncReport => 0x80
  | .presenceReport => 0x81
  | .thermalTrip => 0x82
  | .thermalClear => 0x83

/-- The command of a request that arrives on port `p` with payload `d`. -/
def Instr.ofRequest (r : Request) (p : Port) (d : List Byte) : Instr :=
  match r with
  | .readStatus => .readStatus p d
  | .takeNotice => .takeNotice p d
  | .setNoticeMask => .setNoticeMask p d
  | .powerOn => .powerOn p d
  | .powerOff => .powerOff p d
  | .setLampPower => .setLampPower p d
  | .setBlank => .setBlank p d
  | .facilityPowerClaim => .facilityPowerClaim p d
  | .setPowerDefaults => .setPowerDefaults p d
  | .selectInput => .selectInput p d
  | .selectClass => .selectClass p d
  | .writeInputRow => .writeInputRow p d
  | .readInputRow => .readInputRow p d
  | .setAcquisitionParameters => .setAcquisitionParameters p d
  | .nudgeCorner => .nudgeCorner p d
  | .clearSessionTrims => .clearSessionTrims p d
  | .writePreset => .writePreset p d
  | .readPreset => .readPreset p d
  | .storeSessionTrims => .storeSessionTrims p d
  | .setKeystoneCalibration => .setKeystoneCalibration p d
  | .armHoming => .armHoming p d
  | .readGeometry => .readGeometry p d
  | .readCorners => .readCorners p d
  | .readTilt => .readTilt p d
  | .extendBooking => .extendBooking p d
  | .setTime => .setTime p d
  | .readScheduleState => .readScheduleState p d
  | .readBookings => .readBookings p d
  | .stageBegin => .stageBegin p d
  | .stageAppend => .stageAppend p d
  | .stageCommit => .stageCommit p d
  | .insertBooking => .insertBooking p d
  | .deleteBooking => .deleteBooking p d
  | .setScheduleEnable => .setScheduleEnable p d
  | .setManualLockout => .setManualLockout p d
  | .openServiceWindow => .openServiceWindow p d
  | .closeServiceWindow => .closeServiceWindow p d
  | .readLockout => .readLockout p d
  | .readLampAccount => .readLampAccount p d
  | .takeAccountSnapshot => .takeAccountSnapshot p d
  | .readSnapshot => .readSnapshot p d
  | .setLampThresholds => .setLampThresholds p d
  | .setLampParameters => .setLampParameters p d
  | .lampReplaced => .lampReplaced p d
  | .clearLampFault => .clearLampFault p d
  | .readReplacementHistory => .readReplacementHistory p d
  | .serviceReset => .serviceReset p d
  | .factoryReset => .factoryReset p d
  | .syncReport => .syncReport p d
  | .presenceReport => .presenceReport p d
  | .thermalTrip => .thermalTrip p d
  | .thermalClear => .thermalClear p d

/-- The port, code and payload of the frame that a command stands for; none for a command that is no request frame. -/
def Instr.frame? (i : Instr) : Option (Port × Byte × List Byte) :=
  match i with
  | .readStatus p d => some (p, Request.code .readStatus, d)
  | .takeNotice p d => some (p, Request.code .takeNotice, d)
  | .setNoticeMask p d => some (p, Request.code .setNoticeMask, d)
  | .powerOn p d => some (p, Request.code .powerOn, d)
  | .powerOff p d => some (p, Request.code .powerOff, d)
  | .setLampPower p d => some (p, Request.code .setLampPower, d)
  | .setBlank p d => some (p, Request.code .setBlank, d)
  | .facilityPowerClaim p d => some (p, Request.code .facilityPowerClaim, d)
  | .setPowerDefaults p d => some (p, Request.code .setPowerDefaults, d)
  | .selectInput p d => some (p, Request.code .selectInput, d)
  | .selectClass p d => some (p, Request.code .selectClass, d)
  | .writeInputRow p d => some (p, Request.code .writeInputRow, d)
  | .readInputRow p d => some (p, Request.code .readInputRow, d)
  | .setAcquisitionParameters p d => some (p, Request.code .setAcquisitionParameters, d)
  | .nudgeCorner p d => some (p, Request.code .nudgeCorner, d)
  | .clearSessionTrims p d => some (p, Request.code .clearSessionTrims, d)
  | .writePreset p d => some (p, Request.code .writePreset, d)
  | .readPreset p d => some (p, Request.code .readPreset, d)
  | .storeSessionTrims p d => some (p, Request.code .storeSessionTrims, d)
  | .setKeystoneCalibration p d => some (p, Request.code .setKeystoneCalibration, d)
  | .armHoming p d => some (p, Request.code .armHoming, d)
  | .readGeometry p d => some (p, Request.code .readGeometry, d)
  | .readCorners p d => some (p, Request.code .readCorners, d)
  | .readTilt p d => some (p, Request.code .readTilt, d)
  | .extendBooking p d => some (p, Request.code .extendBooking, d)
  | .setTime p d => some (p, Request.code .setTime, d)
  | .readScheduleState p d => some (p, Request.code .readScheduleState, d)
  | .readBookings p d => some (p, Request.code .readBookings, d)
  | .stageBegin p d => some (p, Request.code .stageBegin, d)
  | .stageAppend p d => some (p, Request.code .stageAppend, d)
  | .stageCommit p d => some (p, Request.code .stageCommit, d)
  | .insertBooking p d => some (p, Request.code .insertBooking, d)
  | .deleteBooking p d => some (p, Request.code .deleteBooking, d)
  | .setScheduleEnable p d => some (p, Request.code .setScheduleEnable, d)
  | .setManualLockout p d => some (p, Request.code .setManualLockout, d)
  | .openServiceWindow p d => some (p, Request.code .openServiceWindow, d)
  | .closeServiceWindow p d => some (p, Request.code .closeServiceWindow, d)
  | .readLockout p d => some (p, Request.code .readLockout, d)
  | .readLampAccount p d => some (p, Request.code .readLampAccount, d)
  | .takeAccountSnapshot p d => some (p, Request.code .takeAccountSnapshot, d)
  | .readSnapshot p d => some (p, Request.code .readSnapshot, d)
  | .setLampThresholds p d => some (p, Request.code .setLampThresholds, d)
  | .setLampParameters p d => some (p, Request.code .setLampParameters, d)
  | .lampReplaced p d => some (p, Request.code .lampReplaced, d)
  | .readReplacementHistory p d => some (p, Request.code .readReplacementHistory, d)
  | .clearLampFault p d => some (p, Request.code .clearLampFault, d)
  | .serviceReset p d => some (p, Request.code .serviceReset, d)
  | .factoryReset p d => some (p, Request.code .factoryReset, d)
  | .syncReport p d => some (p, Request.code .syncReport, d)
  | .presenceReport p d => some (p, Request.code .presenceReport, d)
  | .thermalTrip p d => some (p, Request.code .thermalTrip, d)
  | .thermalClear p d => some (p, Request.code .thermalClear, d)
  | .unknownRequest p code d => some (p, code, d)
  | .interByteTimeout _ => none
  | .replySent _ => none
  | .noticeAdmission _ _ _ => none
  | .minuteTick _ => none
  | .ignitionWindowExpiry _ => none
  | .retryWaitExpiry _ => none
  | .coolDownExpiry _ => none
  | .fanTimeEnd _ => none
  | .litRise _ => none
  | .litFall _ => none
  | .acquisitionWindowExpiry => none
  | .settleTimerExpiry => none
  | .encoderStep _ _ => none
  | .indexPulse => none
  | .blankTimerExpiry => none
  | .graceExpiry => none
  | .serviceWindowExpiry => none
  | .powerOnReset _ => none
  | .hardwareReset _ => none
  | .portByteReceived _ _ => none
  | .lossOfPower _ _ => none

/-- R170: the command that a complete frame with code `code` and payload `d` spells on port `p`. Total: a code outside the
catalogue spells UNKNOWN_REQUEST. -/
def decodeFrame (p : Port) (code : Byte) (d : List Byte) : Instr :=
  match lookupCode code with
  | some row => Instr.ofRequest row.request p d
  | none => .unknownRequest p code d

/-- The sum of R168 and R169 over LEN, CODE, payload and CHECK, modulo 256. -/
def frameSum (bytes : List Byte) : Byte := bytes.foldl (· + ·) 0

/-- R168: what a port keeps of a complete request frame: LEN, CODE, payload and the CHECK byte that makes the sum 0. -/
def keptFrame (code : Byte) (d : List Byte) : List Byte :=
  let body := BitVec.ofNat 8 d.length :: code :: d
  body ++ [0 - frameSum body]

/-- R168: the bytes of a request frame. -/
def requestFrame (code : Byte) (d : List Byte) : List Byte := Config.syncByte :: keptFrame code d

/-- The command that a word of the opcode table spells: the table gives no row any bits, so there is none. -/
def decodeTableWord (_nbits _w : Nat) : Option Instr := none

end Sys2Proof
end

