-- ==== Sys2Proof/Machine/State.lean ====
section
/-! DEFINITION. The state of the EQ-430, block by block (00_scope.md, "Blocks and their paths"), as plain data, and the
state right after reset. -/

namespace Sys2Proof.Machine

/-- One item for each lamp. -/
structure PerLamp (α : Type) where
  a : α
  b : α
  deriving DecidableEq, Repr

/-- One item for each port. -/
structure PerPort (α : Type) where
  panel : α
  facility : α
  engine : α
  deriving DecidableEq, Repr

/-- One item for each corner of the image (00_scope.md, "Lamps and corners"). -/
structure PerCorner (α : Type) where
  tl : α
  tr : α
  br : α
  bl : α
  deriving DecidableEq, Repr

/-! ### Lamp Account Unit (01) -/

/-- R9: the life state of a lamp. -/
inductive LifeState where
  | fresh | warn | due | blocked
  deriving DecidableEq, Repr

/-- R1: the account of one lamp, five counters and three thresholds. -/
structure LampAccount where
  wear : Nat
  fullMinutes : Nat
  ecoMinutes : Nat
  strikes : Nat
  dropouts : Nat
  ratedLife : Nat
  warnOffset : Nat
  grace : Nat
  deriving DecidableEq, Repr

/-- R2: the wear weights. -/
structure WearWeights where
  eco : Nat
  penalty : Nat
  deriving DecidableEq, Repr

/-- R19: the record of a retired lamp. -/
structure HistoryRecord where
  lamp : Lamp
  hours : Nat
  strikes : Nat
  dropouts : Nat
  serial : Nat
  deriving DecidableEq, Repr

/-- R138, R139: the week time and whether it is trusted; kept in the backup clock domain. -/
structure WeekClock where
  minute : Nat
  second : Nat
  valid : Bool
  deriving DecidableEq, Repr

/-- R16: the account snapshot. -/
structure AccountSnapshot where
  accounts : PerLamp LampAccount
  life : PerLamp LifeState
  time : WeekClock
  deriving DecidableEq, Repr

/-- The Lamp Account Unit (R1, R2, R10, R16, R20, R21). -/
structure Accounts where
  lamps : PerLamp LampAccount
  life : PerLamp LifeState
  weights : WearWeights
  history : List HistoryRecord
  replacements : Nat
  snapshot : Option AccountSnapshot
  litTicks : Nat
  deriving DecidableEq, Repr

/-! ### Lamp Control Unit (02) -/

/-- R24: the state of a lamp with what is present in that state only. `window` and `retry` are STRIKING in
IGNITION-WINDOW and in RETRY-WAIT. Timers hold whole seconds remaining; a fan time of 0 is over. -/
inductive LampCondition where
  | dark
  | window (attempts : Nat) (timer : Nat) (abandoned : Bool)
  | retry (attempts : Nat) (timer : Nat)
  | lit
  | cooling (timer : Nat) (pending : Bool)
  | failed (fan : Nat)
  deriving DecidableEq, Repr

/-- R24: what the LCU holds for one lamp. -/
structure LampControl where
  condition : LampCondition
  sessionDropouts : Nat
  deriving DecidableEq, Repr

/-- R25: the persisted parameters of the LCU. -/
structure LampParams where
  coolDown : Nat
  strikeLimit : Nat
  deriving DecidableEq, Repr

/-- The Lamp Control Unit (R24, R25). -/
structure Lamps where
  lamp : PerLamp LampControl
  thermalHold : Bool
  params : LampParams
  deriving DecidableEq, Repr

/-! ### Power Demand Unit (03) -/

/-- R52: the demand set, one flag for each claim. -/
structure Demand where
  panel : Bool
  schedule : Bool
  facility : Bool
  deriving DecidableEq, Repr

/-- R51, R56: the projector power state. -/
inductive PowerState where
  | standby | warming | on | coolingDown
  deriving DecidableEq, Repr

/-- R63: the projector power level. -/
inductive PowerLevel where
  | full | eco
  deriving DecidableEq, Repr

/-- R45: the two-lamp policy. -/
inductive LampPolicy where
  | alternate | dual | fixedA | fixedB
  deriving DecidableEq, Repr

/-- R51, R66: the persisted settings of the PDU, the auto-off grace among them. -/
structure PowerSettings where
  defaultLevel : PowerLevel
  policy : LampPolicy
  blankTimeout : Nat
  autoOffGrace : Nat
  deriving DecidableEq, Repr

/-- The Power Demand Unit (R51). The blank timer holds seconds remaining (log 15). -/
structure Power where
  demand : Demand
  state : PowerState
  held : Bool
  degraded : Bool
  session : PerLamp Bool
  latched : Option LampPolicy
  level : PowerLevel
  blank : Bool
  blankTimer : Option Nat
  blankSpent : Bool
  settings : PowerSettings
  deriving DecidableEq, Repr

/-! ### Input Table (04) -/

/-- R70: the timing of a row, with the index that is present only while it is FIXED. -/
inductive Timing where
  | auto
  | fixed (index : Fin 16)
  deriving DecidableEq, Repr

/-- R71: the acquisition status of a row. -/
inductive AcqStatus where
  | idle | acquiring | locked | noSignal
  deriving DecidableEq, Repr

/-- R70: the configuration of a row. -/
structure RowConfig where
  enabled : Bool
  classCode : Byte
  classMask : Byte
  timing : Timing
  preset : Option (Fin 8)
  deriving DecidableEq, Repr

/-- R70: a row of the input table. -/
structure InputRow where
  config : RowConfig
  present : Bool
  status : AcqStatus
  deriving DecidableEq, Repr

/-! ### Acquisition Unit (05) -/

/-- R87: how the current selection was last made. -/
inductive SelectMethod where
  | direct
  | byClass (c : Byte)
  deriving DecidableEq, Repr

/-- R87: the selected input with its selection method. -/
structure Selection where
  row : Fin 10
  method : SelectMethod
  deriving DecidableEq, Repr

/-- R87: a running attempt window, in milliseconds. -/
structure AttemptWindow where
  remaining : Nat
  length : Nat
  deriving DecidableEq, Repr

/-- R96: the acquisition parameters. -/
structure AcqParams where
  initialWindow : Nat
  attemptLimit : Nat
  deriving DecidableEq, Repr

/-- The Acquisition Unit (R87, R88, R96). `strobes` counts the pulses on SEL-STROBE (log 16). -/
structure Acquisition where
  selected : Option Selection
  attempts : Nat
  window : Option AttemptWindow
  params : AcqParams
  selLines : Fin 10
  strobes : Nat
  deriving DecidableEq, Repr

/-! ### Tilt and Geometry Unit (06) -/

/-- The offsets of one corner, in pixels towards the centre. -/
structure Offset where
  dx : Int
  dy : Int
  deriving DecidableEq, Repr

/-- R112: the mode of a preset. -/
inductive PresetMode where
  | autoTrim | trimOnly | off
  deriving DecidableEq, Repr

/-- R112: a stored keystone preset. -/
structure Preset where
  mode : PresetMode
  trims : PerCorner Offset
  deriving DecidableEq, Repr

/-- R111: the calibration values. -/
structure Calibration where
  levelCount : Int
  kfac : Nat
  indexOffset : Int
  deriving DecidableEq, Repr

/-- R120: the applied geometry record. -/
structure GeometryRecord where
  corners : PerCorner Offset
  autoInactive : Bool
  limit : Bool
  clamped : Bool
  mode : PresetMode
  index : Fin 8
  generation : Nat
  deriving DecidableEq, Repr

/-- The Tilt and Geometry Unit (R104, R111, R112). The settle timer holds milliseconds remaining. -/
structure Tilt where
  count : Int
  homed : Bool
  armed : Bool
  settle : Option Nat
  settled : Int
  trims : PerCorner Offset
  bookingPreset : Option (Fin 8)
  rowPreset : Option (Fin 8)
  index : Fin 8
  record : GeometryRecord
  calibration : Calibration
  presets : Vector Preset 8
  deriving DecidableEq, Repr

/-! ### Lockout Unit (07) -/

/-- R124: an open service window, its length in minutes and its remaining seconds. -/
structure ServiceWindow where
  length : Nat
  remaining : Nat
  deriving DecidableEq, Repr

/-- The Lockout Unit (R124). -/
structure Lockout where
  manual : Fin 4
  bookingLevel : Fin 4
  bookingClass : Byte
  window : Option ServiceWindow
  effective : Fin 4
  deriving DecidableEq, Repr

/-! ### Week Clock and Timetable (08) and Staging List (09) -/

/-- R141: the lamp power mode of a booking. -/
inductive BookingMode where
  | default | full | eco
  deriving DecidableEq, Repr

/-- R141: the configuration of a booking. -/
structure BookingConfig where
  id : Nat
  start : Nat
  stop : Nat
  lead : Nat
  sourceClass : Byte
  preset : Option (Fin 8)
  lockout : Fin 4
  mode : BookingMode
  autoOff : Bool
  deriving DecidableEq, Repr

/-- R141: a booking of the live table. -/
structure Booking where
  config : BookingConfig
  extension : Nat
  dismissed : Bool
  deriving DecidableEq, Repr

/-- R142: the schedule state. -/
inductive ScheduleState where
  | disabled | noTime | idle | lead | active | grace
  deriving DecidableEq, Repr

/-- The timetable part of the WCT (R137); its clock is `State.clock`. -/
structure Timetable where
  enable : Bool
  table : List Booking
  cursor : Nat
  state : ScheduleState
  active : Option Nat
  grace : Option Nat
  deriving DecidableEq, Repr

/-- R157: a staged booking, its nine fields exactly as carried. -/
structure RawBooking where
  id : Nat
  start : Nat
  stop : Nat
  lead : Nat
  sourceClass : Byte
  preset : Byte
  lockout : Byte
  mode : Byte
  autoOff : Byte
  deriving DecidableEq, Repr

/-- The Staging List (R157). -/
structure Staging where
  isOpen : Bool
  bookings : List RawBooking
  deriving DecidableEq, Repr

/-! ### Port Units (10) and Notice Queues (11) -/

/-- R167: the receive state of a port. -/
inductive ReceiveState where
  | hunt | header | body | check | replying
  deriving DecidableEq, Repr

/-- R167, R169: a Port Unit. `buffer` holds the bytes kept after the sync byte, in REPLYING the complete frame (R168); `timer` the milliseconds remaining of the
inter-byte timer; `reply` the bytes of the reply frame being sent, none outside REPLYING. -/
structure PortUnit where
  receive : ReceiveState
  buffer : List Byte
  timer : Option Nat
  reply : List Byte
  deriving DecidableEq, Repr

/-- R178: a notice. Its kind, priority, subject kind and subject are those of its topic. -/
structure Notice where
  topic : Topic
  value : BitVec 16
  stamp : Nat
  deriving DecidableEq, Repr

/-- R180, R182: a Notice Queue, oldest notice first. -/
structure NoticeQueue where
  notices : List Notice
  lost : Nat
  mask : Nat
  deriving DecidableEq, Repr

/-! ### The nonvolatile store -/

/-- R21: what a save of the LAU writes. -/
structure SavedAccounts where
  lamps : PerLamp LampAccount
  weights : WearWeights
  history : List HistoryRecord
  replacements : Nat
  deriving DecidableEq, Repr

/-- The nonvolatile store (R172): each piece as last saved, none when nothing has been saved. -/
structure Store where
  accounts : Option SavedAccounts
  lampParams : Option LampParams
  powerSettings : Option PowerSettings
  inputRows : Option (Vector RowConfig 10)
  acqParams : Option AcqParams
  calibration : Option Calibration
  presets : Option (Vector Preset 8)
  manualClaim : Option (Fin 4)
  scheduleEnable : Option Bool
  liveTable : Option (List BookingConfig)
  deriving DecidableEq, Repr

/-- The sensed lines that rules read (00_scope.md, "External connections"): LIT-A and LIT-B, TA and TB, and BACKUP-GOOD as
last sampled. The lines the part drives are computed in Flags.lean and Acquisition (log 14). -/
structure InputLines where
  lit : PerLamp Bool
  ta : Bool
  tb : Bool
  backupGood : Bool
  deriving DecidableEq, Repr

/-! ### The whole part -/

/-- The state of the part. `handed` holds, for each port, the notices posted to its queue and not yet taken by it (R178, log 34),
oldest first; `pending` is the model's queue of waiting commands, `powered` whether the part has power (log 7). -/
structure State where
  accounts : Accounts
  lamps : Lamps
  power : Power
  inputs : Vector InputRow 10
  acq : Acquisition
  tilt : Tilt
  lockout : Lockout
  clock : WeekClock
  timetable : Timetable
  staging : Staging
  ports : PerPort PortUnit
  queues : PerPort NoticeQueue
  handed : PerPort (List Notice)
  store : Store
  lines : InputLines
  powered : Bool
  pending : List Instr
  deriving DecidableEq, Repr

/-- The spec names no condition that stops the part (R170 answers a wrong request, notices report a failing line), so no
command ends in a fault: the type has no constructor. -/
inductive Fault where
  deriving DecidableEq, Repr

/-- Why a command has no answer. -/
inductive Refusal where
  /-- Raised by `exec` for a command that has no meaning yet; none is left. Safe: the model stops. -/
  | notModelled (mnemonic : String)
  deriving DecidableEq, Repr

/-! ### Defaults of a new part -/

/-- R1: the account of a new part. -/
def newAccount : LampAccount := ⟨0, 0, 0, 0, 0, 3000, 300, 100⟩
/-- R2. -/
def newWeights : WearWeights := ⟨10, 15⟩
/-- R25. -/
def newLampParams : LampParams := ⟨120, 3⟩
/-- R51, R69. -/
def newPowerSettings : PowerSettings := ⟨.full, .alternate, 20, 10⟩
/-- R70: the factory state of a row's configuration. -/
def factoryRow : RowConfig := ⟨false, 0, 255, .auto, none⟩
/-- R96. -/
def newAcqParams : AcqParams := ⟨1000, 4⟩
/-- R111. -/
def newCalibration : Calibration := ⟨0, 600, 0⟩
/-- Offsets of 0 at all four corners. -/
def noTrims : PerCorner Offset := ⟨⟨0, 0⟩, ⟨0, 0⟩, ⟨0, 0⟩, ⟨0, 0⟩⟩
/-- R112: the default preset. -/
def newPreset : Preset := ⟨.autoTrim, noTrims⟩
/-- R20, R1, R2: what the LAU takes when the store holds no saved accounts. -/
def newSavedAccounts : SavedAccounts := ⟨⟨newAccount, newAccount⟩, newWeights, [], 0⟩
/-- R167: a port in HUNT with an empty buffer and the timer stopped. -/
def idlePort : PortUnit := ⟨.hunt, [], none, []⟩
/-- R183: an empty queue, lost count 0, mask 0. -/
def emptyQueue : NoticeQueue := ⟨[], 0, 0⟩
/-- A store that holds nothing, as before the first save after manufacture (R1). -/
def emptyStore : Store := ⟨none, none, none, none, none, none, none, none, none, none⟩

/-- The state right after the first power-on of a new part: an empty store and BACKUP-GOOD deasserted, so that TIME-INVALID
stands in the FACILITY queue (R139). The empty store and the levels of the sensed lines are a DESIGN CHOICE (log 6). -/
def State.reset : State where
  accounts := ⟨⟨newAccount, newAccount⟩, ⟨.fresh, .fresh⟩, newWeights, [], 0, none, 0⟩
  lamps := ⟨⟨⟨.cooling 120 false, 0⟩, ⟨.cooling 120 false, 0⟩⟩, false, newLampParams⟩
  power :=
    { demand := ⟨false, false, false⟩, state := .coolingDown, held := false, degraded := false,
      session := ⟨false, false⟩, latched := none, level := .full, blank := false, blankTimer := none,
      blankSpent := false, settings := newPowerSettings }
  inputs := Vector.replicate 10 ⟨factoryRow, false, .idle⟩
  acq := ⟨none, 0, none, newAcqParams, 0, 0⟩
  tilt :=
    { count := 0, homed := false, armed := true, settle := none, settled := 0, trims := noTrims,
      bookingPreset := none, rowPreset := none, index := 0,
      record := ⟨noTrims, true, false, false, .autoTrim, 0, 0⟩,
      calibration := newCalibration, presets := Vector.replicate 8 newPreset }
  lockout := ⟨0, 0, 0, none, 0⟩
  clock := ⟨0, 0, false⟩
  timetable := ⟨false, [], 0, .disabled, none, none⟩
  staging := ⟨false, []⟩
  ports := ⟨idlePort, idlePort, idlePort⟩
  queues := ⟨emptyQueue, ⟨[⟨.timeInvalid, 0, 0⟩], 0, 0⟩, emptyQueue⟩
  handed := ⟨[], [], []⟩
  store := emptyStore
  lines := ⟨⟨false, false⟩, false, false, false⟩
  powered := true
  pending := []

end Sys2Proof.Machine
end

