-- ==== Sys2Proof/Machine/Ops.lean ====
section
/-! DEFINITION. The shared operations: items per lamp, port and corner, the notice queues (11), saving the lamp accounts
(R21), the hand-offs between the blocks, and the guard of a part without power. -/

namespace Sys2Proof

/-- The other lamp. -/
def Lamp.other : Lamp → Lamp
  | .a => .b
  | .b => .a

/-- R179: the priority of a notice kind. -/
def Topic.priority : Topic → Nat
  | .thermalTrip | .lampFailed _ => 7
  | .noLamp | .timeInvalid => 6
  | .lampLife _ | .senseFault _ | .tiltFault => 5
  | .powerState | .lockoutChanged | .resyncRequest _ | .blank => 4
  | .inputSelected _ | .acquisition _ | .geometryChanged | .booking _ => 3
  | .lampState _ | .scheduleCommitted => 2

end Sys2Proof

namespace Sys2Proof.Machine

/-! ### Items per lamp, port and corner -/

def PerLamp.get {α : Type} (x : PerLamp α) : Lamp → α
  | .a => x.a
  | .b => x.b

def PerLamp.set {α : Type} (x : PerLamp α) (l : Lamp) (v : α) : PerLamp α :=
  match l with
  | .a => { x with a := v }
  | .b => { x with b := v }

def PerLamp.map {α β : Type} (f : α → β) (x : PerLamp α) : PerLamp β := ⟨f x.a, f x.b⟩

def PerPort.get {α : Type} (x : PerPort α) : Port → α
  | .panel => x.panel
  | .facility => x.facility
  | .engine => x.engine

def PerPort.set {α : Type} (x : PerPort α) (p : Port) (v : α) : PerPort α :=
  match p with
  | .panel => { x with panel := v }
  | .facility => { x with facility := v }
  | .engine => { x with engine := v }

/-- `f` applied to the lamps of `sel`, one after the other; which is served first when both are is left open (log 5). -/
def forLamps {α : Type} (sel : PerLamp Bool) (f : Lamp → α → α) (x : α) : α :=
  match sel.a, sel.b with
  | false, false => x
  | true, false => f .a x
  | false, true => f .b x
  | true, true => if Config.lampBFirst then f .a (f .b x) else f .b (f .a x)

/-- A vector's items through `f`, written over its list so that the kernel can evaluate it. -/
def mapVector {α β : Type} {n : Nat} (f : α → β) (v : Vector α n) : Vector β n :=
  ⟨(v.toList.map f).toArray, by simp⟩

/-- As `mapVector`, with the item's position. -/
def mapVectorIdx {α β : Type} {n : Nat} (f : Nat → α → β) (v : Vector α n) : Vector β n :=
  ⟨(v.toList.zipIdx.map (fun p => f p.2 p.1)).toArray, by simp⟩

/-! ### Numbers -/

/-- R7: an addition that saturates at `top`. -/
def satAdd (top a b : Nat) : Nat := min top (a + b)

/-- A numeric argument clamped to its range (00_scope.md, "clamped"). -/
def clampNat (lo hi n : Nat) : Nat := max lo (min hi n)

/-- As `clampNat`, for signed arguments and for the clamps of R114, R116 and R119. -/
def clampInt (lo hi x : Int) : Int := max lo (min hi x)

/-! ### Notices (11) -/

/-- The notice at the back takes one more place, or is lost: the lost count saturates (R180). -/
def NoticeQueue.countLost (q : NoticeQueue) : NoticeQueue := { q with lost := satAdd Config.lostMax q.lost 1 }

/-- R180: the lowest priority present below 7. -/
def lowestBelowSeven (ns : List Notice) : Option Nat :=
  ((ns.map (fun n => n.topic.priority)).filter (· < 7)).min?

/-- R180, admission: what a queue does with a notice that finds no twin. -/
def NoticeQueue.admitNew (q : NoticeQueue) (n : Notice) : NoticeQueue :=
  let count := q.notices.length
  if count < Config.queueReserve ∨ (count < Config.queueMax ∧ 4 ≤ n.topic.priority) then
    { q with notices := q.notices ++ [n] }
  else if Config.queueMax ≤ count ∧ n.topic.priority = 7 then
    match lowestBelowSeven q.notices with
    | some low =>
      { q with notices := q.notices.eraseP (fun (m : Notice) => m.topic.priority == low) ++ [n] }.countLost
    | none => q.countLost
  else q.countLost

/-- R180: a queue takes a notice, coalescing it with its twin or admitting it. -/
def NoticeQueue.enqueue (q : NoticeQueue) (n : Notice) : NoticeQueue :=
  if q.notices.any (fun (m : Notice) => m.topic == n.topic) then
    { q with notices := q.notices.map (fun (m : Notice) => if m.topic == n.topic then n else m) }
  else q.admitNew n

/-- R178: the same topic and value. -/
def Notice.says (n : Notice) (topic : Topic) (value : BitVec 16) : Bool := n.topic == topic && n.value == value

/-- R178: the command by which the queue of port `p` takes notice `n`. -/
def Notice.takenBy (n : Notice) (p : Port) (i : Instr) : Bool :=
  match i with
  | .noticeAdmission q topic value => q == p && n.says topic value
  | _ => false

/-- R178, log 34: a notice posted to port `p` waits when a command that takes it is still to come: one more in the command queue
than notices like it already wait. -/
def State.waitsAt (s : State) (n : Notice) (p : Port) : Bool :=
  ((s.handed.get p).filter (fun m => m.says n.topic n.value)).length < (s.pending.filter (n.takenBy p)).length

/-- R178, R180: the queue of port `p` after notice `n` is posted: it takes the notice at once unless the notice waits. -/
def State.queueAfter (s : State) (n : Notice) (p : Port) : NoticeQueue :=
  if n.topic.ports.contains p && !s.waitsAt n p then (s.queues.get p).enqueue n else s.queues.get p

/-- R178: the notices handed to the queue of port `p` and not yet taken, after notice `n` is posted. -/
def State.handedAfter (s : State) (n : Notice) (p : Port) : List Notice :=
  if n.topic.ports.contains p && s.waitsAt n p then s.handed.get p ++ [n] else s.handed.get p

/-- R178: a block posts a notice: it hands it, stamped with the minute the clock shows, to the queue of each port that its kind
names, and each of those queues takes it by itself: at a NOTICE_ADMISSION that is to come, or else at once (log 34). -/
def State.post (s : State) (topic : Topic) (value : Nat) : State :=
  let n : Notice := ⟨topic, BitVec.ofNat 16 value, s.clock.minute⟩
  { s with
    queues := ⟨s.queueAfter n .panel, s.queueAfter n .facility, s.queueAfter n .engine⟩
    handed := ⟨s.handedAfter n .panel, s.handedAfter n .facility, s.handedAfter n .engine⟩ }

/-- R178, R180: the queue of port `p` takes notice `n`. -/
def State.admitAt (s : State) (p : Port) (n : Notice) : State :=
  { s with queues := s.queues.set p ((s.queues.get p).enqueue n) }

/-- R178, R180: the queue of port `p` takes the oldest waiting notice of a topic and value, or, where none waits, one handed to it now.
A queue that the notice kind does not name takes none (log 13). -/
def State.takeHanded (s : State) (p : Port) (topic : Topic) (value : BitVec 16) : State :=
  if topic.ports.contains p then
    match (s.handed.get p).find? (fun n => n.says topic value) with
    | some n =>
      ({ s with handed := s.handed.set p ((s.handed.get p).eraseP (fun m => m.says topic value)) } : State).admitAt p n
    | none => s.admitAt p ⟨topic, value, s.clock.minute⟩
  else s

/-- R183: every queue empty, lost count and mask 0. -/
def State.clearQueues (s : State) : State := { s with queues := ⟨emptyQueue, emptyQueue, emptyQueue⟩ }

/-! ### Saves -/

/-- What a save of the LAU writes (R21). -/
def Accounts.saved (x : Accounts) : SavedAccounts := ⟨x.lamps, x.weights, x.history, x.replacements⟩

/-- R21: a save of the LAU writes its whole persisted state and sets the lit-tick count to 0. -/
def State.saveAccounts (s : State) : State :=
  { s with store.accounts := some s.accounts.saved, accounts.litTicks := 0 }

/-! ### Hand-offs to the Power Demand Unit -/

/-- R44: the five lamp states. -/
inductive LampState where
  | dark | striking | lit | cooling | failed
  deriving DecidableEq, Repr

/-- R44: the state of a lamp in its condition. -/
def LampCondition.state : LampCondition → LampState
  | .dark => .dark
  | .window _ _ _ => .striking
  | .retry _ _ => .striking
  | .lit => .lit
  | .cooling _ _ => .cooling
  | .failed _ => .failed

/-- R52: the holders of power claims. -/
inductive Claim where
  | panel | schedule | facility
  deriving DecidableEq, Repr

/-- R44, R52: what the other blocks hand to the PDU. `opening` is taken by the LCU itself: LIT found asserted at the opening
of an ignition window (R29). `declinedDark` is a declined deferred strike with the change to DARK that comes with it (R35).
`recheck` is the re-check that follows an entry into STANDBY (R60) or the release of the
thermal hold by factory reset (R50). -/
inductive Handoff where
  | changed (l : Lamp) (state : LampState)
  | abandoned (l : Lamp)
  | declined (l : Lamp)
  | declinedDark (l : Lamp)
  | fanOver (l : Lamp)
  | lifeChanged (l : Lamp)
  | tripped
  | holdCleared
  | recheck
  | addClaim (c : Claim)
  | removeClaim (c : Claim)
  | convert
  | opening (l : Lamp)
  deriving DecidableEq, Repr

/-- A state in the middle of a step, with the hand-offs not yet taken, oldest first (log 8). -/
structure Work where
  s : State
  out : List Handoff
  deriving DecidableEq, Repr

/-- A change of the state that hands nothing over. -/
def Work.edit (w : Work) (f : State → State) : Work := { w with s := f w.s }

/-- One more hand-off. -/
def Work.hand (w : Work) (h : Handoff) : Work := { w with out := w.out ++ [h] }

/-! ### Power -/

/-- A part without power carries nothing out (log 7). -/
def whenPowered (f : State → State) (s : State) : State := if s.powered then f s else s

end Sys2Proof.Machine
end

