-- ==== Sys2Proof/Machine/Flags.lean ====
section
/-! DEFINITION. The conditions and lines that are functions of the state: lamp states and eligibility (R27), the output lines
IGNITE, ECO, FAN and the attention lines (R12, R26, R41, R182), and the active and the awaited booking (R137, R143). -/

namespace Sys2Proof.Machine

/-- The condition of lamp `l` (R24). -/
def State.condition (s : State) (l : Lamp) : LampCondition := (s.lamps.lamp.get l).condition

/-- The state of lamp `l` (R44). -/
def State.lampState (s : State) (l : Lamp) : LampState := (s.condition l).state

/-- R27: a lamp that may be struck now. -/
def State.eligible (s : State) (l : Lamp) : Bool :=
  s.lampState l == .dark && s.accounts.life.get l != .blocked && !s.lamps.thermalHold

/-- R27: a lamp that may be struck now or when its cool-down ends. -/
def State.available (s : State) (l : Lamp) : Bool :=
  (s.lampState l == .dark || s.lampState l == .cooling) && s.accounts.life.get l != .blocked && !s.lamps.thermalHold

/-- Some lamp is available (R57, R61). -/
def State.anyAvailable (s : State) : Bool := s.available .a || s.available .b

/-- Some lamp is LIT (R58, R59). -/
def State.anyLit (s : State) : Bool := s.lampState .a == .lit || s.lampState .b == .lit

/-- Some lamp is STRIKING (R58, R59). -/
def State.anyStriking (s : State) : Bool := s.lampState .a == .striking || s.lampState .b == .striking

/-- R60: a lamp that is not STRIKING, LIT, COOLING or FAILED within its fan time. -/
def LampCondition.resting : LampCondition → Bool
  | .dark => true
  | .failed fan => fan == 0
  | .window _ _ _ => false
  | .retry _ _ => false
  | .lit => false
  | .cooling _ _ => false

/-- R56, R60: both lamps are at rest. -/
def State.quiet (s : State) : Bool := (s.condition .a).resting && (s.condition .b).resting

/-- R26: the IGNITE line of a lamp. -/
def State.igniteLine (s : State) (l : Lamp) : Bool :=
  s.powered && (match s.condition l with
    | .window _ _ _ => true
    | .lit => true
    | .dark => false
    | .retry _ _ => false
    | .cooling _ _ => false
    | .failed _ => false)

/-- R12: a lamp whose life state forces it to ECO. -/
def LifeState.forcesEco : LifeState → Bool
  | .due => true
  | .blocked => true
  | .fresh => false
  | .warn => false

/-- R12, R63: the ECO line of a lamp. -/
def State.ecoLine (s : State) (l : Lamp) : Bool :=
  s.powered && ((s.accounts.life.get l).forcesEco || s.power.level == .eco)

/-- R41: the FAN line. -/
def State.fanLine (s : State) : Bool := s.powered && !s.quiet

/-- R182: what asserts an attention line. -/
def NoticeQueue.attention (q : NoticeQueue) : Bool :=
  q.notices.any (fun n => q.mask < n.topic.priority || n.topic.priority == 7)

/-- R182: the attention line of a port. -/
def State.attentionLine (s : State) (p : Port) : Bool := s.powered && (s.queues.get p).attention

/-- The booking of the live table with a given id. -/
def Timetable.find (t : Timetable) (id : Nat) : Option Booking := t.table.find? (fun b => b.config.id == id)

/-- R137: the record of the active booking. -/
def State.activeBooking (s : State) : Option Booking := s.timetable.active.bind s.timetable.find

/-- R143: the awaited booking. -/
def Timetable.awaited (t : Timetable) : Option Booking :=
  if t.cursor < t.table.length then t.table[t.cursor]? else t.table.head?

/-- R143: minutes from the present minute forward to a booking's start, modulo a week. -/
def State.distance (s : State) (b : Booking) : Nat :=
  (b.config.start + Config.weekMinutes - s.clock.minute) % Config.weekMinutes

/-- R143: the present minute lies in the lead window of the booking. -/
def State.inLeadWindow (s : State) (b : Booking) : Bool :=
  s.timetable.active.isNone && 0 < b.config.lead && 1 ≤ s.distance b && s.distance b ≤ b.config.lead

end Sys2Proof.Machine
end

