-- ==== Sys2Proof/Machine/Operands.lean ====
section
/-! DEFINITION. The operand forms of frames: reading the coded arguments of a request (R171, R175) and writing the fields of a
reply (R175, R176, R177), with the status codes (R170). -/

namespace Sys2Proof.Machine

/-! ### Statuses and answers (R170) -/

inductive Status where
  | ok | accepted | clamped | badFrame | unknownRequest | notPermitted | badArgument | refusedLocked | refusedState
  | conflict | full | noMatch | empty
  deriving DecidableEq, Repr

/-- R170: the status codes. -/
def Status.code : Status → Byte
  | .ok => 0x00
  | .accepted => 0x01
  | .clamped => 0x02
  | .badFrame => 0x10
  | .unknownRequest => 0x11
  | .notPermitted => 0x12
  | .badArgument => 0x13
  | .refusedLocked => 0x20
  | .refusedState => 0x21
  | .conflict => 0x22
  | .full => 0x23
  | .noMatch => 0x24
  | .empty => 0x25

/-- What the owning block answers: a status and the payload after it. -/
structure Answer where
  status : Status
  payload : List Byte
  deriving DecidableEq, Repr

/-- R170: a request of the wrong length. -/
def badLength : Answer := ⟨.badArgument, [0]⟩
/-- R177: BAD-ARGUMENT without payload. -/
def badArgument : Answer := ⟨.badArgument, []⟩
/-- OK, or CLAMPED when an argument was clamped. -/
def okOrClamped (clamped : Bool) (payload : List Byte) : Answer := ⟨if clamped then .clamped else .ok, payload⟩

/-- R169: the bytes of a reply frame, the CHECK byte making the sum 0. -/
def replyFrame (code : Byte) (x : Answer) : List Byte :=
  let body := BitVec.ofNat 8 x.payload.length :: code :: x.status.code :: x.payload
  Config.syncByte :: (body ++ [0 - frameSum body])

/-! ### Numbers in frames: little-endian, two's complement (00_scope.md) -/

/-- A two-byte unsigned number. -/
def readU16 (lo hi : Byte) : Nat := lo.toNat + 256 * hi.toNat
/-- A two-byte signed number. -/
def readS16 (lo hi : Byte) : Int := (hi ++ lo).toInt
/-- A run of two-byte signed numbers. -/
def readS16s : List Byte → List Int
  | lo :: hi :: rest => readS16 lo hi :: readS16s rest
  | _ => []
/-- One byte of a number. -/
def byteOf (n : Nat) : Byte := BitVec.ofNat 8 n
def le16 (n : Nat) : List Byte := [byteOf n, byteOf (n / 256)]
def le24 (n : Nat) : List Byte := [byteOf n, byteOf (n / 256), byteOf (n / 65536)]
def le32 (n : Nat) : List Byte := [byteOf n, byteOf (n / 256), byteOf (n / 65536), byteOf (n / 16777216)]
def leS16 (x : Int) : List Byte := le16 (BitVec.ofInt 16 x).toNat
def byteS8 (x : Int) : Byte := BitVec.ofInt 8 x

/-! ### Codes (R175): reading -/

def readLamp (x : Byte) : Option Lamp := if x = 0 then some .a else if x = 1 then some .b else none
def readFlag (x : Byte) : Option Bool := if x = 0 then some false else if x = 1 then some true else none
def readLevel (x : Byte) : Option PowerLevel := if x = 0 then some .full else if x = 1 then some .eco else none
def readBookingMode (x : Byte) : Option BookingMode :=
  if x = 0 then some .default else if x = 1 then some .full else if x = 2 then some .eco else none
def readPolicy (x : Byte) : Option LampPolicy :=
  if x = 0 then some .alternate else if x = 1 then some .dual else if x = 2 then some .fixedA
  else if x = 3 then some .fixedB else none
def readCorner (x : Byte) : Option (Fin 4) := if h : x.toNat < 4 then some ⟨x.toNat, h⟩ else none
def readPresetMode (x : Byte) : Option PresetMode :=
  if x = 0 then some .autoTrim else if x = 1 then some .trimOnly else if x = 2 then some .off else none
/-- A row number 0..9. -/
def readRow (x : Byte) : Option (Fin 10) := if h : x.toNat < 10 then some ⟨x.toNat, h⟩ else none
/-- A preset number 0..7. -/
def readPresetNumber (x : Byte) : Option (Fin 8) := if h : x.toNat < 8 then some ⟨x.toNat, h⟩ else none
/-- A preset reference: 0..7, 0xFF for none; the outer none for 8..254. -/
def readPresetRef (x : Byte) : Option (Option (Fin 8)) :=
  if x = 0xFF then some none else (readPresetNumber x).map some
/-- A lockout level 0..3. -/
def readLockoutLevel (x : Byte) : Option (Fin 4) := if h : x.toNat < 4 then some ⟨x.toNat, h⟩ else none

/-! ### Codes (R175, R177): writing -/

def flagByte (b : Bool) : Byte := if b then 1 else 0
def lampByte : Lamp → Byte
  | .a => 0
  | .b => 1
def levelByte : PowerLevel → Byte
  | .full => 0
  | .eco => 1
def presetModeByte : PresetMode → Byte
  | .autoTrim => 0
  | .trimOnly => 1
  | .off => 2
def presetRefByte : Option (Fin 8) → Byte
  | none => 0xFF
  | some n => byteOf n.val
def inputRefByte : Option (Fin 10) → Byte
  | none => 0xFF
  | some n => byteOf n.val
def bookingModeByte : BookingMode → Byte
  | .default => 0
  | .full => 1
  | .eco => 2
/-- R10: life state codes. -/
def LifeState.number : LifeState → Nat
  | .fresh => 0
  | .warn => 1
  | .due => 2
  | .blocked => 3
/-- R44: lamp state codes. -/
def LampState.number : LampState → Nat
  | .dark => 0
  | .striking => 1
  | .lit => 2
  | .cooling => 3
  | .failed => 4
/-- R101: acquisition status codes, IDLE 0. -/
def AcqStatus.number : AcqStatus → Nat
  | .idle => 0
  | .acquiring => 1
  | .locked => 2
  | .noSignal => 3
/-- R142: schedule state codes. -/
def ScheduleState.number : ScheduleState → Nat
  | .disabled => 0
  | .noTime => 1
  | .idle => 2
  | .lead => 3
  | .active => 4
  | .grace => 5
/-- R56: power state codes. -/
def PowerState.number : PowerState → Nat
  | .standby => 0
  | .warming => 1
  | .on => 2
  | .coolingDown => 3
/-- R56: the value of POWER-STATE, and R177's power state byte. -/
def Power.number (x : Power) : Nat :=
  x.state.number + (if x.held then 16 else 0) + (if x.degraded then 32 else 0)
/-- R177: the demand set byte. -/
def Demand.byte (d : Demand) : Byte :=
  byteOf ((if d.panel then 1 else 0) + (if d.schedule then 2 else 0) + (if d.facility then 4 else 0))
/-- R177: the selection method byte. -/
def methodByte : Option Selection → Byte
  | none => 0
  | some ⟨_, .direct⟩ => 0
  | some ⟨_, .byClass c⟩ => c
/-- R177: a booking id of 0 stands for none. -/
def idBytes (id : Option Nat) : List Byte := le16 (id.getD 0)

end Sys2Proof.Machine
end

