-- ==== Sys2Proof/Machine/Geometry.lean ====
section
/-! DEFINITION. The Tilt and Geometry Unit (06): counting, homing, settling, the keystone computation and the applied geometry
record. -/

namespace Sys2Proof.Machine

/-! ### Corners -/

/-- The corner that a corner code names: 0 TL, 1 TR, 2 BR, 3 BL (R175). -/
def PerCorner.get {α : Type} (x : PerCorner α) (i : Fin 4) : α :=
  match i with
  | 0 => x.tl
  | 1 => x.tr
  | 2 => x.br
  | 3 => x.bl

def PerCorner.set {α : Type} (x : PerCorner α) (i : Fin 4) (v : α) : PerCorner α :=
  match i with
  | 0 => { x with tl := v }
  | 1 => { x with tr := v }
  | 2 => { x with br := v }
  | 3 => { x with bl := v }

def PerCorner.zip {α β γ : Type} (f : α → β → γ) (x : PerCorner α) (y : PerCorner β) : PerCorner γ :=
  ⟨f x.tl y.tl, f x.tr y.tr, f x.br y.br, f x.bl y.bl⟩

def PerCorner.map {α β : Type} (f : α → β) (x : PerCorner α) : PerCorner β := ⟨f x.tl, f x.tr, f x.br, f x.bl⟩

def PerCorner.any {α : Type} (f : α → Bool) (x : PerCorner α) : Bool := f x.tl || f x.tr || f x.br || f x.bl

def Offset.add (x y : Offset) : Offset := ⟨x.dx + y.dx, x.dy + y.dy⟩

/-- An offset clamped to `lo..hi` in dx and `lo'..hi'` in dy. -/
def Offset.clamp (x : Offset) (lo hi lo' hi' : Int) : Offset := ⟨clampInt lo hi x.dx, clampInt lo' hi' x.dy⟩

/-! ### The keystone computation (R118, R119) -/

/-- R118: round-half-up of |d| × kfac / 4,096. -/
def rawInset (d : Int) (kfac : Nat) : Nat := (d.natAbs * kfac + 2048) / 4096

/-- R118: the tilt from level, d. -/
def Tilt.offLevel (t : Tilt) : Int := t.settled - t.calibration.levelCount

/-- The applied preset. -/
def Tilt.preset (t : Tilt) : Preset := t.presets[t.index]

/-- R118: the automatic inset takes part: mode AUTO+TRIM with the encoder homed. -/
def Tilt.autoActive (t : Tilt) : Bool := t.preset.mode == .autoTrim && t.homed

/-- R118: the automatic inset A before its cap. -/
def Tilt.inset (t : Tilt) : Nat := if t.autoActive then rawInset t.offLevel t.calibration.kfac else 0

/-- R118: the automatic dx of each corner, A capped. -/
def Tilt.autoCorners (t : Tilt) : PerCorner Offset :=
  let inset : Offset := ⟨min (t.inset : Int) Config.dxMax, 0⟩
  let zero : Offset := ⟨0, 0⟩
  if 0 < t.offLevel then ⟨inset, inset, zero, zero⟩
  else if t.offLevel < 0 then ⟨zero, zero, inset, inset⟩
  else ⟨zero, zero, zero, zero⟩

/-- R119: the sums of automatic dx, preset trims and session trims. -/
def Tilt.cornerSums (t : Tilt) : PerCorner Offset :=
  PerCorner.zip Offset.add (PerCorner.zip Offset.add t.autoCorners t.preset.trims) t.trims

/-- R119: the applied offsets of one corner. -/
def Offset.applied (x : Offset) : Offset := x.clamp 0 Config.dxMax 0 Config.dyMax

/-- R118, R119, R120: the record formed afresh, with the generation as held. -/
def Tilt.form (t : Tilt) : GeometryRecord :=
  if t.preset.mode = .off then
    ⟨noTrims, false, false, false, .off, t.index, t.record.generation⟩
  else
    { corners := t.cornerSums.map Offset.applied
      autoInactive := t.preset.mode == .autoTrim && !t.homed
      limit := Config.dxMax < (t.inset : Int)
      clamped := t.cornerSums.any (fun x => x.applied != x)
      mode := t.preset.mode
      index := t.index
      generation := t.record.generation }

/-- R120: a recomputation. A record that differs is replaced, its generation advanced and GEOMETRY-CHANGED posted. -/
def State.recomputeGeometry (s : State) : State :=
  let formed := s.tilt.form
  if formed = s.tilt.record then s
  else
    let generation := (s.tilt.record.generation + 1) % 256
    ({ s with tilt.record := { formed with generation := generation } }).post .geometryChanged generation

/-- R122, R123: the record formed afresh with generation 0, nothing posted. -/
def Tilt.freshRecord (t : Tilt) : Tilt := { t with record := { t.form with generation := 0 } }

/-! ### The applied preset index (R117) -/

/-- R117: the order of choice. -/
def chooseIndex (booking row : Option (Fin 8)) : Fin 8 := (booking.or row).getD 0

/-- R117: a hand-off that may change the presets named; `clear` when it clears the session trims in any case. -/
def State.handPresets (s : State) (booking row : Option (Fin 8)) (clear : Bool) : State :=
  let index := chooseIndex booking row
  let moved := index != s.tilt.index
  let s := { s with tilt.bookingPreset := booking, tilt.rowPreset := row, tilt.index := index }
  if moved || clear then ({ s with tilt.trims := noTrims }).recomputeGeometry else s

/-- R117: a change of the selected input, to a row with this preset or to none. -/
def State.handSelection (s : State) (row : Option (Fin 8)) : State := s.handPresets s.tilt.bookingPreset row true

/-- R79, R117: a change of the selected row's preset. -/
def State.handRowPreset (s : State) (row : Option (Fin 8)) : State := s.handPresets s.tilt.bookingPreset row false

/-- R117: the booking preset from the WCT. -/
def State.handBookingPreset (s : State) (booking : Option (Fin 8)) : State := s.handPresets booking s.tilt.rowPreset false

/-- R115: the session trims of all corners return to 0 and the geometry is recomputed. -/
def State.clearTrims (s : State) : State := ({ s with tilt.trims := noTrims }).recomputeGeometry

/-! ### Counting, homing and settling (R105, R107, R109) -/

/-- R105: the position of the quadrature pair in its cyclic order. -/
def quadrature (ta tb : Bool) : Nat :=
  match ta, tb with
  | false, false => 0
  | true, false => 1
  | true, true => 2
  | false, true => 3

/-- R105: a change of the count restarts the settle timer. -/
def State.setCount (s : State) (n : Int) : State :=
  { s with tilt.count := n, tilt.settle := some Config.settleTime }

/-- R106: a step that would leave the range is not taken. -/
def State.rangeFault (s : State) : State :=
  (({ s with tilt.homed := false }).post .tiltFault 1).recomputeGeometry

/-- R105, R106: a step of the count by `by_`, 1 or −1. -/
def State.stepCount (s : State) (by_ : Int) : State :=
  let n := s.tilt.count + by_
  if n < -Config.tiltMax ∨ Config.tiltMax < n then s.rangeFault else s.setCount n

/-- R105: the quadrature lines pass from the levels held to new ones. -/
def State.encoderPassage (s : State) (ta tb : Bool) : State :=
  let turn := (quadrature ta tb + 4 - quadrature s.lines.ta s.lines.tb) % 4
  let s := { s with lines.ta := ta, lines.tb := tb }
  if turn = 1 then s.stepCount 1
  else if turn = 3 then s.stepCount (-1)
  else if turn = 2 then s.post .tiltFault 3
  else s

/-- R107: an index pulse sets the count to the offset, restarting the settle timer when the count changes. -/
def State.countToOffset (s : State) : State :=
  if s.tilt.count = s.tilt.calibration.indexOffset then s else s.setCount s.tilt.calibration.indexOffset

/-- R107: an index pulse. -/
def State.indexPulse (s : State) : State :=
  if s.tilt.armed then
    ({ s.countToOffset with tilt.homed := true, tilt.armed := false }).recomputeGeometry
  else if s.tilt.homed then
    let slip := Config.indexPlay < (s.tilt.count - s.tilt.calibration.indexOffset).natAbs
    let s := s.countToOffset
    (if slip then s.post .tiltFault 2 else s).recomputeGeometry
  else s

/-- R109: the settle timer expires. -/
def State.settleExpiry (s : State) : State :=
  if s.tilt.settle.isNone then s
  else
    let s := { s with tilt.settle := none }
    if s.tilt.count = s.tilt.settled then s
    else ({ s with tilt.settled := s.tilt.count }).recomputeGeometry

/-! ### Requests -/

/-- A corner's two offsets as two-byte numbers (R176, R177). -/
def Offset.bytes (x : Offset) : List Byte := leS16 x.dx ++ leS16 x.dy

/-- R177: the preset record. -/
def presetBytes (n : Fin 8) (x : Preset) : List Byte :=
  [byteOf n.val, presetModeByte x.mode] ++ x.trims.tl.bytes ++ x.trims.tr.bytes ++ x.trims.br.bytes ++ x.trims.bl.bytes

/-- The generation in a reply. -/
def State.generationByte (s : State) : Byte := byteOf s.tilt.record.generation

/-- R112: the eight trims of Write Preset, dx then dy for TL, TR, BR, BL. -/
def readTrims : List Int → PerCorner Offset
  | [tlx, tly, trx, try_, brx, bry, blx, bly] => ⟨⟨tlx, tly⟩, ⟨trx, try_⟩, ⟨brx, bry⟩, ⟨blx, bly⟩⟩
  | _ => noTrims

/-- R112: trims clamped to the preset trim ranges. -/
def clampTrims (x : PerCorner Offset) : PerCorner Offset :=
  x.map (fun o => o.clamp (-Config.dxMax) Config.dxMax (-Config.dyMax) Config.dyMax)

/-- A preset replaced, and all presets saved (R112, R116). -/
def State.savePreset (s : State) (n : Fin 8) (x : Preset) : State :=
  let presets := s.tilt.presets.set n.val x n.isLt
  { s with tilt.presets := presets, store.presets := some presets }

/-- R112: Write Preset. -/
def writePreset (d : List Byte) (s : State) : State × Answer :=
  match d with
  | number :: mode :: rest =>
    match readPresetNumber number with
    | none => (s, ⟨.badArgument, [1]⟩)
    | some n => match readPresetMode mode with
      | none => (s, ⟨.badArgument, [2]⟩)
      | some m =>
        let asked := readTrims (readS16s rest)
        let taken := clampTrims asked
        let x : Preset := ⟨m, taken⟩
        let s := s.savePreset n x
        let s := if n = s.tilt.index then s.recomputeGeometry else s
        (s, okOrClamped (taken != asked) (presetBytes n x ++ [s.generationByte]))
  | _ => (s, badLength)

/-- R113: Read Preset. -/
def readPreset (d : List Byte) (s : State) : State × Answer :=
  match d with
  | [x] => match readPresetNumber x with
    | none => (s, badArgument)
    | some n => (s, ⟨.ok, presetBytes n s.tilt.presets[n] ++ [flagByte (n == s.tilt.index)]⟩)
  | _ => (s, badLength)

/-- R114: Nudge Corner. -/
def nudgeCorner (d : List Byte) (s : State) : State × Answer :=
  match d with
  | [c, ddx, ddy] => match readCorner c with
    | none => (s, badArgument)
    | some i =>
      let asked := (s.tilt.trims.get i).add ⟨ddx.toInt, ddy.toInt⟩
      let taken := asked.clamp (-Config.trimMax) Config.trimMax (-Config.trimMax) Config.trimMax
      let s := ({ s with tilt.trims := s.tilt.trims.set i taken }).recomputeGeometry
      (s, okOrClamped (taken != asked) [byteS8 taken.dx, byteS8 taken.dy, s.generationByte])
  | _ => (s, badLength)

/-- R115: Clear Session Trims. -/
def clearSessionTrims (_d : List Byte) (s : State) : State × Answer :=
  let s := s.clearTrims
  (s, ⟨.ok, [s.generationByte]⟩)

/-- R116: Store Session Trims. -/
def storeSessionTrims (_d : List Byte) (s : State) : State × Answer :=
  let asked := PerCorner.zip Offset.add s.tilt.preset.trims s.tilt.trims
  let taken := clampTrims asked
  let x : Preset := ⟨s.tilt.preset.mode, taken⟩
  let n := s.tilt.index
  let s := (s.savePreset n x).clearTrims
  (s, okOrClamped (taken != asked) (presetBytes n x ++ [s.generationByte]))

/-- R111: Set Keystone Calibration. -/
def setKeystoneCalibration (d : List Byte) (s : State) : State × Answer :=
  match d with
  | [l0, l1, k0, k1, o0, o1] =>
    let level := readS16 l0 l1
    let kfac := readU16 k0 k1
    let offset := readS16 o0 o1
    let c : Calibration :=
      ⟨clampInt (-Config.tiltMax) Config.tiltMax level, clampNat 0 4095 kfac, clampInt (-Config.tiltMax) Config.tiltMax offset⟩
    let moved := c.indexOffset != s.tilt.calibration.indexOffset
    let s := { s with tilt.calibration := c, tilt.homed := s.tilt.homed && !moved, tilt.armed := s.tilt.armed || moved }
    let s := { s with store.calibration := some c }
    let s := s.recomputeGeometry
    (s, okOrClamped (c != ⟨level, kfac, offset⟩)
      (leS16 c.levelCount ++ le16 c.kfac ++ leS16 c.indexOffset
        ++ [flagByte s.tilt.homed, flagByte s.tilt.armed, s.generationByte]))
  | _ => (s, badLength)

/-- R108: Arm Homing. -/
def armHoming (_d : List Byte) (s : State) : State × Answer :=
  let s := { s with tilt.armed := true }
  (s, ⟨.ok, [flagByte s.tilt.homed, flagByte s.tilt.armed]⟩)

/-- R176: the flags byte of the geometry record. -/
def GeometryRecord.flags (r : GeometryRecord) : Byte :=
  byteOf (r.autoInactive.toNat + 2 * r.limit.toNat + 4 * r.clamped.toNat)

/-- R121: Read Geometry. -/
def readGeometry (_d : List Byte) (s : State) : State × Answer :=
  let r := s.tilt.record
  (s, ⟨.ok, r.corners.tl.bytes ++ r.corners.tr.bytes ++ r.corners.br.bytes ++ r.corners.bl.bytes
    ++ [r.flags, presetModeByte r.mode, byteOf r.index.val, byteOf r.generation]⟩)

/-- R121: Read Corners. -/
def readCorners (d : List Byte) (s : State) : State × Answer :=
  match d with
  | [x] => match readCorner x with
    | none => (s, badArgument)
    | some i =>
      let c := s.tilt.record.corners
      (s, ⟨.ok, [x] ++ (c.get i).bytes ++ (c.get (i + 1)).bytes ++ (c.get (i + 2)).bytes ++ (c.get (i + 3)).bytes
        ++ [s.generationByte]⟩)
  | _ => (s, badLength)

/-- R110: Read Tilt. -/
def readTilt (_d : List Byte) (s : State) : State × Answer :=
  let t := s.tilt
  (s, ⟨.ok, leS16 t.count ++ leS16 t.settled ++ [flagByte t.homed, flagByte t.armed, flagByte t.settle.isSome]
    ++ leS16 t.calibration.indexOffset ++ leS16 t.calibration.levelCount⟩)

end Sys2Proof.Machine
end

