-- ==== Sys2Proof/Machine/LampAccounts.lean ====
section
/-! DEFINITION. The Lamp Account Unit (01): wear, life states, the account snapshot and the replacement history. What a change
of life state does in the other units is in LampControl.lean and PowerDemand.lean. -/

namespace Sys2Proof.Machine

/-- R8: the wear hours of an account. -/
def LampAccount.hours (x : LampAccount) : Nat := x.wear / Config.wearHour

/-- R9: the life state of an account. -/
def LampAccount.lifeState (x : LampAccount) : LifeState :=
  let warn := min x.warnOffset x.ratedLife
  if x.hours < x.ratedLife - warn then .fresh
  else if x.hours < x.ratedLife then .warn
  else if x.hours < x.ratedLife + x.grace then .due
  else .blocked

/-- R7: wear added to an account, saturating. -/
def LampAccount.addWear (x : LampAccount) (sixteenths : Nat) : LampAccount :=
  { x with wear := satAdd Config.wearMax x.wear sixteenths }

/-- R5: the charge of one ignition pulse. -/
def LampAccount.chargePulse (x : LampAccount) (w : WearWeights) : LampAccount :=
  let x := x.addWear (w.penalty * 16)
  { x with strikes := satAdd Config.countMax x.strikes 1 }

/-- R6: the count of one dropout. -/
def LampAccount.chargeDropout (x : LampAccount) : LampAccount :=
  { x with dropouts := satAdd Config.countMax x.dropouts 1 }

/-- R3: the charge of one minute tick, at the level the ECO line shows. -/
def LampAccount.chargeMinute (x : LampAccount) (w : WearWeights) (eco : Bool) : LampAccount :=
  if eco then
    let x := x.addWear w.eco
    { x with ecoMinutes := satAdd Config.minuteCountMax x.ecoMinutes 1 }
  else
    let x := x.addWear 16
    { x with fullMinutes := satAdd Config.minuteCountMax x.fullMinutes 1 }

/-- The account of a lamp. -/
def State.account (s : State) (l : Lamp) : LampAccount := s.accounts.lamps.get l

/-- A change of one account. -/
def State.setAccount (s : State) (l : Lamp) (x : LampAccount) : State :=
  { s with accounts.lamps := s.accounts.lamps.set l x }

/-- R10, without what the LCU and the PDU make of it: the life state is taken from the account, and LAMP-LIFE is posted when
it differs from the one held. -/
def State.recomputeLife (s : State) (l : Lamp) : State :=
  let life := (s.account l).lifeState
  if life = s.accounts.life.get l then s
  else ({ s with accounts.life := s.accounts.life.set l life }).post (.lampLife l) life.number

/-- R3: the charge of a lamp that is LIT at the tick. -/
def State.chargeMinute (l : Lamp) (s : State) : State :=
  s.setAccount l ((s.account l).chargeMinute s.accounts.weights (s.ecoLine l))

/-- R21: the lit-tick count takes a tick at which some lamp was LIT. -/
def State.countLitTick (s : State) : State :=
  if s.accounts.litTicks + 1 < Config.litTickSave then
    { s with accounts.litTicks := s.accounts.litTicks + 1 }
  else s.saveAccounts

/-- R176: the account record of a reply. -/
def accountBytes (l : Lamp) (x : LampAccount) (life : LifeState) : List Byte :=
  [lampByte l] ++ le32 x.wear ++ le32 x.hours ++ le24 x.fullMinutes ++ le24 x.ecoMinutes ++ le16 x.strikes
    ++ le16 x.dropouts ++ le16 x.ratedLife ++ le16 x.warnOffset ++ le16 x.grace ++ [byteOf life.number]

/-- A week time in a reply (R177): minute, second and time-valid. -/
def clockBytes (c : WeekClock) : List Byte := le16 c.minute ++ [byteOf c.second, flagByte c.valid]

/-- R15: Read Lamp Account. -/
def readLampAccount (d : List Byte) (s : State) : State × Answer :=
  match d with
  | [x] => match readLamp x with
    | none => (s, badArgument)
    | some l => (s, ⟨.ok, accountBytes l (s.account l) (s.accounts.life.get l)⟩)
  | _ => (s, badLength)

/-- R16: Take Account Snapshot. -/
def takeAccountSnapshot (_d : List Byte) (s : State) : State × Answer :=
  ({ s with accounts.snapshot := some ⟨s.accounts.lamps, s.accounts.life, s.clock⟩ }, ⟨.ok, clockBytes s.clock⟩)

/-- R17: Read Snapshot. -/
def readSnapshot (d : List Byte) (s : State) : State × Answer :=
  match d with
  | [x] => match readLamp x with
    | none => (s, badArgument)
    | some l => match s.accounts.snapshot with
      | none => (s, ⟨.empty, []⟩)
      | some snap => (s, ⟨.ok, accountBytes l (snap.accounts.get l) (snap.life.get l) ++ clockBytes snap.time⟩)
  | _ => (s, badLength)

/-- R177: the history record of a reply. -/
def historyBytes (r : HistoryRecord) : List Byte :=
  [lampByte r.lamp] ++ le32 r.hours ++ le16 r.strikes ++ le16 r.dropouts ++ le16 r.serial

/-- R20: Read Replacement History. -/
def readReplacementHistory (_d : List Byte) (s : State) : State × Answer :=
  match s.accounts.history with
  | [] => (s, ⟨.empty, []⟩)
  | h => (s, ⟨.ok, [byteOf h.length] ++ h.flatMap historyBytes ++ le16 s.accounts.replacements⟩)

/-- R19, steps 1 and 2: the retired lamp's record goes onto the front of the history and its counters to zero. -/
def State.retireLamp (s : State) (l : Lamp) : State :=
  let x := s.account l
  let serial := satAdd Config.countMax s.accounts.replacements 1
  let record : HistoryRecord := ⟨l, x.hours, x.strikes, x.dropouts, serial⟩
  let s := { s with accounts.history := (record :: s.accounts.history).take Config.historyMax, accounts.replacements := serial }
  s.setAccount l { x with wear := 0, fullMinutes := 0, ecoMinutes := 0, strikes := 0, dropouts := 0 }

/-- R13, step 1: the three thresholds of a lamp. -/
def State.setThresholds (s : State) (l : Lamp) (rated warn grace : Nat) : State :=
  s.setAccount l { s.account l with ratedLife := rated, warnOffset := warn, grace := grace }

/-- R22: the LAU after a restore: saved accounts or defaults, life states from the accounts, no snapshot, count 0. -/
def SavedAccounts.restored (x : SavedAccounts) : Accounts :=
  ⟨x.lamps, x.lamps.map LampAccount.lifeState, x.weights, x.history, x.replacements, none, 0⟩

end Sys2Proof.Machine
end

