-- ==== Sys2Proof/Machine/LampControl.lean ====
section
/-! DEFINITION. The Lamp Control Unit (02): strike and stop orders, ignition, cooling, dropouts, failure and thermal trip. Each
operation works on a `Work`: it changes the LCU and the LAU at once and hands the outcome to the PDU (R44). -/

namespace Sys2Proof.Machine

/-- A lamp's condition written, nothing else. -/
def State.setCondition (s : State) (l : Lamp) (c : LampCondition) : State :=
  { s with lamps.lamp := s.lamps.lamp.set l { s.lamps.lamp.get l with condition := c } }

/-- A lamp's session dropout count written (R37). -/
def State.setSessionDropouts (s : State) (l : Lamp) (n : Nat) : State :=
  { s with lamps.lamp := s.lamps.lamp.set l { s.lamps.lamp.get l with sessionDropouts := n } }

/-- R21: leaving this lamp state saves the account. -/
def LampState.savesOnLeaving : LampState → Bool
  | .striking => true
  | .lit => true
  | .dark => false
  | .cooling => false
  | .failed => false

/-- R44: lamp `l` passes into another lamp state: LAMP-STATE is posted, and the LAU saves as the lamp leaves STRIKING or LIT
(R21). What is handed to the PDU is the caller's. -/
def Work.moveLamp (w : Work) (l : Lamp) (c : LampCondition) : Work :=
  let old := w.s.lampState l
  w.edit fun s =>
    let s := (s.setCondition l c).post (.lampState l) c.state.number
    if old.savesOnLeaving then s.saveAccounts else s

/-- R44: as `moveLamp`, the change being handed to the PDU. -/
def Work.changeLamp (w : Work) (l : Lamp) (c : LampCondition) : Work :=
  (w.moveLamp l c).hand (.changed l c.state)

/-- R34: COOLING with a full cool-down and strike-pending as given. -/
def State.fullCooling (s : State) (pending : Bool) : LampCondition := .cooling s.lamps.params.coolDown pending

/-- R32: a STRIKING lamp whose life state becomes BLOCKED: in IGNITION-WINDOW the strike is marked abandoned, in RETRY-WAIT the
lamp cools at once. -/
def Work.abandonStrike (w : Work) (l : Lamp) : Work :=
  match w.s.condition l with
  | .window attempts timer _ => w.edit fun s => s.setCondition l (.window attempts timer true)
  | .retry _ _ => (w.moveLamp l (w.s.fullCooling false)).hand (.abandoned l)
  | .dark => w
  | .lit => w
  | .cooling _ _ => w
  | .failed _ => w

/-- R10: the LAU recomputes a life state. A change is handed to the PDU and the LCU; BLOCKED abandons a strike. -/
def Work.recomputeLife (w : Work) (l : Lamp) : Work :=
  let old := w.s.accounts.life.get l
  let w := w.edit fun s => s.recomputeLife l
  let new := w.s.accounts.life.get l
  if new = old then w
  else
    let w := w.hand (.lifeChanged l)
    if new = .blocked then w.abandonStrike l else w

/-- R5, R26: an ignition pulse is charged; a LIT line already asserted at the window's opening is noted (R29). -/
def Work.pulse (w : Work) (l : Lamp) : Work :=
  let w := w.edit fun s => s.setAccount l ((s.account l).chargePulse s.accounts.weights)
  let w := w.recomputeLife l
  if w.s.lines.lit.get l then w.hand (.opening l) else w

/-- R28, first row: a lamp becomes STRIKING in IGNITION-WINDOW with attempts 1, and the first pulse is issued. -/
def Work.beginStrike (w : Work) (l : Lamp) : Work :=
  (w.changeLamp l (.window 1 Config.ignitionWindow false)).pulse l

/-- R28: a strike order from the PDU. -/
def Work.strike (l : Lamp) (w : Work) : Work :=
  match w.s.condition l with
  | .dark => if w.s.eligible l then w.beginStrike l else w.hand (.declined l)
  | .window _ _ _ => w
  | .retry _ _ => w
  | .lit => w
  | .cooling timer _ => w.edit fun s => s.setCondition l (.cooling timer true)
  | .failed _ => w.hand (.declined l)

/-- R33: a stop order from the PDU. -/
def Work.stop (l : Lamp) (w : Work) : Work :=
  match w.s.condition l with
  | .lit => w.changeLamp l (w.s.fullCooling false)
  | .window _ _ _ => w.changeLamp l (w.s.fullCooling false)
  | .retry _ _ => w.changeLamp l (w.s.fullCooling false)
  | .cooling timer _ => w.edit fun s => s.setCondition l (.cooling timer false)
  | .dark => w
  | .failed _ => w

/-- R29: a STRIKING lamp becomes LIT. -/
def Work.light (w : Work) (l : Lamp) : Work := w.changeLamp l .lit

/-- R29: LIT found asserted at the opening of an ignition window. -/
def Work.lightAtOpening (w : Work) (l : Lamp) : Work :=
  match w.s.condition l with
  | .window _ _ _ => if w.s.lines.lit.get l then w.light l else w
  | .retry _ _ => w
  | .dark => w
  | .lit => w
  | .cooling _ _ => w
  | .failed _ => w

/-- R38: a lamp becomes FAILED, cause 1 for no ignition and 2 for the third dropout. -/
def Work.fail (w : Work) (l : Lamp) (cause : Nat) : Work :=
  (w.edit fun s => s.post (.lampFailed l) cause).changeLamp l (.failed w.s.lamps.params.coolDown)

/-- R30: the wait that follows attempt k: 10 s doubled once for each attempt after the first, capped at 80 s. -/
def retryWait (attempts : Nat) : Nat := min 80 (10 * 2 ^ (attempts - 1))

/-- R30, R32: expiry of a STRIKING lamp's ignition window. -/
def Work.windowExpiry (w : Work) (l : Lamp) : Work :=
  match w.s.condition l with
  | .window attempts _ abandoned =>
    if abandoned then (w.moveLamp l (w.s.fullCooling false)).hand (.abandoned l)
    else if attempts < w.s.lamps.params.strikeLimit then
      w.edit fun s => s.setCondition l (.retry attempts (retryWait attempts))
    else w.fail l 1
  | .retry _ _ => w
  | .dark => w
  | .lit => w
  | .cooling _ _ => w
  | .failed _ => w

/-- R31: expiry of a STRIKING lamp's retry wait. -/
def Work.retryExpiry (w : Work) (l : Lamp) : Work :=
  match w.s.condition l with
  | .retry attempts _ =>
    if attempts < w.s.lamps.params.strikeLimit then
      (w.edit fun s => s.setCondition l (.window (attempts + 1) Config.ignitionWindow false)).pulse l
    else w.fail l 1
  | .window _ _ _ => w
  | .dark => w
  | .lit => w
  | .cooling _ _ => w
  | .failed _ => w

/-- R27 at the end of a cool-down: the lamp is as good as DARK, so only the life state and the thermal hold decide. -/
def State.strikeAllowed (s : State) (l : Lamp) : Bool := s.accounts.life.get l != .blocked && !s.lamps.thermalHold

/-- R35: expiry of a lamp's cool-down. A declined deferred strike is handed over together with the change to
DARK (log 8). -/
def Work.coolDownExpiry (w : Work) (l : Lamp) : Work :=
  match w.s.condition l with
  | .cooling _ pending =>
    if pending then
      if w.s.strikeAllowed l then w.beginStrike l
      else (w.moveLamp l .dark).hand (.declinedDark l)
    else w.changeLamp l .dark
  | .dark => w
  | .window _ _ _ => w
  | .retry _ _ => w
  | .lit => w
  | .failed _ => w

/-- R52: the demand set is empty. -/
def Demand.isEmpty (d : Demand) : Bool := !d.panel && !d.schedule && !d.facility

/-- R36: a dropout of a LIT lamp. -/
def Work.dropout (w : Work) (l : Lamp) : Work :=
  let count := (w.s.lamps.lamp.get l).sessionDropouts + 1
  let w := w.edit fun s => (s.setSessionDropouts l count).setAccount l (s.account l).chargeDropout
  if count < 3 then
    w.changeLamp l (w.s.fullCooling (w.s.power.session.get l && !w.s.power.demand.isEmpty))
  else w.fail l 2

/-- R29, R40: the LIT line of a lamp rises. -/
def Work.litRise (w : Work) (l : Lamp) : Work :=
  let w := w.edit fun s => { s with lines.lit := s.lines.lit.set l true }
  match w.s.lampState l with
  | .striking => w.light l
  | .lit => w
  | .dark => w.edit fun s => s.post (.senseFault l) LampState.dark.number
  | .cooling => w.edit fun s => s.post (.senseFault l) LampState.cooling.number
  | .failed => w.edit fun s => s.post (.senseFault l) LampState.failed.number

/-- R36, R40: the LIT line of a lamp falls. -/
def Work.litFall (w : Work) (l : Lamp) : Work :=
  let w := w.edit fun s => { s with lines.lit := s.lines.lit.set l false }
  if w.s.lampState l = .lit then w.dropout l else w

/-- R38: a FAILED lamp's fan time runs out; it stays FAILED. -/
def Work.fanTimeEnd (w : Work) (l : Lamp) : Work :=
  match w.s.condition l with
  | .failed fan => if fan = 0 then w else (w.edit fun s => s.setCondition l (.failed 0)).hand (.fanOver l)
  | .dark => w
  | .window _ _ _ => w
  | .retry _ _ => w
  | .lit => w
  | .cooling _ _ => w

/-- R42, steps 1 and 2: where a thermal trip puts a lamp. -/
def LampCondition.tripped (c : LampCondition) (coolDown : Nat) : LampCondition :=
  match c with
  | .window _ _ _ => .cooling coolDown false
  | .retry _ _ => .cooling coolDown false
  | .lit => .cooling coolDown false
  | .cooling timer _ => .cooling timer false
  | .dark => .dark
  | .failed fan => .failed fan

/-- R42, step 1: the lamps a thermal trip puts to COOLING. -/
def State.burning (s : State) : PerLamp Bool :=
  ⟨(s.lampState .a).savesOnLeaving, (s.lampState .b).savesOnLeaving⟩

/-- How many of two. -/
def PerLamp.count (x : PerLamp Bool) : Nat := x.a.toNat + x.b.toNat

/-- Both lamps' conditions through `f`. -/
def State.mapConditions (s : State) (f : LampCondition → LampCondition) : State :=
  { s with lamps.lamp := s.lamps.lamp.map (fun c => { c with condition := f c.condition }) }

/-- R42: Thermal Trip. -/
def Work.thermalTrip (w : Work) : Work :=
  let hit := w.s.burning
  let w := w.edit fun s =>
    let s := s.mapConditions (·.tripped s.lamps.params.coolDown)
    let s := { s with lamps.thermalHold := true }
    let s := s.post .thermalTrip hit.count
    let s := forLamps hit (fun l s => s.post (.lampState l) LampState.cooling.number) s
    if hit.count = 0 then s else s.saveAccounts
  w.hand .tripped

/-- R43: Thermal Clear. -/
def Work.thermalClear (w : Work) : Work :=
  if w.s.lamps.thermalHold then
    (w.edit fun s => { s with lamps.thermalHold := false }).hand .holdCleared
  else w

end Sys2Proof.Machine
end

