-- ==== Sys2Proof/Machine/PowerDemand.lean ====
section
/-! DEFINITION. The Power Demand Unit (03) and the two-lamp policy (R45 to R47): what the PDU does with each hand-off, and the
run that takes every hand-off of a step. -/

namespace Sys2Proof.Machine

/-! ### The demand set (R52) -/

def Demand.get (d : Demand) : Claim → Bool
  | .panel => d.panel
  | .schedule => d.schedule
  | .facility => d.facility

def Demand.set (d : Demand) (c : Claim) (v : Bool) : Demand :=
  match c with
  | .panel => { d with panel := v }
  | .schedule => { d with schedule := v }
  | .facility => { d with facility := v }

/-! ### Level, blank and the blank timer -/

/-- R63: the projector power level; the ECO lines follow it (log 14). -/
def State.setLevel (s : State) (x : PowerLevel) : State := { s with power.level := x }

/-- R63: the level a booking's power mode sets; DEFAULT sets none. -/
def BookingMode.level : BookingMode → Option PowerLevel
  | .default => none
  | .full => some .full
  | .eco => some .eco

/-- R63: the level on leaving STANDBY. -/
def State.startLevel (s : State) : PowerLevel :=
  ((s.activeBooking.bind (fun b => b.config.mode.level))).getD s.power.settings.defaultLevel

/-- R64: the blank flag written; a change posts BLANK. -/
def State.setBlank (s : State) (on : Bool) : State :=
  if s.power.blank = on then s else ({ s with power.blank := on }).post .blank on.toNat

/-- R65: the four conditions of the blank timer. -/
def State.blankTiming (s : State) : Bool :=
  s.power.state == .on && s.power.blank && s.timetable.active.isNone && s.power.settings.blankTimeout != 0

/-- R65: the blank timer follows its conditions: it starts when all have come to hold unless it is spent; it stops, and the
spent mark goes, when one has ceased. -/
def State.followBlankTimer (s : State) : State :=
  if s.blankTiming then
    if s.power.blankTimer.isSome || s.power.blankSpent then s
    else { s with power.blankTimer := some (60 * s.power.settings.blankTimeout) }
  else { s with power.blankTimer := none, power.blankSpent := false }

/-! ### Choosing lamps (R45, R46) -/

/-- R45: the session lamps of a policy among the available lamps. -/
def State.chooseSession (s : State) (p : LampPolicy) : PerLamp Bool :=
  let a := s.available .a
  let b := s.available .b
  match p with
  | .alternate =>
    if a && b then
      if (s.account .b).wear < (s.account .a).wear then ⟨false, true⟩ else ⟨true, false⟩
    else ⟨a, b⟩
  | .dual => ⟨a, b⟩
  | .fixedA => ⟨a, !a && b⟩
  | .fixedB => ⟨!b && a, b⟩

/-- R46: a strike order to each session lamp. -/
def Work.strikeSession (w : Work) : Work := forLamps w.s.power.session Work.strike w

/-- R61: held is set; NO-LAMP is posted when it was clear, with cause 2 for the thermal hold and 1 otherwise. It comes before the
POWER-STATE of the same hand-off (log 31). -/
def Work.setHeld (w : Work) : Work :=
  if w.s.power.held then w
  else w.edit fun s => ({ s with power.held := true }).post .noLamp (if s.lamps.thermalHold then 2 else 1)

/-- R57: the PDU leaves STANDBY and begins a session. -/
def Work.leaveStandby (w : Work) : Work :=
  let w := w.edit fun s => { s with power.latched := some s.power.settings.policy }
  let w := w.edit fun s => s.setLevel s.startLevel
  let w := w.edit fun s => { s with power.session := s.chooseSession s.power.settings.policy }
  let w := w.strikeSession
  w.edit fun s => { s with power.state := .warming, power.held := false }

/-- R60, R61: a choice of session lamps in COOLING-DOWN. -/
def Work.chooseCooling (w : Work) : Work :=
  let policy := w.s.power.latched.getD w.s.power.settings.policy
  let w := w.edit fun s => { s with power.latched := some policy }
  if w.s.lamps.thermalHold || !w.s.anyAvailable then w.setHeld
  else
    let w := w.edit fun s => { s with power.session := s.chooseSession policy, power.held := false }
    w.strikeSession

/-- The session lamp set is empty. -/
def State.sessionEmpty (s : State) : Bool := !s.power.session.a && !s.power.session.b

/-- R57, R60, R61: a re-check of the demand set and the lamps. -/
def Work.recheck (w : Work) : Work :=
  match w.s.power.state with
  | .standby =>
    if w.s.power.demand.isEmpty then w.edit fun s => { s with power.held := false }
    else if !w.s.lamps.thermalHold && w.s.anyAvailable then w.leaveStandby
    else w.setHeld
  | .coolingDown =>
    if w.s.power.held then
      if w.s.power.demand.isEmpty then w.edit fun s => { s with power.held := false }
      else if w.s.lamps.thermalHold then w
      else if !w.s.sessionEmpty then
        (w.edit fun s => { s with power.held := false }).strikeSession
      else if w.s.anyAvailable then w.chooseCooling
      else w
    else if !w.s.power.demand.isEmpty && w.s.sessionEmpty then w.chooseCooling
    else w
  | .warming => w
  | .on => w

/-! ### STANDBY, loss and stop -/

/-- R37: both session dropout counts return to 0. -/
def State.zeroSessionDropouts (s : State) : State := (s.setSessionDropouts .a 0).setSessionDropouts .b 0

/-- R60: entry into STANDBY; with demand present held stands and a re-check follows (log 26). BLANK is posted before
GEOMETRY-CHANGED, POWER-STATE last (log 31). -/
def Work.enterStandby (w : Work) : Work :=
  let w := w.edit fun s =>
    let s := { s with power.state := .standby, power.session := ⟨false, false⟩, power.latched := none, power.degraded := false }
    ((s.setBlank false).zeroSessionDropouts).clearTrims
  if w.s.power.demand.isEmpty then w else w.setHeld.hand .recheck

/-- R60: in COOLING-DOWN with both lamps at rest the projector enters STANDBY. -/
def Work.standbyTest (w : Work) : Work :=
  if w.s.power.state = .coolingDown ∧ w.s.quiet then w.enterStandby else w

/-- R47: an available lamp joins the session lamp set and takes a strike order. -/
def Work.join (w : Work) (other : Lamp) : Work :=
  if w.s.available other then
    Work.strike other (w.edit fun s => { s with power.session := s.power.session.set other true })
  else w

/-- R47: the other lamp joins the session by failover when the latched policy lets it and it is available. -/
def Work.failover (w : Work) (l : Lamp) : Work :=
  match w.s.power.latched.getD w.s.power.settings.policy with
  | .dual => w
  | .alternate => w.join l.other
  | .fixedA => w.join l.other
  | .fixedB => w.join l.other

/-- Some session lamp is LIT or STRIKING (R47). -/
def State.sessionBurning (s : State) : Bool :=
  (s.power.session.a && (s.lampState .a).savesOnLeaving) || (s.power.session.b && (s.lampState .b).savesOnLeaving)

/-- R47, R58: a session lamp is lost while demand is present. -/
def Work.loseLamp (w : Work) (l : Lamp) : Work :=
  if w.s.power.session.get l && !w.s.power.demand.isEmpty then
    let w := w.edit fun s => { s with power.session := s.power.session.set l false }
    let w := if w.s.sessionBurning then w else w.failover l
    if w.s.sessionEmpty then
      let w := w.setHeld
      if w.s.power.state = .warming then w.edit fun s => { s with power.state := .coolingDown } else w
    else w
  else w

/-- R62: the demand set has become empty outside STANDBY. -/
def Work.stopSession (w : Work) : Work :=
  let w := forLamps w.s.power.session Work.stop w
  let w := w.edit fun s =>
    { s with power.session := ⟨false, false⟩, power.held := false, power.degraded := false, power.state := .coolingDown }
  w.standbyTest

/-! ### Following the lamps (R58 to R60) -/

/-- R59: exactly one lamp LIT under a latched policy DUAL. -/
def State.degradedNow (s : State) : Bool :=
  s.power.latched == some .dual && ((s.lampState .a == .lit) != (s.lampState .b == .lit))

/-- The power state written; degraded is formed in ON and clear outside it (R59). -/
def State.setPowerState (s : State) (x : PowerState) : State :=
  let s := { s with power.state := x }
  { s with power.degraded := x == .on && s.degradedNow }

/-- R58, R59, R60, R57: the power state follows a change of lamp `l`; `began` when the lamp has become STRIKING. DESIGN CHOICE, unsafe
(log 35): a change that brings the lamps to rest while the demand is held enters STANDBY first, and the re-check of the held demand
follows there, with a new latched policy. -/
def Work.followLamp (w : Work) (l : Lamp) (began : Bool) : Work :=
  match w.s.power.state with
  | .standby => w.recheck
  | .warming =>
    if w.s.anyLit && !w.s.anyStriking then w.edit fun s => s.setPowerState .on else w
  | .on =>
    if w.s.anyLit then w.edit fun s => s.setPowerState .on
    else if w.s.anyStriking then w.edit fun s => s.setPowerState .warming
    else w.edit fun s => s.setPowerState .coolingDown
  | .coolingDown =>
    if began && w.s.power.session.get l then w.edit fun s => s.setPowerState .warming
    else if w.s.quiet then w.enterStandby
    else if w.s.power.held then w.recheck
    else w

/-- R47, R58, R59: a change of lamp `l` that loses it from the session. A loss that empties the session lamp set leaves held set:
the projector is in COOLING-DOWN, or in STANDBY when the lamps are at rest (R60), and held waits for the next event of R57. -/
def Work.loseAndFollow (w : Work) (l : Lamp) : Work :=
  let lost := w.loseLamp l
  if lost.s.power.state = .coolingDown ∧ lost.s.sessionEmpty ∧ !w.s.sessionEmpty then lost.standbyTest
  else lost.followLamp l false

/-- R42, R58, R59, R61: a thermal trip reaches the PDU. -/
def Work.takeTrip (w : Work) : Work :=
  let w := if w.s.power.demand.isEmpty then w else w.setHeld
  if w.s.power.state = .warming ∨ w.s.power.state = .on then
    w.edit fun s => s.setPowerState .coolingDown
  else w

/-- R52: a change of the demand set, and what its passage between empty and non-empty does. DESIGN CHOICE, unsafe (log 33): a change
between two non-empty sets runs no re-check, also while the demand is held: R52 lets it issue no order, R57 and R61 list every change
of the set among the re-checks. -/
def Work.changeDemand (w : Work) (d : Demand) : Work :=
  let before := w.s.power.demand.isEmpty
  let w := w.edit fun s => { s with power.demand := d }
  if before && !d.isEmpty then w.recheck
  else if !before && d.isEmpty then
    if w.s.power.state = .standby then w.recheck else w.stopSession
  else w

/-- R55: conversion of the SCHEDULE claim at the end of a booking whose auto-off is no. -/
def Work.convertClaim (w : Work) : Work :=
  let d := w.s.power.demand
  if !d.schedule then w
  else if w.s.power.state = .standby then w.changeDemand { d with schedule := false }
  else w.changeDemand { d with schedule := false, panel := true }

/-- A re-check at an event that is no change of demand: in STANDBY, and in COOLING-DOWN while held (R57, R61). -/
def Work.recheckIdle (w : Work) : Work :=
  if w.s.power.state = .standby ∨ w.s.power.held then w.recheck else w

/-- What a hand-off does, without the notice and the timer that follow. DESIGN CHOICE, unsafe (log 35): the end of a fan time that
brings the lamps to rest while the demand is held enters STANDBY before the re-check. -/
def Work.takeBare (h : Handoff) (w : Work) : Work :=
  match h with
  | .changed l .failed => w.loseAndFollow l
  | .changed l .striking => w.followLamp l true
  | .changed l .dark => w.followLamp l false
  | .changed l .lit => w.followLamp l false
  | .changed l .cooling => w.followLamp l false
  | .abandoned l => w.loseAndFollow l
  | .declined l => w.loseLamp l
  | .declinedDark l => w.loseAndFollow l
  | .fanOver _ => if w.s.power.state = .coolingDown ∧ w.s.quiet then w.enterStandby else w.recheckIdle
  | .lifeChanged _ => w.recheckIdle
  | .tripped => w.takeTrip
  | .holdCleared => w.recheckIdle
  | .recheck => w.recheckIdle
  | .addClaim c => w.changeDemand (w.s.power.demand.set c true)
  | .removeClaim c => w.changeDemand (w.s.power.demand.set c false)
  | .convert => w.convertClaim
  | .opening l => w.lightAtOpening l

/-- R56: POWER-STATE is posted when the power state, held or degraded has changed. -/
def State.reportPower (s : State) (before : Nat) : State :=
  if s.power.number = before then s else s.post .powerState s.power.number

/-- The PDU takes one hand-off: its effect, POWER-STATE on a change (R56, log 27), and the blank timer (R65). -/
def Work.take (h : Handoff) (w : Work) : Work :=
  let before := w.s.power.number
  (w.takeBare h).edit fun s => (s.reportPower before).followBlankTimer

/-- Every hand-off of a step is taken, first in, first out, those it causes after those already waiting (log 8). `fuel` bounds
their number: `settleFuel` is more than any step needs (log 18). -/
def Work.run (fuel : Nat) (w : Work) : State :=
  match fuel with
  | 0 => w.s
  | fuel + 1 =>
    match w.out with
    | [] => w.s
    | h :: rest => Work.run fuel (Work.take h ⟨w.s, rest⟩)

/-- The bound of `Work.run` (log 18). -/
def settleFuel : Nat := 64

/-- An LCU or LAU operation with everything it leads to in the PDU. -/
def State.settle (f : Work → Work) (s : State) : State := Work.run settleFuel (f ⟨s, []⟩)

/-- One hand-off to the PDU from another block. -/
def State.handPower (s : State) (h : Handoff) : State := s.settle (fun w => w.hand h)

/-! ### Requests and the blank timer's expiry -/

/-- R53: Power On. -/
def powerOn (_d : List Byte) (s : State) : State × Answer :=
  let had := s.power.demand.panel
  let s := s.handPower (.addClaim .panel)
  (s, ⟨if had then .ok else .accepted, [s.power.demand.byte, byteOf s.power.number]⟩)

/-- R55: Facility Power Claim. -/
def facilityPowerClaim (d : List Byte) (s : State) : State × Answer :=
  match d with
  | [x] => match readFlag x with
    | none => (s, badArgument)
    | some on =>
      let s := s.handPower (if on then .addClaim .facility else .removeClaim .facility)
      (s, ⟨.ok, [s.power.demand.byte]⟩)
  | _ => (s, badLength)

/-- R63: Set Lamp Power. -/
def setLampPower (d : List Byte) (s : State) : State × Answer :=
  match d with
  | [x] => match readLevel x with
    | none => (s, badArgument)
    | some level => (s.setLevel level, ⟨.ok, [levelByte level]⟩)
  | _ => (s, badLength)

/-- R64: Set Blank. -/
def setBlank (d : List Byte) (s : State) : State × Answer :=
  match d with
  | [x] => match readFlag x with
    | none => (s, badArgument)
    | some on => ((s.setBlank on).followBlankTimer, ⟨.ok, [flagByte on]⟩)
  | _ => (s, badLength)

/-- R66: Set Power Defaults. -/
def setPowerDefaults (d : List Byte) (s : State) : State × Answer :=
  match d with
  | [level, policy, timeout, grace] =>
    match readLevel level, readPolicy policy with
    | some level, some policy =>
      let x : PowerSettings := ⟨level, policy, clampNat 0 120 timeout.toNat, clampNat 0 30 grace.toNat⟩
      let s := { s with power.settings := x, store.powerSettings := some x }
      (s.followBlankTimer, okOrClamped (x.blankTimeout != timeout.toNat || x.autoOffGrace != grace.toNat) [])
    | _, _ => (s, badArgument)
  | _ => (s, badLength)

/-- R65: the blank timer expires: the PANEL claim is removed and the timer marked spent. -/
def State.blankExpiry (s : State) : State :=
  if s.power.blankTimer.isNone then s
  else ({ s with power.blankTimer := none, power.blankSpent := true }).handPower (.removeClaim .panel)

end Sys2Proof.Machine
end

