-- ==== Sys2Proof/Machine/LampService.lean ====
section
/-! DEFINITION. The lamp service requests: thresholds, parameters, replacement and fault clear (R13, R14, R18, R19, R39), and the
engine's Thermal Trip and Thermal Clear (R42, R43). A reply reports the LAU or the LCU as that unit leaves it, before the PDU
takes what it was handed (log 20). -/

namespace Sys2Proof.Machine

/-- R13, steps 1 to 3, on the units that carry them out. -/
def Work.setLampThresholds (w : Work) (l : Lamp) (rated warn grace : Nat) : Work :=
  ((w.edit fun s => s.setThresholds l rated warn grace).recomputeLife l).edit fun s => s.saveAccounts

/-- A run of the PDU on what an LCU or LAU operation handed over. -/
def Work.finish (w : Work) : State := Work.run settleFuel w

/-- R13: Set Lamp Thresholds. -/
def setLampThresholds (d : List Byte) (s : State) : State × Answer :=
  match d with
  | [lamp, r0, r1, w0, w1, g0, g1] =>
    match readLamp lamp with
    | none => (s, badArgument)
    | some l =>
      let rated := clampNat 500 20000 (readU16 r0 r1)
      let warn := clampNat 0 2000 (readU16 w0 w1)
      let grace := clampNat 0 1000 (readU16 g0 g1)
      let clamped := rated != readU16 r0 r1 || warn != readU16 w0 w1 || grace != readU16 g0 g1
      let w := Work.setLampThresholds ⟨s, []⟩ l rated warn grace
      (w.finish, okOrClamped clamped [byteOf (w.s.accounts.life.get l).number])
  | _ => (s, badLength)

/-- R14: Set Lamp Parameters. -/
def setLampParameters (d : List Byte) (s : State) : State × Answer :=
  match d with
  | [eco, penalty, c0, c1, limit] =>
    let weights : WearWeights := ⟨clampNat 4 16 eco.toNat, clampNat 0 240 penalty.toNat⟩
    let params : LampParams := ⟨clampNat 60 600 (readU16 c0 c1), clampNat 1 6 limit.toNat⟩
    let clamped := weights != ⟨eco.toNat, penalty.toNat⟩ || params != ⟨readU16 c0 c1, limit.toNat⟩
    let s := { s with accounts.weights := weights, lamps.params := params, store.lampParams := some params }
    (s.saveAccounts, okOrClamped clamped [])
  | _ => (s, badLength)

/-- R18: the conditions in which a lamp may be replaced. -/
def LampCondition.replaceable : LampCondition → Bool
  | .dark => true
  | .failed fan => fan == 0
  | .window _ _ _ => false
  | .retry _ _ => false
  | .lit => false
  | .cooling _ _ => false

/-- R19, step 3, with R37: the replaced lamp is DARK, its session dropout count 0. -/
def Work.renewLamp (w : Work) (l : Lamp) : Work :=
  let w := w.edit fun s => s.setSessionDropouts l 0
  if w.s.lampState l = .failed then w.changeLamp l .dark else w

/-- R19, step 4: the life state is taken from the account, and LAMP-LIFE is posted whether or not it has changed; a change is
handed to the PDU (R10). -/
def Work.renewLife (w : Work) (l : Lamp) : Work :=
  let old := w.s.accounts.life.get l
  let new := (w.s.account l).lifeState
  let w := w.edit fun s => ({ s with accounts.life := s.accounts.life.set l new }).post (.lampLife l) new.number
  if new = old then w else w.hand (.lifeChanged l)

/-- R19, steps 1 to 5. -/
def Work.replaceLamp (w : Work) (l : Lamp) : Work :=
  (((w.edit fun s => s.retireLamp l).renewLamp l).renewLife l).edit fun s => s.saveAccounts

/-- REFUSED-STATE with the state of a lamp (R18, R39). -/
def State.refuseLamp (s : State) (l : Lamp) : Answer := ⟨.refusedState, [byteOf (s.lampState l).number]⟩

/-- R18, R19: Lamp Replaced. Its reply carries the serial alone (R19, R177), not the lamp state that R44 mentions (log 30). -/
def lampReplaced (d : List Byte) (s : State) : State × Answer :=
  match d with
  | [x] => match readLamp x with
    | none => (s, badArgument)
    | some l =>
      if (s.condition l).replaceable then
        let w := Work.replaceLamp ⟨s, []⟩ l
        (w.finish, ⟨.ok, le16 w.s.accounts.replacements⟩)
      else (s, s.refuseLamp l)
  | _ => (s, badLength)

/-- R39: what a fault clear makes of a lamp; none where it is refused. -/
def LampCondition.cleared : LampCondition → Option LampCondition
  | .failed fan => some (if fan = 0 then .dark else .cooling fan false)
  | .dark => none
  | .window _ _ _ => none
  | .retry _ _ => none
  | .lit => none
  | .cooling _ _ => none

/-- R39: Clear Lamp Fault. -/
def clearLampFault (d : List Byte) (s : State) : State × Answer :=
  match d with
  | [x] => match readLamp x with
    | none => (s, badArgument)
    | some l => match (s.condition l).cleared with
      | none => (s, s.refuseLamp l)
      | some c =>
        let w := Work.changeLamp ⟨s.setSessionDropouts l 0, []⟩ l c
        (w.finish, ⟨.ok, [byteOf c.state.number]⟩)
  | _ => (s, badLength)

/-- R42: Thermal Trip. -/
def thermalTrip (_d : List Byte) (s : State) : State × Answer := (s.settle Work.thermalTrip, ⟨.ok, []⟩)

/-- R43: Thermal Clear. -/
def thermalClear (_d : List Byte) (s : State) : State × Answer := (s.settle Work.thermalClear, ⟨.ok, []⟩)

end Sys2Proof.Machine
end

