-- ==== Sys2Proof/Machine/InputTable.lean ====
section
/-! DEFINITION. The Input Table (04) and the Acquisition Unit (05): matching and resolving classes, selecting, starting and
restarting a row, attempt windows, the engine's reports and the rewriting of rows. -/

namespace Sys2Proof.Machine

/-! ### Matching and resolution (R81, R82, R83) -/

/-- R81: class `c` matches a row. -/
def RowConfig.answers (r : RowConfig) (c : Byte) : Bool := r.enabled && (c &&& r.classMask) == (r.classCode &&& r.classMask)

/-- All row numbers. -/
def allRows : List (Fin 10) := [0, 1, 2, 3, 4, 5, 6, 7, 8, 9]

/-- The row n of the table. -/
def State.row (s : State) (n : Fin 10) : InputRow := s.inputs[n]

/-- R82: the rows that match class `c`, lowest first. -/
def State.rowsMatching (s : State) (c : Byte) : List (Fin 10) := allRows.filter (fun n => (s.row n).config.answers c)

/-- R83: the result of a class resolution. -/
structure Resolution where
  asked : Byte
  row : Option (Fin 10)
  count : Nat
  ambiguous : Bool
  present : Bool
  deriving DecidableEq, Repr

/-- R82, R83: class resolution. -/
def State.resolve (s : State) (c : Byte) : Resolution :=
  let rows := s.rowsMatching c
  let row := (rows.find? (fun n => (s.row n).present)).or rows.head?
  ⟨c, row, rows.length, 2 ≤ rows.length, (row.map (fun n => (s.row n).present)).getD false⟩

/-- R177: the resolution record of a reply. -/
def Resolution.bytes (r : Resolution) : List Byte :=
  [r.asked, inputRefByte r.row, byteOf r.count, flagByte r.ambiguous, flagByte r.present]

/-! ### Writing rows and statuses -/

/-- Row n through `f`. -/
def State.editRow (s : State) (n : Fin 10) (f : InputRow → InputRow) : State :=
  { s with inputs := s.inputs.set n.val (f (s.row n)) n.isLt }

/-- R71: the ACQ writes the acquisition status of a row. -/
def State.setStatus (s : State) (n : Fin 10) (x : AcqStatus) : State := s.editRow n (fun r => { r with status := x })

/-- R72: the present flag of a row. -/
def State.setPresent (s : State) (n : Fin 10) (x : Bool) : State := s.editRow n (fun r => { r with present := x })

/-- R71, R86: every row IDLE and not present. -/
def State.clearLive (s : State) : State :=
  { s with inputs := mapVector (fun (r : InputRow) => { r with present := false, status := .idle }) s.inputs }

/-- The number of the selected row. -/
def State.selectedRow (s : State) : Option (Fin 10) := s.acq.selected.map Selection.row

/-- The status of the selected row; 0 in replies when none is selected (R177). -/
def State.selectedStatus (s : State) : AcqStatus := (s.selectedRow.map (fun n => (s.row n).status)).getD .idle

/-- R88: one pulse on SEL-STROBE. -/
def State.strobe (s : State) : State := { s with acq.strobes := s.acq.strobes + 1 }

/-! ### Starting and restarting (R89, R90, R95) -/

/-- R90: the part of INPUT-SELECTED's value that tells the timing. -/
def Timing.amount : Timing → Nat
  | .auto => 0
  | .fixed index => 16 + index.val

/-- R90: the part of INPUT-SELECTED's value that tells the method. -/
def SelectMethod.amount : SelectMethod → Nat
  | .direct => 0
  | .byClass _ => 32

/-- R90: INPUT-SELECTED with a row as subject. -/
def State.postSelected (s : State) (n : Fin 10) (m : SelectMethod) : State :=
  s.post (.inputSelected (some n)) ((s.row n).config.timing.amount + m.amount)

/-- R95: acquisition of row n begins by its timing: ACQUIRING with attempts 1 and the initial window, or LOCKED. -/
def State.beginAcquisition (s : State) (n : Fin 10) : State :=
  match (s.row n).config.timing with
  | .auto =>
    let window : AttemptWindow := ⟨s.acq.params.initialWindow, s.acq.params.initialWindow⟩
    { (s.setStatus n .acquiring) with acq.attempts := 1, acq.window := some window }
  | .fixed _ => { (s.setStatus n .locked) with acq.attempts := 0, acq.window := none }

/-- R95, R101: a restart of the selected row n. R95 gives its two notices no order: INPUT-SELECTED is posted first (log 31). -/
def State.restartRow (s : State) (n : Fin 10) (m : SelectMethod) : State :=
  let old := (s.row n).status
  let s := s.strobe.beginAcquisition n
  let s := match (s.row n).config.timing with
    | .auto => s
    | .fixed _ => s.postSelected n m
  if (s.row n).status = old then s else s.post (.acquisition n) (s.row n).status.number

/-- R89: the selection leaves a row, whose window stops and whose status becomes IDLE. -/
def State.leaveRow (s : State) : State :=
  match s.selectedRow with
  | none => s
  | some old => { (s.setStatus old .idle) with acq.window := none }

/-- R89: selection of a row that is not the selected one. -/
def State.selectNew (s : State) (n : Fin 10) (m : SelectMethod) : State :=
  let s := { s with acq.selLines := n }.strobe.leaveRow
  let s := { s with acq.selected := some ⟨n, m⟩ }
  let s := s.handSelection (s.row n).config.preset
  (s.postSelected n m).beginAcquisition n

/-- R94: selection of the row that is already selected. -/
def State.selectAgain (s : State) (n : Fin 10) (m : SelectMethod) : State :=
  let s := { s with acq.selected := some ⟨n, m⟩ }
  if (s.row n).status = .noSignal then s.restartRow n m else s

/-- R89, R94: selection of the enabled row n. -/
def State.selectRow (s : State) (n : Fin 10) (m : SelectMethod) : State :=
  if s.selectedRow = some n then s.selectAgain n m else s.selectNew n m

/-- R91: the status of an accepted selection of row n: ACCEPTED when an AUTO acquisition was begun or restarted. -/
def State.selectStatus (s : State) (n : Fin 10) : Status :=
  if (s.row n).config.timing = .auto ∧ (s.selectedRow ≠ some n ∨ (s.row n).status = .noSignal) then .accepted else .ok

/-- R76: the selection becomes none; `cause` is the value of INPUT-SELECTED, which is posted before the GEOMETRY-CHANGED of the
TGU (log 31). -/
def State.clearSelection (s : State) (cause : Nat) : State :=
  let s := s.leaveRow
  let s := { s with acq.selected := none, acq.attempts := 0 }
  (s.post (.inputSelected none) cause).handSelection none

/-- R177: selected input, its status and the method. -/
def State.selectionBytes (s : State) : List Byte :=
  [inputRefByte s.selectedRow, byteOf s.selectedStatus.number, methodByte s.acq.selected]

/-- R91: Select Input. -/
def selectInput (d : List Byte) (s : State) : State × Answer :=
  match d with
  | [x] => match readRow x with
    | none => (s, badArgument)
    | some n =>
      if (s.row n).config.enabled then
        let status := s.selectStatus n
        let s := s.selectRow n .direct
        (s, ⟨status, s.selectionBytes⟩)
      else (s, ⟨.refusedState, []⟩)
  | _ => (s, badLength)

/-- R92: Select Class. -/
def selectClass (d : List Byte) (s : State) : State × Answer :=
  match d with
  | [c] =>
    if c = 0 then (s, badArgument)
    else
      let r := s.resolve c
      match r.row with
      | none => (s, ⟨.noMatch, []⟩)
      | some n =>
        let status := s.selectStatus n
        let s := s.selectRow n (.byClass c)
        (s, ⟨status, r.bytes ++ s.selectionBytes⟩)
  | _ => (s, badLength)

/-- R93: the timetable's selection by class `c`; the flag is NO-MATCH. -/
def State.selectForBooking (s : State) (c : Byte) : State × Bool :=
  match (s.resolve c).row with
  | none => (s, true)
  | some n => (s.selectRow n (.byClass c), false)

/-! ### Attempt windows and reports -/

/-- R97: the window of the selected row expires. -/
def State.windowExpiry (s : State) : State :=
  match s.selectedRow, s.acq.window with
  | some n, some w =>
    if (s.row n).status = .acquiring then
      if s.acq.attempts < s.acq.params.attemptLimit then
        let length := min Config.windowMax (2 * w.length)
        let attempts := s.acq.attempts + 1
        ({ s with acq.attempts := attempts, acq.window := some ⟨length, length⟩ }.strobe).post (.resyncRequest n) attempts
      else
        ({ s with acq.window := none }.setStatus n .noSignal).post (.acquisition n) AcqStatus.noSignal.number
    else s
  | _, _ => s

/-- R99: the selected row n becomes LOCKED on the engine's word. -/
def State.lockRow (s : State) (n : Fin 10) : State :=
  ({ s with acq.window := none, acq.attempts := 0 }.setStatus n .locked).post (.acquisition n) AcqStatus.locked.number

/-- R99: a Sync Report that concerns the selected row. -/
def State.syncSelected (s : State) (x : Selection) (locked : Bool) : State :=
  match (s.row x.row).status, locked with
  | .acquiring, true => s.lockRow x.row
  | .noSignal, true => s.lockRow x.row
  | .locked, false => s.restartRow x.row x.method
  | .acquiring, false => s
  | .noSignal, false => s
  | .locked, true => s
  | .idle, _ => s

/-- R72, R99: the effect of an accepted Sync Report for input n. -/
def State.syncReport (s : State) (n : Fin 10) (locked : Bool) : State :=
  match s.acq.selected with
  | some x =>
    if x.row = n then
      let s := if locked then s.setPresent n true else s
      s.syncSelected x locked
    else s.setPresent n locked
  | none => s.setPresent n locked

/-- R99: Sync Report. -/
def syncReport (d : List Byte) (s : State) : State × Answer :=
  match d with
  | [x, lock] =>
    match readRow x, readFlag lock with
    | some n, some locked =>
      let s := s.syncReport n locked
      let status := if s.selectedRow = some n then (s.row n).status.number else 0
      (s, ⟨.ok, [flagByte (s.row n).present, byteOf status]⟩)
    | _, _ => (s, badArgument)
  | _ => (s, badLength)

/-- R72, R100: the effect of an accepted Presence Report; bit n of `bits` is input n. -/
def State.presenceReport (s : State) (bits : Nat) : State :=
  let before := s
  let s := { s with inputs := mapVectorIdx (fun i (r : InputRow) => { r with present := bits.testBit i }) s.inputs }
  match s.acq.selected with
  | some x =>
    if (s.row x.row).status = .noSignal ∧ (s.row x.row).present ∧ !(before.row x.row).present then
      s.restartRow x.row x.method
    else s
  | none => s

/-- R100: Presence Report. -/
def presenceReport (d : List Byte) (s : State) : State × Answer :=
  match d with
  | [lo, hi] =>
    let bits := readU16 lo hi
    if bits < 1024 then (s.presenceReport bits, ⟨.ok, le16 bits⟩) else (s, badArgument)
  | _ => (s, badLength)

/-- R98: Set Acquisition Parameters. -/
def setAcquisitionParameters (d : List Byte) (s : State) : State × Answer :=
  match d with
  | [w0, w1, limit] =>
    let x : AcqParams := ⟨clampNat 250 4000 (readU16 w0 w1), clampNat 1 8 limit.toNat⟩
    ({ s with acq.params := x, store.acqParams := some x },
      okOrClamped (x != ⟨readU16 w0 w1, limit.toNat⟩) (le16 x.initialWindow ++ [byteOf x.attemptLimit]))
  | _ => (s, badLength)

/-! ### Reading and writing rows -/

/-- R175: the input row record. -/
def rowBytes (n : Fin 10) (r : InputRow) (selected : Bool) : List Byte :=
  [byteOf n.val, flagByte r.config.enabled, r.config.classCode, r.config.classMask]
    ++ (match r.config.timing with
      | .auto => [0, 0xFF]
      | .fixed index => [1, byteOf index.val])
    ++ [presetRefByte r.config.preset, flagByte r.present, byteOf r.status.number, flagByte selected]

/-- R73: Read Input Row. -/
def readInputRow (d : List Byte) (s : State) : State × Answer :=
  match d with
  | [x] => match readRow x with
    | none => (s, badArgument)
    | some n => (s, ⟨.ok, rowBytes n (s.row n) (s.selectedRow = some n)⟩)
  | _ => (s, badLength)

/-- R74, codes 4 and 5: the timing of a written row; the error is the field code. -/
def readTiming (timing index : Byte) : Except Byte Timing :=
  if timing = 0 then .ok .auto
  else if timing = 1 then
    if h : index.toNat < 16 then .ok (.fixed ⟨index.toNat, h⟩) else .error 5
  else .error 4

/-- R74: the check of a written row, in the order of its table; the error is the field code. -/
def checkRow (row enabled code mask timing index preset : Byte) : Except Byte (Fin 10 × RowConfig) :=
  match readRow row with
  | none => .error 1
  | some n => match readFlag enabled with
    | none => .error 2
    | some e =>
      if e && code == 0 then .error 3
      else match readTiming timing index with
        | .error x => .error x
        | .ok t => match readPresetRef preset with
          | none => .error 6
          | some p => .ok (n, ⟨e, code, mask, t, p⟩)

/-- R75, step 2: the save of the ten rows' configuration. -/
def State.saveRows (s : State) : State := { s with store.inputRows := some (mapVector InputRow.config s.inputs) }

/-- R79: a changed preset of the selected row is handed to the TGU. -/
def State.rewritePreset (s : State) (old new : RowConfig) : State :=
  if new.preset = old.preset then s else s.handRowPreset new.preset

/-- R78, R79: a rewrite after which the selected row stays selected, the restart before the preset; the code is 4 for a restart
and 0 otherwise. -/
def State.rewriteKept (s : State) (x : Selection) (old new : RowConfig) : State × Byte :=
  if new.timing = old.timing then (s.rewritePreset old new, 0)
  else ((s.restartRow x.row x.method).rewritePreset old new, 4)

/-- R76 to R79: the consequences of a rewrite of the selected row: the state, the consequence code and the resolution. -/
def State.rewriteSelected (s : State) (x : Selection) (old new : RowConfig) : State × Byte × Option Resolution :=
  if !new.enabled then (s.clearSelection 1, 1, none)
  else match x.method with
    | .direct => let r := s.rewriteKept x old new; (r.1, r.2, none)
    | .byClass c =>
      if new.answers c then let r := s.rewriteKept x old new; (r.1, r.2, none)
      else
        let res := s.resolve c
        match res.row with
        | some n => (s.selectRow n (.byClass c), 2, some res)
        | none => (s.clearSelection 2, 3, some res)

/-- R75 to R80: an accepted write of row n. -/
def State.writeRow (s : State) (n : Fin 10) (new : RowConfig) : State × Byte × Option Resolution :=
  let old := (s.row n).config
  let s := (s.editRow n (fun r => { r with config := new })).saveRows
  match s.acq.selected with
  | some x => if x.row = n then s.rewriteSelected x old new else (s, 0, none)
  | none => (s, 0, none)

/-- R74, R75: Write Input Row. -/
def writeInputRow (d : List Byte) (s : State) : State × Answer :=
  match d with
  | [row, enabled, code, mask, timing, index, preset] =>
    match checkRow row enabled code mask timing index preset with
    | .error x => (s, ⟨.badArgument, [x]⟩)
    | .ok (n, new) =>
      let r := s.writeRow n new
      (r.1, ⟨.ok, [byteOf n.val, r.2.1, inputRefByte r.1.selectedRow] ++ (r.2.2.map Resolution.bytes).getD []⟩)
  | _ => (s, badLength)

end Sys2Proof.Machine
end

