-- ==== Sys2Proof/Machine/LockoutUnit.lean ====
section
/-! DEFINITION. The Lockout Unit (07): the claims, the service window, the effective level and the PANEL filter. -/

namespace Sys2Proof.Machine

/-- R125: the effective level of the claims and the window. -/
def Lockout.formed (x : Lockout) : Fin 4 := if x.window.isSome then 0 else max x.manual x.bookingLevel

/-- R126: the value of LOCKOUT-CHANGED. -/
def Lockout.number (x : Lockout) : Nat := x.effective.val + (if x.window.isSome then 16 else 0)

/-- R125, R126: an input of the effective level changes: the level is formed afresh, and LOCKOUT-CHANGED posted when the value
it carries changes. -/
def State.setLockout (s : State) (x : Lockout) : State :=
  let new : Lockout := { x with effective := x.formed }
  let before := s.lockout.number
  let s := { s with lockout := new }
  if new.number = before then s else s.post .lockoutChanged new.number

/-- R128: the WCT hands over the booking claim. -/
def State.handBookingClaim (s : State) (level : Fin 4) (c : Byte) : State :=
  s.setLockout { s.lockout with bookingLevel := level, bookingClass := c }

/-- R130: the service window ends. -/
def State.closeWindow (s : State) : State := s.setLockout { s.lockout with window := none }

/-- R127: Set Manual Lockout. -/
def setManualLockout (d : List Byte) (s : State) : State × Answer :=
  match d with
  | [x] => match readLockoutLevel x with
    | none => (s, badArgument)
    | some level =>
      let s := { s with store.manualClaim := some level }
      let s := s.setLockout { s.lockout with manual := level }
      (s, ⟨.ok, [byteOf level.val, byteOf s.lockout.effective.val]⟩)
  | _ => (s, badLength)

/-- R129: Open Service Window. -/
def openServiceWindow (d : List Byte) (s : State) : State × Answer :=
  match d with
  | [x] =>
    let length := clampNat 1 120 x.toNat
    let s := s.setLockout { s.lockout with window := some ⟨length, 60 * length⟩ }
    (s, okOrClamped (length != x.toNat) [byteOf length, byteOf s.lockout.effective.val])
  | _ => (s, badLength)

/-- R130: Close Service Window. -/
def closeServiceWindow (_d : List Byte) (s : State) : State × Answer :=
  let s := s.closeWindow
  (s, ⟨.ok, [byteOf s.lockout.effective.val]⟩)

/-- R131: Read Lockout. -/
def readLockout (_d : List Byte) (s : State) : State × Answer :=
  let x := s.lockout
  let length := (x.window.map ServiceWindow.length).getD 0
  let remaining := (x.window.map ServiceWindow.remaining).getD 0
  (s, ⟨.ok, [byteOf x.effective.val, byteOf x.manual.val, byteOf x.bookingLevel.val, x.bookingClass,
    flagByte x.window.isSome, byteOf length] ++ le16 remaining⟩)

/-! ### The PANEL filter (R132 to R134) -/

/-- R133: the greatest effective level at which a PANEL request passes; none for a request the PANEL port may not send. Select
Input and Select Class pass at level 0, and at level 1 on the condition of R134. -/
def panelLevel (r : Request) : Option (Fin 4) :=
  match r with
  | .readStatus | .readLampAccount | .readInputRow | .readPreset | .readGeometry | .readCorners | .readTilt
  | .readScheduleState | .readBookings | .readLockout | .takeNotice | .setNoticeMask => some 3
  | .powerOn | .setBlank | .extendBooking => some 2
  | .powerOff | .nudgeCorner | .clearSessionTrims => some 1
  | .selectInput | .selectClass | .setLampPower => some 0
  | .facilityPowerClaim | .setPowerDefaults | .writeInputRow | .setAcquisitionParameters | .writePreset | .storeSessionTrims
  | .setKeystoneCalibration | .armHoming | .setTime | .stageBegin | .stageAppend | .stageCommit | .insertBooking
  | .deleteBooking | .setScheduleEnable | .setManualLockout | .openServiceWindow | .closeServiceWindow
  | .takeAccountSnapshot | .readSnapshot | .setLampThresholds | .setLampParameters | .lampReplaced
  | .readReplacementHistory | .clearLampFault | .serviceReset | .factoryReset | .syncReport | .presenceReport
  | .thermalTrip | .thermalClear => none

/-- R132: REFUSED-LOCKED with the effective level and a reason. -/
def State.refuseLocked (s : State) (reason : Nat) : Answer :=
  ⟨.refusedLocked, [byteOf s.lockout.effective.val, byteOf reason]⟩

/-- R134, step 3: the row concerned must match the booking class. -/
def State.rowTest (s : State) (n : Fin 10) : Option Answer :=
  if (s.row n).config.answers s.lockout.bookingClass then none else some (s.refuseLocked 3)

/-- R134: Select Input at level 1; none when it passes. -/
def State.filterInput (s : State) (d : List Byte) : Option Answer :=
  match d with
  | [x] => match readRow x with
    | none => some badArgument
    | some n => if s.lockout.bookingClass = 0 then some (s.refuseLocked 2) else s.rowTest n
  | _ => some badLength

/-- R134: Select Class at level 1; none when it passes. -/
def State.filterClass (s : State) (d : List Byte) : Option Answer :=
  match d with
  | [c] =>
    if c = 0 then some badArgument
    else if s.lockout.bookingClass = 0 then some (s.refuseLocked 2)
    else match (s.resolve c).row with
      | none => some (s.refuseLocked 4)
      | some n => s.rowTest n
  | _ => some badLength

/-- R132, R133: the filter's decision on the level alone; none when the request passes. -/
def State.filterLevel (s : State) (r : Request) : Option Answer :=
  match panelLevel r with
  | none => none
  | some top => if s.lockout.effective ≤ top then none else some (s.refuseLocked 1)

/-- R132: the filter's decision on a PANEL request; none when it passes. -/
def State.panelFilter (s : State) (r : Request) (d : List Byte) : Option Answer :=
  if s.lockout.effective = 1 ∧ r = .selectInput then s.filterInput d
  else if s.lockout.effective = 1 ∧ r = .selectClass then s.filterClass d
  else s.filterLevel r

end Sys2Proof.Machine
end

