-- ==== Sys2Proof/Machine/WeekTimetable.lean ====
section
/-! DEFINITION. The Week Clock and Timetable (08): the minute tick, the events of a booking, grace, dismissal, extension and
re-evaluation, and the requests that set the time and the schedule enable. -/

namespace Sys2Proof.Machine

/-! ### The live table -/

/-- R141: the first minute after the occupied interval. -/
def Booking.finish (b : Booking) : Nat := b.config.stop + b.extension

/-- R141: a minute lies in the occupied interval. -/
def Booking.contains (b : Booking) (m : Nat) : Bool := b.config.start ≤ m && m < b.finish

/-- A booking of the live table through `f`, named by its id. -/
def Timetable.editBooking (t : Timetable) (id : Nat) (f : Booking → Booking) : Timetable :=
  { t with table := t.table.map (fun (b : Booking) => if b.config.id = id then f b else b) }

/-- R141: the two live fields at 0 and clear. -/
def Booking.fresh (b : Booking) : Booking := ⟨b.config, 0, false⟩

/-- R151, R154: the start of the booking that follows the one with id `id`, 10080 when none does. -/
def nextStart (id : Nat) : List Booking → Nat
  | [] => Config.weekMinutes
  | b :: rest =>
    if b.config.id = id then (rest.head?.map (fun (n : Booking) => n.config.start)).getD Config.weekMinutes
    else nextStart id rest

/-- R143: the index of the awaited booking. -/
def Timetable.awaitedIndex (t : Timetable) : Nat := if t.cursor < t.table.length then t.cursor else 0

/-- A change of the timetable alone. -/
def State.editTimetable (s : State) (f : Timetable → Timetable) : State := { s with timetable := f s.timetable }

/-! ### Start and end (R147, R148) -/

/-- R147, step 1. -/
def Timetable.begin (t : Timetable) (i : Nat) (b : Booking) : Timetable :=
  { t.editBooking b.config.id Booking.fresh with
    state := .active, grace := none, cursor := i, active := some b.config.id }

/-- R147, steps 3 to 7, after the SCHEDULE claim has been added. -/
def State.applyBooking (s : State) (b : Booking) : State :=
  let r := if b.config.sourceClass = 0 then (s, false) else s.selectForBooking b.config.sourceClass
  let s := (r.1.handBookingPreset b.config.preset).handBookingClaim b.config.lockout b.config.sourceClass
  let s := match b.config.mode.level with
    | none => s
    | some x => s.setLevel x
  let s := s.followBlankTimer.post (.booking b.config.id) 2
  if r.2 then s.post (.booking b.config.id) 4 else s

/-- R147: the start event of booking `b` at index `i`. -/
def State.startBooking (s : State) (i : Nat) (b : Booking) : State :=
  ((s.editTimetable (·.begin i b)).handPower (.addClaim .schedule)).applyBooking b

/-- R148, step 1: the state is IDLE until the follow-on or the caller decides it. -/
def Timetable.finish (t : Timetable) (b : Booking) : Timetable :=
  { t.editBooking b.config.id Booking.fresh with active := none, state := .idle, cursor := t.cursor + 1 }

/-- R148, steps 1 to 5: the end of the active booking `b`. -/
def State.endBooking (s : State) (b : Booking) : State :=
  let s := s.editTimetable (·.finish b)
  let s := (s.handBookingClaim 0 0).handBookingPreset none
  s.followBlankTimer.post (.booking b.config.id) 3

/-- The awaited booking, when the present minute lies in its lead window (R143). -/
def State.leading (s : State) : Option Booking := s.timetable.awaited.filter s.inLeadWindow

/-- The state LEAD for booking `b`: any grace stops, the SCHEDULE claim is added, and BOOKING 1 is posted (R146, R148, R153). -/
def State.enterLead (s : State) (b : Booking) : State :=
  let s := s.editTimetable fun t => { t with state := .lead, grace := none }
  (s.handPower (.addClaim .schedule)).post (.booking b.config.id) 1

/-- R148: the lead-window test. -/
def State.leadWindowTest (s : State) : State :=
  match s.leading with
  | some b => s.enterLead b
  | none => s.editTimetable fun t => { t with state := .idle }

/-- IDLE, the SCHEDULE claim removed (R149, R153). -/
def State.enterIdle (s : State) : State :=
  (s.editTimetable fun t => { t with state := .idle, grace := none }).handPower (.removeClaim .schedule)

/-- R149: the grace expiry. -/
def State.graceExpiry (s : State) : State :=
  match s.leading with
  | some b => s.enterLead b
  | none => s.enterIdle

/-- R148: GRACE, its timer at 60 s for each minute of the setting. -/
def State.enterGrace (s : State) : State :=
  s.editTimetable fun t => { t with state := .grace, grace := some (60 * s.power.settings.autoOffGrace) }

/-- R148, R149: a grace of 0 expires at once (log 9). -/
def State.expireEmptyGrace (s : State) : State := if s.timetable.grace = some 0 then s.graceExpiry else s

/-- R148, step 6: the booking, with the dismissed mark it had, leads to GRACE. -/
def Booking.leavesGrace (b : Booking) : Bool := b.config.autoOff && !b.dismissed

/-- R148, step 6: conversion, when auto-off is no. -/
def State.convertFor (s : State) (b : Booking) : State := if b.config.autoOff then s else s.handPower .convert

/-- R148, step 6. -/
def State.followOn (s : State) (b : Booking) : State :=
  if b.leavesGrace then s.enterGrace.expireEmptyGrace else (s.convertFor b).leadWindowTest

/-! ### The minute tick (R138, R145, R146) -/

/-- R138: the clock at a minute tick. -/
def WeekClock.tick (c : WeekClock) : WeekClock := ⟨(c.minute + 1) % Config.weekMinutes, 0, c.valid⟩

/-- R145, step 1: the active booking ends at this minute. -/
def Booking.endsAt (b : Booking) (m : Nat) : Bool := b.finish == m || (b.finish == Config.weekMinutes && m == 0)

/-- R145, step 1. -/
def State.tickEnd (s : State) : State :=
  match s.activeBooking with
  | some b => if b.endsAt s.clock.minute then (s.endBooking b).followOn b else s
  | none => s

/-- R145, step 2: the week rollover. -/
def State.tickRollover (s : State) : State :=
  if s.clock.minute = 0 then s.editTimetable fun t => { t with cursor := 0 } else s

/-- R146: the lead event of the awaited booking. -/
def State.leadEvent (s : State) (b : Booking) : State :=
  match s.timetable.state with
  | .idle => s.enterLead b
  | .grace => s.enterLead b
  | .lead => s
  | .disabled => s
  | .noTime => s
  | .active => s

/-- R145, step 3: the lead minute of a booking is the present one. -/
def State.atLeadMinute (s : State) (b : Booking) : Bool :=
  0 < b.config.lead && (b.config.start + Config.weekMinutes - b.config.lead) % Config.weekMinutes == s.clock.minute

/-- R145, step 3. -/
def State.tickLead (s : State) : State :=
  match s.timetable.active, s.timetable.awaited with
  | none, some b => if s.atLeadMinute b then s.leadEvent b else s
  | _, _ => s

/-- R145, step 4. -/
def State.tickStart (s : State) : State :=
  match s.timetable.active, s.timetable.awaited with
  | none, some b => if b.config.start = s.clock.minute then s.startBooking s.timetable.awaitedIndex b else s
  | _, _ => s

/-- R142: the states in which the timetable acts on the hall. -/
def ScheduleState.runs : ScheduleState → Bool
  | .disabled => false
  | .noTime => false
  | .idle => true
  | .lead => true
  | .active => true
  | .grace => true

/-- R145: the timetable takes a minute tick, the clock having advanced. -/
def State.timetableTick (s : State) : State :=
  if s.timetable.state.runs then s.tickEnd.tickRollover.tickLead.tickStart else s.tickRollover

/-- The lamps that are LIT. -/
def State.litLamps (s : State) : PerLamp Bool := ⟨s.lampState .a == .lit, s.lampState .b == .lit⟩

/-- R3: the charges of one minute tick, both lamps as one event. -/
def State.chargeLit (s : State) (lit : PerLamp Bool) : State :=
  let s := if lit.a then s.chargeMinute .a else s
  if lit.b then s.chargeMinute .b else s

/-- R3, R10, R21: the LAU takes a minute tick. -/
def State.accountsTick (s : State) : State :=
  let lit := s.litLamps
  let w := forLamps lit (fun l w => w.recomputeLife l) ⟨s.chargeLit lit, []⟩
  Work.run settleFuel (if lit.a || lit.b then w.edit State.countLitTick else w)

/-- R138: the two takers of a minute tick, in the order the command gives (log 4). -/
def State.takeTick (s : State) (first : TickTaker) : State :=
  match first with
  | .accounts => s.accountsTick.timetableTick
  | .timetable => s.timetableTick.accountsTick

/-- R138: a minute tick. While the part is unpowered only the clock advances. -/
def State.minuteTick (s : State) (first : TickTaker) : State :=
  let s := { s with clock := s.clock.tick }
  if s.powered then s.takeTick first else s

/-! ### Re-evaluation (R153, R154) -/

/-- What a re-evaluation needs of the state before the change that causes it: the active booking with its fields as it was
ACTIVE, and the awaited booking's id when the state was LEAD (log 21). -/
structure Before where
  active : Option Booking
  lead : Option Nat
  deriving DecidableEq, Repr

/-- No booking was ACTIVE and no lead ran (R152, R155, R156). -/
def Before.nothing : Before := ⟨none, none⟩

/-- The present state as the one before a change. -/
def State.before (s : State) : Before :=
  ⟨s.activeBooking, if s.timetable.state = .lead then s.timetable.awaited.map (fun (b : Booking) => b.config.id) else none⟩

/-- R154: the previous active booking's extension, when it still fits the booking `c` of the table as it now stands. -/
def fitExtension (table : List Booking) (c : BookingConfig) (extension : Nat) : Nat :=
  if c.stop + extension ≤ Config.weekMinutes ∧ c.stop + extension ≤ nextStart c.id table then extension else 0

/-- R153, step 1, and R154: the table with the live fields that the re-evaluation counts with. DEDUCED, unsafe (log 36): a kept
extension that fits counts also where the booking's changed end alone lies at or before the present minute. -/
def carryLive (table : List Booking) (was : Option Booking) : List Booking :=
  table.map fun (b : Booking) =>
    match was with
    | some p => if b.config.id = p.config.id then ⟨b.config, fitExtension table b.config p.extension, p.dismissed⟩ else b.fresh
    | none => b.fresh

/-- R153, step 1: the index of the containing booking: from its start up to its end with the extension that `carryLive` lets it keep
(log 36). -/
def Timetable.containing (t : Timetable) (m : Nat) : Option Nat := t.table.findIdx? (fun (b : Booking) => b.contains m)

/-- R154: the fields of the kept booking that changed are re-applied, in the order of its table (log 25). -/
def State.reapply (s : State) (was now : BookingConfig) : State :=
  let r := if now.sourceClass ≠ was.sourceClass ∧ now.sourceClass ≠ 0 then s.selectForBooking now.sourceClass else (s, false)
  let s := if r.2 then r.1.post (.booking now.id) 4 else r.1
  let s := if now.lockout ≠ was.lockout ∨ now.sourceClass ≠ was.sourceClass then s.handBookingClaim now.lockout now.sourceClass else s
  if now.preset ≠ was.preset then s.handBookingPreset now.preset else s

/-- R153, step 2: the previous booking ends; the lead-window test of its follow-on is left to step 5. -/
def State.endForReevaluation (s : State) (p : Booking) : State :=
  let s := s.endBooking p
  if p.leavesGrace then s.enterGrace else s.convertFor p

/-- R153, step 4: the index of the first booking that starts after minute `m`, or the count. -/
def cursorAt (table : List Booking) (m : Nat) : Nat :=
  (table.findIdx? (fun (b : Booking) => m < b.config.start)).getD table.length

/-- R153, step 5, with the awaited booking in its lead window: BOOKING is posted unless that lead was running. -/
def State.leadOn (s : State) (b : Booking) (ran : Option Nat) : State :=
  if ran = some b.config.id then
    (s.editTimetable fun t => { t with state := .lead, grace := none }).handPower (.addClaim .schedule)
  else s.enterLead b

/-- R153, step 5: the state when no booking is ACTIVE. -/
def State.decideState (s : State) (ran : Option Nat) : State :=
  match s.leading with
  | some b => s.leadOn b ran
  | none => if s.timetable.state = .grace then s else s.enterIdle

/-- R153, steps 2, 4 and 5, where no booking contains the present minute. -/
def State.reevaluateEmpty (s : State) (before : Before) : State :=
  let s := match before.active with
    | some p => s.endForReevaluation p
    | none => s
  let s := s.editTimetable fun t => { t with cursor := cursorAt t.table s.clock.minute }
  (s.decideState before.lead).expireEmptyGrace

/-- R153, steps 2 to 4, where the booking at index `i` contains the present minute. -/
def State.reevaluateWithin (s : State) (before : Before) (i : Nat) (b : Booking) : State :=
  match before.active with
  | some p =>
    if p.config.id = b.config.id then
      (s.editTimetable fun t => { t with state := .active, active := some b.config.id, cursor := i }).reapply p.config b.config
    else (s.endForReevaluation p).startBooking i b
  | none => s.startBooking i b

/-- R153: a re-evaluation. -/
def State.reevaluate (s : State) (before : Before) : State :=
  if s.timetable.state.runs then
    let s := s.editTimetable fun t => { t with table := carryLive t.table before.active }
    match s.timetable.containing s.clock.minute with
    | some i => match s.timetable.table[i]? with
      | some b => s.reevaluateWithin before i b
      | none => s
    | none => s.reevaluateEmpty before
  else s

/-! ### Requests and the dismissal -/

/-- R150: a dismissal. -/
def State.dismiss (s : State) : State :=
  match s.activeBooking with
  | none => s
  | some b =>
    if b.dismissed then s
    else
      (s.editTimetable (·.editBooking b.config.id (fun (x : Booking) => { x with dismissed := true }))).handPower
        (.removeClaim .schedule)

/-- R54: Power Off. -/
def powerOff (_d : List Byte) (s : State) : State × Answer :=
  let s := (s.handPower (.removeClaim .panel)).dismiss
  (s, ⟨.ok, [s.power.demand.byte]⟩)

/-- R151, R177: the active booking's id, its extension and its end plus extension. -/
def Booking.extendBytes (b : Booking) : List Byte := le16 b.config.id ++ [byteOf b.extension] ++ le16 b.finish

/-- R151, step 2: the extension has no room. -/
def Booking.noRoom (b : Booking) (table : List Booking) : Bool :=
  let stop := b.finish + Config.extendStep
  Config.extensionMax < b.extension + Config.extendStep || Config.weekMinutes < stop || nextStart b.config.id table < stop

/-- R151: Extend Booking. -/
def extendBooking (_d : List Byte) (s : State) : State × Answer :=
  match s.activeBooking with
  | none => (s, ⟨.refusedState, []⟩)
  | some b =>
    if b.noRoom s.timetable.table then (s, ⟨.conflict, b.extendBytes⟩)
    else
      let x : Booking := { b with extension := b.extension + Config.extendStep }
      let s := s.editTimetable (·.editBooking b.config.id (fun (_ : Booking) => x))
      (s.post (.booking b.config.id) 5, ⟨.ok, x.extendBytes⟩)

/-- R140, step 3: NO-TIME ends when the time is set. -/
def Timetable.leaveNoTime (t : Timetable) : Timetable :=
  if t.state = .noTime then { t with state := .idle, cursor := 0 } else t

/-- R140: Set Time. -/
def setTime (d : List Byte) (s : State) : State × Answer :=
  match d with
  | [m0, m1, sec] =>
    let minute := clampNat 0 10079 (readU16 m0 m1)
    let second := clampNat 0 59 sec.toNat
    let clamped := minute != readU16 m0 m1 || second != sec.toNat
    let before := s.before
    let s := { s with clock := ⟨minute, second, true⟩, timetable := s.timetable.leaveNoTime }
    let s := s.reevaluate before
    (s, okOrClamped clamped
      (clockBytes s.clock ++ [byteOf s.timetable.state.number] ++ idBytes s.timetable.active))
  | _ => (s, badLength)

/-- R152, R155: the state that the enable and time-valid call for, before a re-evaluation. -/
def openingState (enable valid : Bool) : ScheduleState := if !enable then .disabled else if !valid then .noTime else .idle

/-- R152, off: the active booking ends without a follow-on, the grace stops, the SCHEDULE claim goes. -/
def State.disableSchedule (s : State) : State :=
  let s := match s.activeBooking with
    | some b => s.endBooking b
    | none => s
  let s := (s.editTimetable fun t => { t with grace := none }).handPower (.removeClaim .schedule)
  s.editTimetable fun t => { t with state := .disabled, cursor := 0 }

/-- R152, on. -/
def State.enableSchedule (s : State) : State :=
  (s.editTimetable fun t => { t with state := openingState true s.clock.valid, cursor := 0 }).reevaluate Before.nothing

/-- R152: the enable as asked, and what it leads to. -/
def State.setEnable (s : State) (on : Bool) : State :=
  let was := s.timetable.enable
  let s := { s with timetable.enable := on, store.scheduleEnable := some on }
  if was = on then s else if on then s.enableSchedule else s.disableSchedule

/-- R152: Set Schedule Enable. -/
def setScheduleEnable (d : List Byte) (s : State) : State × Answer :=
  match d with
  | [x] => match readFlag x with
    | none => (s, badArgument)
    | some on =>
      let s := s.setEnable on
      (s, ⟨.ok, [flagByte on, byteOf s.timetable.state.number]⟩)
  | _ => (s, badLength)

/-- R165: Read Schedule State. -/
def readScheduleState (_d : List Byte) (s : State) : State × Answer :=
  let t := s.timetable
  (s, ⟨.ok, [byteOf t.state.number] ++ clockBytes s.clock ++ [byteOf t.cursor] ++ idBytes t.active
    ++ [byteOf ((s.activeBooking.map Booking.extension).getD 0),
        flagByte ((s.activeBooking.map Booking.dismissed).getD false),
        byteOf t.table.length, flagByte s.staging.isOpen, byteOf s.staging.bookings.length]⟩)

end Sys2Proof.Machine
end

