-- ==== Sys2Proof/Machine/StagingList.lean ====
section
/-! DEFINITION. Upload, amendment and reading of the timetable (09): the staging list and its commit, Insert Booking, Delete
Booking and Read Bookings. -/

namespace Sys2Proof.Machine

/-! ### Booking records (R175) -/

/-- R175: the nine configuration fields of a booking record of 14 bytes; the extension and dismissed bytes are ignored. -/
def readBooking : List Byte → Option RawBooking
  | [i0, i1, s0, s1, e0, e1, lead, c, preset, lockout, mode, autoOff, _, _] =>
    some ⟨readU16 i0 i1, readU16 s0 s1, readU16 e0 e1, lead.toNat, c, preset, lockout, mode, autoOff⟩
  | _ => none

/-- R175: the booking record that Read Bookings returns. -/
def Booking.bytes (b : Booking) : List Byte :=
  le16 b.config.id ++ le16 b.config.start ++ le16 b.config.stop
    ++ [byteOf b.config.lead, b.config.sourceClass, presetRefByte b.config.preset, byteOf b.config.lockout.val,
        bookingModeByte b.config.mode, flagByte b.config.autoOff, byteOf b.extension, flagByte b.dismissed]

/-- R160, pass 1: the fields of one booking in the order of its table; the error is the failure kind. -/
def RawBooking.check (x : RawBooking) : Except Nat BookingConfig :=
  if x.id = 0 then .error 1
  else if 10079 < x.start then .error 2
  else if x.stop ≤ x.start ∨ Config.weekMinutes < x.stop then .error 3
  else if 30 < x.lead then .error 4
  else match readPresetRef x.preset with
    | none => .error 5
    | some preset => match readLockoutLevel x.lockout with
      | none => .error 6
      | some lockout => match readBookingMode x.mode with
        | none => .error 7
        | some mode => match readFlag x.autoOff with
          | none => .error 8
          | some autoOff => .ok ⟨x.id, x.start, x.stop, x.lead, x.sourceClass, preset, lockout, mode, autoOff⟩

/-! ### Committing an upload (R160, R161) -/

/-- R161: why a commit is refused. -/
structure CommitFailure where
  status : Status
  kind : Nat
  index : Nat
  other : Option Nat
  deriving DecidableEq, Repr

/-- A staged booking that has passed pass 1, with its staged index. -/
structure Indexed where
  index : Nat
  config : BookingConfig
  deriving DecidableEq, Repr

/-- R160, pass 1, from staged index `i` on. -/
def checkFields (i : Nat) : List RawBooking → Except CommitFailure (List Indexed)
  | [] => .ok []
  | x :: rest => match x.check with
    | .error kind => .error ⟨.badArgument, kind, i, none⟩
    | .ok c => match checkFields (i + 1) rest with
      | .error e => .error e
      | .ok cs => .ok (⟨i, c⟩ :: cs)

/-- R160, pass 2: the first booking whose id an earlier one carries, with that earlier one. -/
def findTwin (seen : List Indexed) : List Indexed → Option (Indexed × Indexed)
  | [] => none
  | x :: rest => match seen.find? (fun (y : Indexed) => y.config.id == x.config.id) with
    | some y => some (x, y)
    | none => findTwin (seen ++ [x]) rest

/-- An item put into a list in ascending order of `key`, behind those of equal key. -/
def insertBy {α : Type} (key : α → Nat) (x : α) : List α → List α
  | [] => [x]
  | y :: rest => if key y ≤ key x then y :: insertBy key x rest else x :: y :: rest

/-- R160, pass 3: the staged bookings by start, those of equal start in staged order. -/
def sortStaged (l : List Indexed) : List Indexed := l.foldl (fun acc x => insertBy (fun (y : Indexed) => y.config.start) x acc) []

/-- R160, pass 3: the first booking that starts before the end of the one before it, with that one. -/
def findOverlap : List Indexed → Option (Indexed × Indexed)
  | x :: y :: rest => if y.config.start < x.config.stop then some (y, x) else findOverlap (y :: rest)
  | [_] => none
  | [] => none

/-- R160: the three passes; a list that passes them makes the table. -/
def checkStaged (l : List RawBooking) : Except CommitFailure (List BookingConfig) :=
  match checkFields 0 l with
  | .error e => .error e
  | .ok cs => match findTwin [] cs with
    | some (x, y) => .error ⟨.conflict, 16, x.index, some y.index⟩
    | none => match findOverlap (sortStaged cs) with
      | some (x, y) => .error ⟨.conflict, 17, x.index, some y.index⟩
      | none => .ok ((sortStaged cs).map Indexed.config)

/-- The save of the live table (R161, R162, R163): its configuration. -/
def State.saveTable (s : State) : State :=
  { s with store.liveTable := some (s.timetable.table.map Booking.config) }

/-- A new live table, saved. -/
def State.setTable (s : State) (table : List Booking) : State := (s.editTimetable fun t => { t with table := table }).saveTable

/-- R157: the staging list CLOSED and empty. -/
def closedStaging : Staging := ⟨false, []⟩

/-- R161, steps 1 to 5. -/
def State.commit (s : State) (cs : List BookingConfig) : State :=
  let before := s.before
  let s := s.setTable (cs.map (fun c => ⟨c, 0, false⟩))
  let s := { s with staging := closedStaging }
  (s.post .scheduleCommitted cs.length).reevaluate before

/-- R177: schedule state, active booking id and cursor. -/
def State.scheduleBytes (s : State) : List Byte :=
  [byteOf s.timetable.state.number] ++ idBytes s.timetable.active ++ [byteOf s.timetable.cursor]

/-- R177: the count of the live table. -/
def State.countByte (s : State) : Byte := byteOf s.timetable.table.length

/-- R158: Stage Begin. -/
def stageBegin (_d : List Byte) (s : State) : State × Answer :=
  ({ s with staging := ⟨true, []⟩ }, ⟨.ok, [0]⟩)

/-- R159: Stage Append. -/
def stageAppend (d : List Byte) (s : State) : State × Answer :=
  match readBooking d with
  | none => (s, badLength)
  | some x =>
    let count := s.staging.bookings.length
    if !s.staging.isOpen then (s, ⟨.refusedState, []⟩)
    else if Config.tableMax ≤ count then (s, ⟨.full, []⟩)
    else ({ s with staging.bookings := s.staging.bookings ++ [x] }, ⟨.ok, [byteOf count, byteOf (count + 1)]⟩)

/-- R160, R161: Stage Commit. -/
def stageCommit (_d : List Byte) (s : State) : State × Answer :=
  if !s.staging.isOpen then (s, ⟨.refusedState, []⟩)
  else match checkStaged s.staging.bookings with
    | .error e => (s, ⟨e.status, [byteOf e.kind, byteOf e.index, (e.other.map byteOf).getD 0xFF]⟩)
    | .ok cs =>
      let s := s.commit cs
      (s, ⟨.ok, [s.countByte] ++ s.scheduleBytes⟩)

/-! ### Amendment (R162, R163) -/

/-- R162, step 4: the interval of `c` and the occupied interval of `b` overlap. -/
def Booking.overlaps (b : Booking) (c : BookingConfig) : Bool := c.start < b.finish && b.config.start < c.stop

/-- R162, step 4: the id of a live booking that overlaps; among several the spec leaves open which (log 10). -/
def overlapping (table : List Booking) (c : BookingConfig) : Option Nat :=
  match (table.filter (·.overlaps c)).map (fun (b : Booking) => b.config.id) with
  | [] => none
  | [id] => some id
  | ids => ids[Config.overlapChoice ids % ids.length]?

/-- R162: the index that a booking takes. -/
def insertIndex (table : List Booking) (c : BookingConfig) : Nat :=
  (table.takeWhile (fun (b : Booking) => b.config.start ≤ c.start)).length

/-- R162: an accepted insertion. -/
def State.insertBooking (s : State) (c : BookingConfig) : State :=
  let before := s.before
  (s.setTable (insertBy (fun (b : Booking) => b.config.start) ⟨c, 0, false⟩ s.timetable.table)).reevaluate before

/-- R162: Insert Booking. -/
def insertBooking (d : List Byte) (s : State) : State × Answer :=
  match readBooking d with
  | none => (s, badLength)
  | some x => match x.check with
    | .error kind => (s, ⟨.badArgument, [byteOf kind]⟩)
    | .ok c =>
      if Config.tableMax ≤ s.timetable.table.length then (s, ⟨.full, []⟩)
      else if (s.timetable.find c.id).isSome then (s, ⟨.conflict, [16] ++ le16 c.id⟩)
      else match overlapping s.timetable.table c with
        | some id => (s, ⟨.conflict, [17] ++ le16 id⟩)
        | none =>
          let index := insertIndex s.timetable.table c
          let s := s.insertBooking c
          (s, ⟨.ok, [byteOf index, s.countByte] ++ s.scheduleBytes⟩)

/-- R163: an accepted deletion. -/
def State.deleteBooking (s : State) (id : Nat) : State :=
  let before := s.before
  (s.setTable (s.timetable.table.filter (fun (b : Booking) => b.config.id != id))).reevaluate before

/-- R163: Delete Booking. -/
def deleteBooking (d : List Byte) (s : State) : State × Answer :=
  match d with
  | [i0, i1] =>
    let id := readU16 i0 i1
    if (s.timetable.find id).isSome then
      let s := s.deleteBooking id
      (s, ⟨.ok, [s.countByte] ++ s.scheduleBytes⟩)
    else (s, ⟨.noMatch, []⟩)
  | _ => (s, badLength)

/-! ### Reading (R164) -/

/-- R164: at most four bookings in wrap order from index k. -/
def wrapFrom (table : List Booking) (k : Nat) : List Booking := (table.drop k ++ table.take k).take 4

/-- R164: Read Bookings. -/
def readBookings (d : List Byte) (s : State) : State × Answer :=
  match d with
  | [k] =>
    let table := s.timetable.table
    if table.isEmpty then (s, ⟨.empty, []⟩)
    else if table.length ≤ k.toNat then (s, badArgument)
    else
      let out := wrapFrom table k.toNat
      (s, ⟨.ok, [byteOf table.length, k, byteOf out.length] ++ out.flatMap Booking.bytes⟩)
  | _ => (s, badLength)

end Sys2Proof.Machine
end

