-- ==== Sys2Proof/Machine/Resets.lean ====
section
/-! DEFINITION. The four kinds of reset (00_scope.md, "Kinds of reset"), each as every block's chapter gives it. The notices that
blocks post in the course of a reset are emptied with the queues (R183), so they are not posted here (log 22). -/

namespace Sys2Proof.Machine

/-! ### Power-on and hardware reset -/

/-- R48: the LCU after a restore. -/
def restoredLamps (x : LampParams) : Lamps :=
  let lamp : LampControl := ⟨.cooling x.coolDown false, 0⟩
  ⟨⟨lamp, lamp⟩, false, x⟩

/-- R68: the PDU after a restore. -/
def restoredPower (x : PowerSettings) : Power :=
  { demand := ⟨false, false, false⟩, state := .coolingDown, held := false, degraded := false, session := ⟨false, false⟩,
    latched := none, level := x.defaultLevel, blank := false, blankTimer := none, blankSpent := false, settings := x }

/-- R85: a row after a restore. -/
def restoredRow (x : RowConfig) : InputRow := ⟨x, false, .idle⟩

/-- R102: the ACQ after a restore. -/
def restoredAcquisition (x : AcqParams) : Acquisition := ⟨none, 0, none, x, 0, 0⟩

/-- R122: the TGU after a restore, its record formed afresh with generation 0. -/
def restoredTilt (c : Calibration) (presets : Vector Preset 8) : Tilt :=
  Tilt.freshRecord
    { count := 0, homed := false, armed := true, settle := none, settled := 0, trims := noTrims,
      bookingPreset := none, rowPreset := none, index := 0, record := ⟨noTrims, false, false, false, .autoTrim, 0, 0⟩,
      calibration := c, presets := presets }

/-- R135: the LKU with a manual claim and nothing else. -/
def openLockout (manual : Fin 4) : Lockout := ⟨manual, 0, 0, none, manual⟩

/-- R155, steps 2 to 4, and R156: the timetable before its re-evaluation (log 29). -/
def openingTimetable (enable : Bool) (table : List BookingConfig) (valid : Bool) : Timetable :=
  ⟨enable, table.map (fun c => ⟨c, 0, false⟩), 0, openingState enable valid, none, none⟩

/-- R22, R48, R68, R85, R102, R122, R135, R155, R166, R167, R183: every block as power-on leaves it before the re-evaluation, from
the store and the clock. -/
def State.restored (s : State) : State where
  accounts := (s.store.accounts.getD newSavedAccounts).restored
  lamps := restoredLamps (s.store.lampParams.getD newLampParams)
  power := restoredPower (s.store.powerSettings.getD newPowerSettings)
  inputs := mapVector restoredRow (s.store.inputRows.getD (Vector.replicate 10 factoryRow))
  acq := restoredAcquisition (s.store.acqParams.getD newAcqParams)
  tilt := restoredTilt (s.store.calibration.getD newCalibration) (s.store.presets.getD (Vector.replicate 8 newPreset))
  lockout := openLockout (s.store.manualClaim.getD 0)
  clock := s.clock
  timetable := openingTimetable (s.store.scheduleEnable.getD false) (s.store.liveTable.getD []) s.clock.valid
  staging := closedStaging
  ports := ⟨idlePort, idlePort, idlePort⟩
  queues := ⟨emptyQueue, emptyQueue, emptyQueue⟩
  handed := ⟨[], [], []⟩
  store := s.store
  lines := s.lines
  powered := s.powered
  pending := s.pending

/-- R139: the clock at power-on and hardware reset, by the level of BACKUP-GOOD. -/
def WeekClock.sampled (c : WeekClock) (backupGood : Bool) : WeekClock := if backupGood then c else ⟨0, 0, false⟩

/-- R139, R155, R183: the reset of power-on and hardware reset: the restore, and TIME-INVALID into the emptied queues. -/
def State.resetAll (s : State) (backupGood : Bool) : State :=
  let s := { s with lines.backupGood := backupGood, clock := s.clock.sampled backupGood, powered := true }
  let s := s.restored
  if backupGood then s else s.post .timeInvalid 0

/-! ### Loss of power (R21, R172) -/

/-- R21, R172, R174: after a request whose saves were cut short, each block's piece of the store is the new one where its save
was complete and the old one otherwise, never a mixture (log 11). -/
def Store.merge (old new : Store) (done : List StoreUnit) : Store where
  accounts := if done.contains .accounts then new.accounts else old.accounts
  lampParams := if done.contains .lampParams then new.lampParams else old.lampParams
  powerSettings := if done.contains .powerSettings then new.powerSettings else old.powerSettings
  inputRows := if done.contains .inputRows then new.inputRows else old.inputRows
  acqParams := if done.contains .acqParams then new.acqParams else old.acqParams
  calibration := if done.contains .geometry then new.calibration else old.calibration
  presets := if done.contains .geometry then new.presets else old.presets
  manualClaim := if done.contains .manualClaim then new.manualClaim else old.manualClaim
  scheduleEnable := if done.contains .timetable then new.scheduleEnable else old.scheduleEnable
  liveTable := if done.contains .timetable then new.liveTable else old.liveTable

/-- Power is lost with the store as given: what is live is gone; the clock runs on in its backup domain (R138, log 7). -/
def State.powerDown (s : State) (store : Store) : State := { s with store := store, powered := false }.restored

/-! ### Service reset (R173) -/

/-- R49: the LCU at service reset; the LAU saves when a lamp leaves LIT or STRIKING (R23). -/
def State.serviceLamps (s : State) : State :=
  let hit := s.burning
  let s := { (s.mapConditions (·.tripped s.lamps.params.coolDown)) with lamps.thermalHold := false }
  let s := s.zeroSessionDropouts
  if hit.count = 0 then s else s.saveAccounts

/-- R69: the PDU at service reset; the power state is the one the lamps allow. -/
def State.servicePower (s : State) : State :=
  let state : PowerState := if s.quiet then .standby else .coolingDown
  { s with power := { restoredPower s.power.settings with state := state, level := s.power.level } }

/-- R86, R103: the input table and the ACQ at service reset; the SEL lines and the strobe count stay. -/
def State.serviceSelection (s : State) : State :=
  { s.clearLive with acq.selected := none, acq.attempts := 0, acq.window := none }

/-- R123: the TGU at service reset. -/
def Tilt.serviceReset (t : Tilt) : Tilt :=
  Tilt.freshRecord { t with armed := true, settle := none, trims := noTrims, bookingPreset := none, rowPreset := none, index := 0 }

/-- R49, R69, R86, R103, R123, R136, R156, R166, R183: the service reset of every block. -/
def State.serviceBlocks (s : State) : State :=
  let s := s.serviceLamps.servicePower.serviceSelection
  let s := { s with
    tilt := s.tilt.serviceReset
    lockout := openLockout s.lockout.manual
    timetable := openingTimetable s.timetable.enable (s.timetable.table.map Booking.config) s.clock.valid
    staging := closedStaging }
  s.clearQueues

/-- R173: Service Reset, with the re-evaluation that follows it in the same step (log 32). -/
def serviceReset (_d : List Byte) (s : State) : State × Answer :=
  let s := s.serviceBlocks.reevaluate Before.nothing
  (s, ⟨.ok, [byteOf s.power.number, byteOf s.timetable.state.number]⟩)

/-! ### Factory reset (R174) -/

/-- R156, R166: the WCT and the staging list at factory reset. -/
def State.factoryTimetable (s : State) : State :=
  let s := { s with
    timetable := ⟨false, [], 0, .disabled, none, none⟩
    staging := closedStaging
    store.scheduleEnable := some false
    store.liveTable := some [] }
  s.handPower (.removeClaim .schedule)

/-- R50, R69: the LCU and the PDU at factory reset. -/
def State.factoryLamps (s : State) : State :=
  { s with
    lamps.params := newLampParams
    lamps.thermalHold := false
    store.lampParams := some newLampParams
    power.settings := newPowerSettings
    power.level := .full
    power.blank := false
    store.powerSettings := some newPowerSettings }

/-- R86, R103: the input table and the ACQ at factory reset. -/
def State.factorySelection (s : State) : State :=
  let rows : Vector RowConfig 10 := Vector.replicate 10 factoryRow
  let s := { s with inputs := mapVector restoredRow rows, store.inputRows := some rows }
  { s with
    acq.selected := none, acq.attempts := 0, acq.window := none, acq.params := newAcqParams
    store.acqParams := some newAcqParams }

/-- R123: the TGU at factory reset. -/
def Tilt.factoryReset (t : Tilt) : Tilt :=
  Tilt.serviceReset { t with calibration := newCalibration, presets := Vector.replicate 8 newPreset, homed := false }

/-- R123, R136: the TGU and the LKU at factory reset. -/
def State.factoryGeometry (s : State) : State :=
  { s with
    tilt := s.tilt.factoryReset
    store.calibration := some newCalibration
    store.presets := some (Vector.replicate 8 newPreset)
    lockout := openLockout 0
    store.manualClaim := some 0 }

/-- R174: an accepted Factory Reset. The notices posted in its course are discarded (R183); those that a queue had not yet taken
before it still wait. The release of a thermal hold is followed by a re-check (R50, R183). -/
def State.factoryBlocks (s : State) : State :=
  let hold := s.lamps.thermalHold
  let handed := s.handed
  let s := s.factoryTimetable.factoryLamps.factorySelection.factoryGeometry.clearQueues
  let s := { s with handed := handed }
  if hold then s.handPower .recheck else s

/-- R174: Factory Reset. -/
def factoryReset (_d : List Byte) (s : State) : State × Answer :=
  if s.power.state = .standby then
    let s := s.factoryBlocks
    (s, ⟨.ok, [byteOf s.power.number]⟩)
  else (s, ⟨.refusedState, [byteOf s.power.number]⟩)

end Sys2Proof.Machine
end

