-- ==== Sys2Proof/Machine/Ports.lean ====
section
/-! DEFINITION. The Port Units (10): assembling a frame byte by byte, the checks of a complete frame, the block that owns each
request, and the reply; with the three requests of Read Status and of the notice queues (R67, R181, R182). -/

namespace Sys2Proof.Machine

/-! ### Read Status (R67) -/

/-- R67: Read Status, from port `p`. -/
def readStatus (p : Port) (_d : List Byte) (s : State) : State × Answer :=
  (s, ⟨.ok,
    [byteOf s.power.number, s.power.demand.byte, levelByte s.power.level, flagByte s.power.blank,
     byteOf (s.lampState .a).number, byteOf (s.lampState .b).number, inputRefByte s.selectedRow,
     byteOf s.selectedStatus.number, byteOf s.lockout.effective.val, byteOf s.timetable.state.number,
     byteOf (s.queues.get p).notices.length]⟩)

/-! ### The notice queue of a port (R181, R182) -/

/-- R176: the code of a notice kind. -/
def kindCode : Topic → Nat
  | .thermalTrip => 1
  | .lampFailed _ => 2
  | .noLamp => 3
  | .timeInvalid => 4
  | .lampLife _ => 5
  | .senseFault _ => 6
  | .tiltFault => 7
  | .powerState => 8
  | .lockoutChanged => 9
  | .resyncRequest _ => 10
  | .blank => 11
  | .inputSelected _ => 12
  | .acquisition _ => 13
  | .geometryChanged => 14
  | .booking _ => 15
  | .lampState _ => 16
  | .scheduleCommitted => 17

/-- R176: the code of a notice's subject kind: 0 none, 1 lamp, 2 input, 4 booking. -/
def subjectKindCode : Topic → Nat
  | .lampFailed _ | .lampLife _ | .senseFault _ | .lampState _ => 1
  | .resyncRequest _ | .inputSelected (some _) | .acquisition _ => 2
  | .booking _ => 4
  | .thermalTrip | .noLamp | .timeInvalid | .tiltFault | .powerState | .lockoutChanged | .blank | .inputSelected none
  | .geometryChanged | .scheduleCommitted => 0

/-- R178: the subject of a notice, 0 when its subject kind is none. -/
def subjectNumber : Topic → Nat
  | .lampFailed l | .lampLife l | .senseFault l | .lampState l => (lampByte l).toNat
  | .resyncRequest n | .inputSelected (some n) | .acquisition n => n.val
  | .booking id => id
  | .thermalTrip | .noLamp | .timeInvalid | .tiltFault | .powerState | .lockoutChanged | .blank | .inputSelected none
  | .geometryChanged | .scheduleCommitted => 0

/-- R176: the notice record. -/
def Notice.bytes (n : Notice) : List Byte :=
  [byteOf (kindCode n.topic), byteOf n.topic.priority, byteOf (subjectKindCode n.topic)] ++ le16 (subjectNumber n.topic)
    ++ le16 n.value.toNat ++ le16 n.stamp

/-- R181: Take Notice, from port `p`. -/
def takeNotice (p : Port) (_d : List Byte) (s : State) : State × Answer :=
  let q := s.queues.get p
  match q.notices with
  | [] => ({ s with queues := s.queues.set p { q with lost := 0 } }, ⟨.empty, [byteOf q.lost]⟩)
  | n :: rest =>
    ({ s with queues := s.queues.set p { q with notices := rest, lost := 0 } },
      ⟨.ok, n.bytes ++ [byteOf rest.length, byteOf q.lost]⟩)

/-- R182: Set Notice Mask, from port `p`. -/
def setNoticeMask (p : Port) (d : List Byte) (s : State) : State × Answer :=
  match d with
  | [x] =>
    let mask := clampNat 0 7 x.toNat
    ({ s with queues := s.queues.set p { s.queues.get p with mask := mask } }, okOrClamped (mask != x.toNat) [byteOf mask])
  | _ => (s, badLength)

/-! ### Dispatch (R170) -/

/-- R170, check 5: the owning block carries the request out. -/
def owner (r : Request) (p : Port) (d : List Byte) (s : State) : State × Answer :=
  match r with
  | .readStatus => Sys2Proof.Machine.readStatus p d s
  | .takeNotice => Sys2Proof.Machine.takeNotice p d s
  | .setNoticeMask => Sys2Proof.Machine.setNoticeMask p d s
  | .powerOn => Sys2Proof.Machine.powerOn d s
  | .powerOff => Sys2Proof.Machine.powerOff d s
  | .setLampPower => Sys2Proof.Machine.setLampPower d s
  | .setBlank => Sys2Proof.Machine.setBlank d s
  | .facilityPowerClaim => Sys2Proof.Machine.facilityPowerClaim d s
  | .setPowerDefaults => Sys2Proof.Machine.setPowerDefaults d s
  | .selectInput => Sys2Proof.Machine.selectInput d s
  | .selectClass => Sys2Proof.Machine.selectClass d s
  | .writeInputRow => Sys2Proof.Machine.writeInputRow d s
  | .readInputRow => Sys2Proof.Machine.readInputRow d s
  | .setAcquisitionParameters => Sys2Proof.Machine.setAcquisitionParameters d s
  | .nudgeCorner => Sys2Proof.Machine.nudgeCorner d s
  | .clearSessionTrims => Sys2Proof.Machine.clearSessionTrims d s
  | .writePreset => Sys2Proof.Machine.writePreset d s
  | .readPreset => Sys2Proof.Machine.readPreset d s
  | .storeSessionTrims => Sys2Proof.Machine.storeSessionTrims d s
  | .setKeystoneCalibration => Sys2Proof.Machine.setKeystoneCalibration d s
  | .armHoming => Sys2Proof.Machine.armHoming d s
  | .readGeometry => Sys2Proof.Machine.readGeometry d s
  | .readCorners => Sys2Proof.Machine.readCorners d s
  | .readTilt => Sys2Proof.Machine.readTilt d s
  | .extendBooking => Sys2Proof.Machine.extendBooking d s
  | .setTime => Sys2Proof.Machine.setTime d s
  | .readScheduleState => Sys2Proof.Machine.readScheduleState d s
  | .readBookings => Sys2Proof.Machine.readBookings d s
  | .stageBegin => Sys2Proof.Machine.stageBegin d s
  | .stageAppend => Sys2Proof.Machine.stageAppend d s
  | .stageCommit => Sys2Proof.Machine.stageCommit d s
  | .insertBooking => Sys2Proof.Machine.insertBooking d s
  | .deleteBooking => Sys2Proof.Machine.deleteBooking d s
  | .setScheduleEnable => Sys2Proof.Machine.setScheduleEnable d s
  | .setManualLockout => Sys2Proof.Machine.setManualLockout d s
  | .openServiceWindow => Sys2Proof.Machine.openServiceWindow d s
  | .closeServiceWindow => Sys2Proof.Machine.closeServiceWindow d s
  | .readLockout => Sys2Proof.Machine.readLockout d s
  | .readLampAccount => Sys2Proof.Machine.readLampAccount d s
  | .takeAccountSnapshot => Sys2Proof.Machine.takeAccountSnapshot d s
  | .readSnapshot => Sys2Proof.Machine.readSnapshot d s
  | .setLampThresholds => Sys2Proof.Machine.setLampThresholds d s
  | .setLampParameters => Sys2Proof.Machine.setLampParameters d s
  | .lampReplaced => Sys2Proof.Machine.lampReplaced d s
  | .readReplacementHistory => Sys2Proof.Machine.readReplacementHistory d s
  | .clearLampFault => Sys2Proof.Machine.clearLampFault d s
  | .serviceReset => Sys2Proof.Machine.serviceReset d s
  | .factoryReset => Sys2Proof.Machine.factoryReset d s
  | .syncReport => Sys2Proof.Machine.syncReport d s
  | .presenceReport => Sys2Proof.Machine.presenceReport d s
  | .thermalTrip => Sys2Proof.Machine.thermalTrip d s
  | .thermalClear => Sys2Proof.Machine.thermalClear d s

/-- R170, checks 4 and 5: the PANEL filter, the length, the owning block. -/
def carryOut (row : CatalogueRow) (p : Port) (d : List Byte) (s : State) : State × Answer :=
  match (if p = .panel then s.panelFilter row.request d else none) with
  | some x => (s, x)
  | none => if d.length = row.length then owner row.request p d s else (s, badLength)

/-- R170: the checks of a complete frame whose CHECK byte is right, in order. -/
def dispatch (p : Port) (code : Byte) (d : List Byte) (s : State) : State × Answer :=
  match lookupCode code with
  | none => (s, ⟨.unknownRequest, []⟩)
  | some row => if row.ports.contains p then carryOut row p d s else (s, ⟨.notPermitted, []⟩)

/-! ### Frames (R167 to R169) -/

/-- The Port Unit of port `p` written. -/
def State.setPort (s : State) (p : Port) (x : PortUnit) : State := { s with ports := s.ports.set p x }

/-- R168, R169: the port is REPLYING with the frame that it answers complete in its buffer and its timer stopped, the reply frame on
its way (log 28). -/
def State.reply (s : State) (p : Port) (frame : List Byte) (code : Byte) (x : Answer) : State :=
  s.setPort p ⟨.replying, frame, none, replyFrame code x⟩

/-- R169: the reply to the right frame of code `code` and payload `d`. -/
def State.answer (s : State) (p : Port) (code : Byte) (d : List Byte) (x : Answer) : State :=
  s.reply p (keptFrame code d) code x

/-- R169, R170: a complete frame with the right CHECK byte is taken and answered. -/
def State.takeFrame (s : State) (p : Port) (frame : List Byte) (code : Byte) (d : List Byte) : State :=
  let r := dispatch p code d s
  r.1.reply p frame code r.2

/-- R168: a byte taken into the frame restarts the inter-byte timer. -/
def assembling (x : ReceiveState) (buffer : List Byte) : PortUnit := ⟨x, buffer, some Config.interByteTime, []⟩

/-- R168, R170 check 1: the CHECK byte is kept and completes the frame. -/
def State.completeFrame (s : State) (p : Port) (b : Byte) : State :=
  let buffer := (s.ports.get p).buffer
  match buffer with
  | _ :: code :: d =>
    let frame := buffer ++ [b]
    if frameSum frame = 0 then s.takeFrame p frame code d else s.reply p frame code ⟨.badFrame, []⟩
  | _ => s.setPort p idlePort

/-- R168: the second byte of HEADER and those of BODY. -/
def bodyAfter (len : Byte) (rest : List Byte) : PortUnit :=
  assembling (if rest.length = len.toNat + 1 then .check else .body) (len :: rest)

/-- R168: a byte arrives on port `p`. -/
def State.receiveByte (s : State) (p : Port) (b : Byte) : State :=
  let x := s.ports.get p
  match x.receive with
  | .hunt => if b = Config.syncByte then s.setPort p (assembling .header []) else s
  | .header => match x.buffer with
    | [] => s.setPort p (if Config.payloadMax < b.toNat then idlePort else assembling .header [b])
    | len :: rest => s.setPort p (bodyAfter len (rest ++ [b]))
  | .body => match x.buffer with
    | [] => s.setPort p idlePort
    | len :: rest => s.setPort p (bodyAfter len (rest ++ [b]))
  | .check => s.completeFrame p b
  | .replying => s

/-- R168: bytes arrive on port `p` one after another. -/
def State.receiveBytes (s : State) (p : Port) (bytes : List Byte) : State := bytes.foldl (fun s b => s.receiveByte p b) s

/-- A whole request frame arrives on port `p`. In HUNT it is taken as a frame; elsewhere, and with a LEN above 64, each of its
bytes is taken as the receive state has it (log 1). -/
def State.sendFrame (s : State) (p : Port) (code : Byte) (d : List Byte) : State :=
  if (s.ports.get p).receive = .hunt ∧ d.length ≤ Config.payloadMax then s.takeFrame p (keptFrame code d) code d
  else s.receiveBytes p (requestFrame code d)

/-- R168: the inter-byte timer of port `p` expires. -/
def State.interByteExpiry (s : State) (p : Port) : State :=
  match (s.ports.get p).receive with
  | .hunt => s
  | .header => s.setPort p idlePort
  | .body => s.setPort p idlePort
  | .check => s.setPort p idlePort
  | .replying => s

/-- R169: the last byte of the reply has been sent. -/
def State.replyEnd (s : State) (p : Port) : State :=
  if (s.ports.get p).receive = .replying then s.setPort p idlePort else s

/-- R135, R139, R155, R183: power-on and hardware reset: the reset, then in the gap before the re-evaluation the request, if any, that
the PANEL port takes, which meets the manual claim alone, then the re-evaluation (log 32). -/
def State.powerUp (s : State) (x : Restart) : State :=
  let s := s.resetAll x.backupGood
  (match x.gap with
  | some (code, d) => s.sendFrame .panel code d
  | none => s).reevaluate Before.nothing

/-- R172, log 11: power is lost; `cut` is the request of the FACILITY port whose saves were under way, `done` the units whose
save was complete. -/
def State.losePower (s : State) (cut : Option (Byte × List Byte)) (done : List StoreUnit) : State :=
  match cut with
  | none => s.powerDown s.store
  | some (code, d) => s.powerDown (s.store.merge (s.sendFrame .facility code d).store done)

end Sys2Proof.Machine
end

