-- ==== Sys2Proof/Machine/Events.lean ====
section
/-! DEFINITION. The commands that are no request frames, one meaning for each: port events, notice admission, the minute tick, timer
expiries, changes of the sensed lines, resets and loss of power; and the second that passes on an empty queue (log 2). -/

namespace Sys2Proof.Machine

/-- The outcome of a command that has an effect on a part with power and none on one without (log 7). -/
def carry (f : State → State) (s : State) : Host.Outcome State Fault Refusal := .next (whenPowered f s)

/-! ### Ports and notices -/

/-- INTER_BYTE_TIMEOUT, R168. -/
def execInterByteTimeout (p : Port) (s : State) : Host.Outcome State Fault Refusal := carry (fun s => s.interByteExpiry p) s

/-- REPLY_SENT, R169. -/
def execReplySent (p : Port) (s : State) : Host.Outcome State Fault Refusal := carry (fun s => s.replyEnd p) s

/-- PORT_BYTE_RECEIVED, R168. -/
def execPortByteReceived (p : Port) (b : Byte) (s : State) : Host.Outcome State Fault Refusal :=
  carry (fun s => s.receiveByte p b) s

/-- NOTICE_ADMISSION, R178, R180: the queue of a port takes a notice, one that was posted and waits for it if there is one. -/
def execNoticeAdmission (p : Port) (topic : Topic) (value : BitVec 16) (s : State) : Host.Outcome State Fault Refusal :=
  carry (fun s => s.takeHanded p topic value) s

/-! ### The minute tick -/

/-- MINUTE_TICK, R138, R145. -/
def execMinuteTick (first : TickTaker) (s : State) : Host.Outcome State Fault Refusal := .next (s.minuteTick first)

/-! ### Lamps -/

/-- IGNITION_WINDOW_EXPIRY, R30. -/
def execIgnitionWindowExpiry (l : Lamp) (s : State) : Host.Outcome State Fault Refusal :=
  carry (fun s => s.settle (fun w => w.windowExpiry l)) s

/-- RETRY_WAIT_EXPIRY, R31. -/
def execRetryWaitExpiry (l : Lamp) (s : State) : Host.Outcome State Fault Refusal :=
  carry (fun s => s.settle (fun w => w.retryExpiry l)) s

/-- COOL_DOWN_EXPIRY, R35. -/
def execCoolDownExpiry (l : Lamp) (s : State) : Host.Outcome State Fault Refusal :=
  carry (fun s => s.settle (fun w => w.coolDownExpiry l)) s

/-- FAN_TIME_END, R38. -/
def execFanTimeEnd (l : Lamp) (s : State) : Host.Outcome State Fault Refusal :=
  carry (fun s => s.settle (fun w => w.fanTimeEnd l)) s

/-- The level of a LIT line, without what a part with power makes of it. -/
def State.setLitLine (s : State) (l : Lamp) (level : Bool) : State := { s with lines.lit := s.lines.lit.set l level }

/-- A LIT line takes a level; a line that already stands at it has not changed (log 12). -/
def State.senseLit (s : State) (l : Lamp) (level : Bool) : State :=
  if s.lines.lit.get l = level then s
  else if s.powered then s.settle (fun w => if level then w.litRise l else w.litFall l)
  else s.setLitLine l level

/-- LIT_RISE, R29, R40. -/
def execLitRise (l : Lamp) (s : State) : Host.Outcome State Fault Refusal := .next (s.senseLit l true)

/-- LIT_FALL, R36, R40. -/
def execLitFall (l : Lamp) (s : State) : Host.Outcome State Fault Refusal := .next (s.senseLit l false)

/-! ### The other timers and lines -/

/-- ACQUISITION_WINDOW_EXPIRY, R97. -/
def execAcquisitionWindowExpiry (s : State) : Host.Outcome State Fault Refusal := carry State.windowExpiry s

/-- SETTLE_TIMER_EXPIRY, R109. -/
def execSettleTimerExpiry (s : State) : Host.Outcome State Fault Refusal := carry State.settleExpiry s

/-- The levels of TA and TB, without what a part with power makes of them. -/
def State.setEncoderLines (s : State) (ta tb : Bool) : State := { s with lines.ta := ta, lines.tb := tb }

/-- ENCODER_STEP, R105, R106. -/
def execEncoderStep (ta tb : Bool) (s : State) : Host.Outcome State Fault Refusal :=
  .next (if s.powered then s.encoderPassage ta tb else s.setEncoderLines ta tb)

/-- INDEX_PULSE, R107. -/
def execIndexPulse (s : State) : Host.Outcome State Fault Refusal := carry State.indexPulse s

/-- BLANK_TIMER_EXPIRY, R65. -/
def execBlankTimerExpiry (s : State) : Host.Outcome State Fault Refusal := carry State.blankExpiry s

/-- R149: the grace timer runs in GRACE only. -/
def State.graceTimerExpiry (s : State) : State := if s.timetable.state = .grace then s.graceExpiry else s

/-- GRACE_EXPIRY, R149. -/
def execGraceExpiry (s : State) : Host.Outcome State Fault Refusal := carry State.graceTimerExpiry s

/-- R130: the remaining time of an open window reaches 0. -/
def State.serviceWindowExpiry (s : State) : State := if s.lockout.window.isSome then s.closeWindow else s

/-- SERVICE_WINDOW_EXPIRY, R130. -/
def execServiceWindowExpiry (s : State) : Host.Outcome State Fault Refusal := carry State.serviceWindowExpiry s

/-! ### Power -/

/-- POWER_ON_RESET, R155 and the power-on rule of every block. -/
def execPowerOnReset (x : Restart) (s : State) : Host.Outcome State Fault Refusal := .next (s.powerUp x)

/-- HARDWARE_RESET: as power-on (00_scope.md, "Kinds of reset"). -/
def execHardwareReset (x : Restart) (s : State) : Host.Outcome State Fault Refusal := carry (fun s => s.powerUp x) s

/-- LOSS_OF_POWER, R22, R172. -/
def execLossOfPower (cut : Option (Byte × List Byte)) (done : List StoreUnit) (s : State) : Host.Outcome State Fault Refusal :=
  carry (fun s => s.losePower cut done) s

/-! ### One second (log 2) -/

/-- A timer `d` units on; it stops short of its expiry, which is a command. -/
def tickDown (d t : Nat) : Nat := if t ≤ d then min t 1 else t - d

/-- The timers of a lamp one second on (R24). -/
def LampCondition.elapse : LampCondition → LampCondition
  | .dark => .dark
  | .window attempts timer abandoned => .window attempts (tickDown 1 timer) abandoned
  | .retry attempts timer => .retry attempts (tickDown 1 timer)
  | .lit => .lit
  | .cooling timer pending => .cooling (tickDown 1 timer) pending
  | .failed fan => .failed (tickDown 1 fan)

/-- R138: the clock one second on, short of the minute tick, which is a command. -/
def WeekClock.elapse (c : WeekClock) : WeekClock := { c with second := if c.second < 59 then c.second + 1 else c.second }

/-- The inter-byte timer of a port one second on (R167). -/
def PortUnit.elapse (x : PortUnit) : PortUnit := { x with timer := x.timer.map (tickDown 1000) }

/-- The timers of a part with power one second on. -/
def State.elapseTimers (s : State) : State :=
  let s := s.mapConditions LampCondition.elapse
  { s with
    power.blankTimer := s.power.blankTimer.map (tickDown 1)
    acq.window := s.acq.window.map (fun w => { w with remaining := tickDown 1000 w.remaining })
    tilt.settle := s.tilt.settle.map (tickDown 1000)
    lockout.window := s.lockout.window.map (fun w => { w with remaining := tickDown 1 w.remaining })
    timetable.grace := s.timetable.grace.map (tickDown 1)
    ports := ⟨s.ports.panel.elapse, s.ports.facility.elapse, s.ports.engine.elapse⟩ }

/-- What a step on an empty queue does: one second passes. -/
def State.elapse (s : State) : State := whenPowered State.elapseTimers { s with clock := s.clock.elapse }

end Sys2Proof.Machine
end

