-- ==== Sys2Proof/Machine/Requests.lean ====
section
/-! DEFINITION. The commands that are request frames, one meaning for each: the frame arrives on its port, passes the checks of
R170, is carried out by its owner and answered. A part without power takes none (log 7). -/

namespace Sys2Proof.Machine

/-- READ_STATUS, R67. -/
def execReadStatus (p : Port) (d : List Byte) (s : State) : Host.Outcome State Fault Refusal :=
  .next (whenPowered (fun s => s.sendFrame p (Request.code .readStatus) d) s)

/-- TAKE_NOTICE, R181. -/
def execTakeNotice (p : Port) (d : List Byte) (s : State) : Host.Outcome State Fault Refusal :=
  .next (whenPowered (fun s => s.sendFrame p (Request.code .takeNotice) d) s)

/-- SET_NOTICE_MASK, R182. -/
def execSetNoticeMask (p : Port) (d : List Byte) (s : State) : Host.Outcome State Fault Refusal :=
  .next (whenPowered (fun s => s.sendFrame p (Request.code .setNoticeMask) d) s)

/-- POWER_ON, R53. -/
def execPowerOn (p : Port) (d : List Byte) (s : State) : Host.Outcome State Fault Refusal :=
  .next (whenPowered (fun s => s.sendFrame p (Request.code .powerOn) d) s)

/-- POWER_OFF, R54. -/
def execPowerOff (p : Port) (d : List Byte) (s : State) : Host.Outcome State Fault Refusal :=
  .next (whenPowered (fun s => s.sendFrame p (Request.code .powerOff) d) s)

/-- SET_LAMP_POWER, R63. -/
def execSetLampPower (p : Port) (d : List Byte) (s : State) : Host.Outcome State Fault Refusal :=
  .next (whenPowered (fun s => s.sendFrame p (Request.code .setLampPower) d) s)

/-- SET_BLANK, R64. -/
def execSetBlank (p : Port) (d : List Byte) (s : State) : Host.Outcome State Fault Refusal :=
  .next (whenPowered (fun s => s.sendFrame p (Request.code .setBlank) d) s)

/-- FACILITY_POWER_CLAIM, R55. -/
def execFacilityPowerClaim (p : Port) (d : List Byte) (s : State) : Host.Outcome State Fault Refusal :=
  .next (whenPowered (fun s => s.sendFrame p (Request.code .facilityPowerClaim) d) s)

/-- SET_POWER_DEFAULTS, R66. -/
def execSetPowerDefaults (p : Port) (d : List Byte) (s : State) : Host.Outcome State Fault Refusal :=
  .next (whenPowered (fun s => s.sendFrame p (Request.code .setPowerDefaults) d) s)

/-- SELECT_INPUT, R91. -/
def execSelectInput (p : Port) (d : List Byte) (s : State) : Host.Outcome State Fault Refusal :=
  .next (whenPowered (fun s => s.sendFrame p (Request.code .selectInput) d) s)

/-- SELECT_CLASS, R92. -/
def execSelectClass (p : Port) (d : List Byte) (s : State) : Host.Outcome State Fault Refusal :=
  .next (whenPowered (fun s => s.sendFrame p (Request.code .selectClass) d) s)

/-- WRITE_INPUT_ROW, R74. -/
def execWriteInputRow (p : Port) (d : List Byte) (s : State) : Host.Outcome State Fault Refusal :=
  .next (whenPowered (fun s => s.sendFrame p (Request.code .writeInputRow) d) s)

/-- READ_INPUT_ROW, R73. -/
def execReadInputRow (p : Port) (d : List Byte) (s : State) : Host.Outcome State Fault Refusal :=
  .next (whenPowered (fun s => s.sendFrame p (Request.code .readInputRow) d) s)

/-- SET_ACQUISITION_PARAMETERS, R98. -/
def execSetAcquisitionParameters (p : Port) (d : List Byte) (s : State) : Host.Outcome State Fault Refusal :=
  .next (whenPowered (fun s => s.sendFrame p (Request.code .setAcquisitionParameters) d) s)

/-- NUDGE_CORNER, R114. -/
def execNudgeCorner (p : Port) (d : List Byte) (s : State) : Host.Outcome State Fault Refusal :=
  .next (whenPowered (fun s => s.sendFrame p (Request.code .nudgeCorner) d) s)

/-- CLEAR_SESSION_TRIMS, R115. -/
def execClearSessionTrims (p : Port) (d : List Byte) (s : State) : Host.Outcome State Fault Refusal :=
  .next (whenPowered (fun s => s.sendFrame p (Request.code .clearSessionTrims) d) s)

/-- WRITE_PRESET, R112. -/
def execWritePreset (p : Port) (d : List Byte) (s : State) : Host.Outcome State Fault Refusal :=
  .next (whenPowered (fun s => s.sendFrame p (Request.code .writePreset) d) s)

/-- READ_PRESET, R113. -/
def execReadPreset (p : Port) (d : List Byte) (s : State) : Host.Outcome State Fault Refusal :=
  .next (whenPowered (fun s => s.sendFrame p (Request.code .readPreset) d) s)

/-- STORE_SESSION_TRIMS, R116. -/
def execStoreSessionTrims (p : Port) (d : List Byte) (s : State) : Host.Outcome State Fault Refusal :=
  .next (whenPowered (fun s => s.sendFrame p (Request.code .storeSessionTrims) d) s)

/-- SET_KEYSTONE_CALIBRATION, R111. -/
def execSetKeystoneCalibration (p : Port) (d : List Byte) (s : State) : Host.Outcome State Fault Refusal :=
  .next (whenPowered (fun s => s.sendFrame p (Request.code .setKeystoneCalibration) d) s)

/-- ARM_HOMING, R108. -/
def execArmHoming (p : Port) (d : List Byte) (s : State) : Host.Outcome State Fault Refusal :=
  .next (whenPowered (fun s => s.sendFrame p (Request.code .armHoming) d) s)

/-- READ_GEOMETRY, R121. -/
def execReadGeometry (p : Port) (d : List Byte) (s : State) : Host.Outcome State Fault Refusal :=
  .next (whenPowered (fun s => s.sendFrame p (Request.code .readGeometry) d) s)

/-- READ_CORNERS, R121. -/
def execReadCorners (p : Port) (d : List Byte) (s : State) : Host.Outcome State Fault Refusal :=
  .next (whenPowered (fun s => s.sendFrame p (Request.code .readCorners) d) s)

/-- READ_TILT, R110. -/
def execReadTilt (p : Port) (d : List Byte) (s : State) : Host.Outcome State Fault Refusal :=
  .next (whenPowered (fun s => s.sendFrame p (Request.code .readTilt) d) s)

/-- EXTEND_BOOKING, R151. -/
def execExtendBooking (p : Port) (d : List Byte) (s : State) : Host.Outcome State Fault Refusal :=
  .next (whenPowered (fun s => s.sendFrame p (Request.code .extendBooking) d) s)

/-- SET_TIME, R140. -/
def execSetTime (p : Port) (d : List Byte) (s : State) : Host.Outcome State Fault Refusal :=
  .next (whenPowered (fun s => s.sendFrame p (Request.code .setTime) d) s)

/-- READ_SCHEDULE_STATE, R165. -/
def execReadScheduleState (p : Port) (d : List Byte) (s : State) : Host.Outcome State Fault Refusal :=
  .next (whenPowered (fun s => s.sendFrame p (Request.code .readScheduleState) d) s)

/-- READ_BOOKINGS, R164. -/
def execReadBookings (p : Port) (d : List Byte) (s : State) : Host.Outcome State Fault Refusal :=
  .next (whenPowered (fun s => s.sendFrame p (Request.code .readBookings) d) s)

/-- STAGE_BEGIN, R158. -/
def execStageBegin (p : Port) (d : List Byte) (s : State) : Host.Outcome State Fault Refusal :=
  .next (whenPowered (fun s => s.sendFrame p (Request.code .stageBegin) d) s)

/-- STAGE_APPEND, R159. -/
def execStageAppend (p : Port) (d : List Byte) (s : State) : Host.Outcome State Fault Refusal :=
  .next (whenPowered (fun s => s.sendFrame p (Request.code .stageAppend) d) s)

/-- STAGE_COMMIT, R160. -/
def execStageCommit (p : Port) (d : List Byte) (s : State) : Host.Outcome State Fault Refusal :=
  .next (whenPowered (fun s => s.sendFrame p (Request.code .stageCommit) d) s)

/-- INSERT_BOOKING, R162. -/
def execInsertBooking (p : Port) (d : List Byte) (s : State) : Host.Outcome State Fault Refusal :=
  .next (whenPowered (fun s => s.sendFrame p (Request.code .insertBooking) d) s)

/-- DELETE_BOOKING, R163. -/
def execDeleteBooking (p : Port) (d : List Byte) (s : State) : Host.Outcome State Fault Refusal :=
  .next (whenPowered (fun s => s.sendFrame p (Request.code .deleteBooking) d) s)

/-- SET_SCHEDULE_ENABLE, R152. -/
def execSetScheduleEnable (p : Port) (d : List Byte) (s : State) : Host.Outcome State Fault Refusal :=
  .next (whenPowered (fun s => s.sendFrame p (Request.code .setScheduleEnable) d) s)

/-- SET_MANUAL_LOCKOUT, R127. -/
def execSetManualLockout (p : Port) (d : List Byte) (s : State) : Host.Outcome State Fault Refusal :=
  .next (whenPowered (fun s => s.sendFrame p (Request.code .setManualLockout) d) s)

/-- OPEN_SERVICE_WINDOW, R129. -/
def execOpenServiceWindow (p : Port) (d : List Byte) (s : State) : Host.Outcome State Fault Refusal :=
  .next (whenPowered (fun s => s.sendFrame p (Request.code .openServiceWindow) d) s)

/-- CLOSE_SERVICE_WINDOW, R130. -/
def execCloseServiceWindow (p : Port) (d : List Byte) (s : State) : Host.Outcome State Fault Refusal :=
  .next (whenPowered (fun s => s.sendFrame p (Request.code .closeServiceWindow) d) s)

/-- READ_LOCKOUT, R131. -/
def execReadLockout (p : Port) (d : List Byte) (s : State) : Host.Outcome State Fault Refusal :=
  .next (whenPowered (fun s => s.sendFrame p (Request.code .readLockout) d) s)

/-- READ_LAMP_ACCOUNT, R15. -/
def execReadLampAccount (p : Port) (d : List Byte) (s : State) : Host.Outcome State Fault Refusal :=
  .next (whenPowered (fun s => s.sendFrame p (Request.code .readLampAccount) d) s)

/-- TAKE_ACCOUNT_SNAPSHOT, R16. -/
def execTakeAccountSnapshot (p : Port) (d : List Byte) (s : State) : Host.Outcome State Fault Refusal :=
  .next (whenPowered (fun s => s.sendFrame p (Request.code .takeAccountSnapshot) d) s)

/-- READ_SNAPSHOT, R17. -/
def execReadSnapshot (p : Port) (d : List Byte) (s : State) : Host.Outcome State Fault Refusal :=
  .next (whenPowered (fun s => s.sendFrame p (Request.code .readSnapshot) d) s)

/-- SET_LAMP_THRESHOLDS, R13. -/
def execSetLampThresholds (p : Port) (d : List Byte) (s : State) : Host.Outcome State Fault Refusal :=
  .next (whenPowered (fun s => s.sendFrame p (Request.code .setLampThresholds) d) s)

/-- SET_LAMP_PARAMETERS, R14. -/
def execSetLampParameters (p : Port) (d : List Byte) (s : State) : Host.Outcome State Fault Refusal :=
  .next (whenPowered (fun s => s.sendFrame p (Request.code .setLampParameters) d) s)

/-- LAMP_REPLACED, R19. -/
def execLampReplaced (p : Port) (d : List Byte) (s : State) : Host.Outcome State Fault Refusal :=
  .next (whenPowered (fun s => s.sendFrame p (Request.code .lampReplaced) d) s)

/-- READ_REPLACEMENT_HISTORY, R20. -/
def execReadReplacementHistory (p : Port) (d : List Byte) (s : State) : Host.Outcome State Fault Refusal :=
  .next (whenPowered (fun s => s.sendFrame p (Request.code .readReplacementHistory) d) s)

/-- CLEAR_LAMP_FAULT, R39. -/
def execClearLampFault (p : Port) (d : List Byte) (s : State) : Host.Outcome State Fault Refusal :=
  .next (whenPowered (fun s => s.sendFrame p (Request.code .clearLampFault) d) s)

/-- SERVICE_RESET, R173. -/
def execServiceReset (p : Port) (d : List Byte) (s : State) : Host.Outcome State Fault Refusal :=
  .next (whenPowered (fun s => s.sendFrame p (Request.code .serviceReset) d) s)

/-- FACTORY_RESET, R174. -/
def execFactoryReset (p : Port) (d : List Byte) (s : State) : Host.Outcome State Fault Refusal :=
  .next (whenPowered (fun s => s.sendFrame p (Request.code .factoryReset) d) s)

/-- SYNC_REPORT, R99. -/
def execSyncReport (p : Port) (d : List Byte) (s : State) : Host.Outcome State Fault Refusal :=
  .next (whenPowered (fun s => s.sendFrame p (Request.code .syncReport) d) s)

/-- PRESENCE_REPORT, R100. -/
def execPresenceReport (p : Port) (d : List Byte) (s : State) : Host.Outcome State Fault Refusal :=
  .next (whenPowered (fun s => s.sendFrame p (Request.code .presenceReport) d) s)

/-- THERMAL_TRIP, R42. -/
def execThermalTrip (p : Port) (d : List Byte) (s : State) : Host.Outcome State Fault Refusal :=
  .next (whenPowered (fun s => s.sendFrame p (Request.code .thermalTrip) d) s)

/-- THERMAL_CLEAR, R43. -/
def execThermalClear (p : Port) (d : List Byte) (s : State) : Host.Outcome State Fault Refusal :=
  .next (whenPowered (fun s => s.sendFrame p (Request.code .thermalClear) d) s)

/-- UNKNOWN_REQUEST, R170: a frame with a code outside the catalogue. -/
def execUnknownRequest (p : Port) (code : Byte) (d : List Byte) (s : State) : Host.Outcome State Fault Refusal :=
  .next (whenPowered (fun s => s.sendFrame p code d) s)

end Sys2Proof.Machine
end

