-- ==== Sys2Proof/Machine/Dispatch.lean ====
section
/-! DEFINITION. The dispatch of a command to its meaning, one arm for each constructor. -/

namespace Sys2Proof.Machine

def exec (i : Instr) (s : State) : Host.Outcome State Fault Refusal :=
  match i with
  | .readStatus p d => Sys2Proof.Machine.execReadStatus p d s
  | .takeNotice p d => Sys2Proof.Machine.execTakeNotice p d s
  | .setNoticeMask p d => Sys2Proof.Machine.execSetNoticeMask p d s
  | .powerOn p d => Sys2Proof.Machine.execPowerOn p d s
  | .powerOff p d => Sys2Proof.Machine.execPowerOff p d s
  | .setLampPower p d => Sys2Proof.Machine.execSetLampPower p d s
  | .setBlank p d => Sys2Proof.Machine.execSetBlank p d s
  | .facilityPowerClaim p d => Sys2Proof.Machine.execFacilityPowerClaim p d s
  | .setPowerDefaults p d => Sys2Proof.Machine.execSetPowerDefaults p d s
  | .selectInput p d => Sys2Proof.Machine.execSelectInput p d s
  | .selectClass p d => Sys2Proof.Machine.execSelectClass p d s
  | .writeInputRow p d => Sys2Proof.Machine.execWriteInputRow p d s
  | .readInputRow p d => Sys2Proof.Machine.execReadInputRow p d s
  | .setAcquisitionParameters p d => Sys2Proof.Machine.execSetAcquisitionParameters p d s
  | .nudgeCorner p d => Sys2Proof.Machine.execNudgeCorner p d s
  | .clearSessionTrims p d => Sys2Proof.Machine.execClearSessionTrims p d s
  | .writePreset p d => Sys2Proof.Machine.execWritePreset p d s
  | .readPreset p d => Sys2Proof.Machine.execReadPreset p d s
  | .storeSessionTrims p d => Sys2Proof.Machine.execStoreSessionTrims p d s
  | .setKeystoneCalibration p d => Sys2Proof.Machine.execSetKeystoneCalibration p d s
  | .armHoming p d => Sys2Proof.Machine.execArmHoming p d s
  | .readGeometry p d => Sys2Proof.Machine.execReadGeometry p d s
  | .readCorners p d => Sys2Proof.Machine.execReadCorners p d s
  | .readTilt p d => Sys2Proof.Machine.execReadTilt p d s
  | .extendBooking p d => Sys2Proof.Machine.execExtendBooking p d s
  | .setTime p d => Sys2Proof.Machine.execSetTime p d s
  | .readScheduleState p d => Sys2Proof.Machine.execReadScheduleState p d s
  | .readBookings p d => Sys2Proof.Machine.execReadBookings p d s
  | .stageBegin p d => Sys2Proof.Machine.execStageBegin p d s
  | .stageAppend p d => Sys2Proof.Machine.execStageAppend p d s
  | .stageCommit p d => Sys2Proof.Machine.execStageCommit p d s
  | .insertBooking p d => Sys2Proof.Machine.execInsertBooking p d s
  | .deleteBooking p d => Sys2Proof.Machine.execDeleteBooking p d s
  | .setScheduleEnable p d => Sys2Proof.Machine.execSetScheduleEnable p d s
  | .setManualLockout p d => Sys2Proof.Machine.execSetManualLockout p d s
  | .openServiceWindow p d => Sys2Proof.Machine.execOpenServiceWindow p d s
  | .closeServiceWindow p d => Sys2Proof.Machine.execCloseServiceWindow p d s
  | .readLockout p d => Sys2Proof.Machine.execReadLockout p d s
  | .readLampAccount p d => Sys2Proof.Machine.execReadLampAccount p d s
  | .takeAccountSnapshot p d => Sys2Proof.Machine.execTakeAccountSnapshot p d s
  | .readSnapshot p d => Sys2Proof.Machine.execReadSnapshot p d s
  | .setLampThresholds p d => Sys2Proof.Machine.execSetLampThresholds p d s
  | .setLampParameters p d => Sys2Proof.Machine.execSetLampParameters p d s
  | .lampReplaced p d => Sys2Proof.Machine.execLampReplaced p d s
  | .readReplacementHistory p d => Sys2Proof.Machine.execReadReplacementHistory p d s
  | .clearLampFault p d => Sys2Proof.Machine.execClearLampFault p d s
  | .serviceReset p d => Sys2Proof.Machine.execServiceReset p d s
  | .factoryReset p d => Sys2Proof.Machine.execFactoryReset p d s
  | .syncReport p d => Sys2Proof.Machine.execSyncReport p d s
  | .presenceReport p d => Sys2Proof.Machine.execPresenceReport p d s
  | .thermalTrip p d => Sys2Proof.Machine.execThermalTrip p d s
  | .thermalClear p d => Sys2Proof.Machine.execThermalClear p d s
  | .unknownRequest p code d => Sys2Proof.Machine.execUnknownRequest p code d s
  | .interByteTimeout p => Sys2Proof.Machine.execInterByteTimeout p s
  | .replySent p => Sys2Proof.Machine.execReplySent p s
  | .noticeAdmission p topic value => Sys2Proof.Machine.execNoticeAdmission p topic value s
  | .minuteTick first => Sys2Proof.Machine.execMinuteTick first s
  | .ignitionWindowExpiry l => Sys2Proof.Machine.execIgnitionWindowExpiry l s
  | .retryWaitExpiry l => Sys2Proof.Machine.execRetryWaitExpiry l s
  | .coolDownExpiry l => Sys2Proof.Machine.execCoolDownExpiry l s
  | .fanTimeEnd l => Sys2Proof.Machine.execFanTimeEnd l s
  | .litRise l => Sys2Proof.Machine.execLitRise l s
  | .litFall l => Sys2Proof.Machine.execLitFall l s
  | .acquisitionWindowExpiry => Sys2Proof.Machine.execAcquisitionWindowExpiry s
  | .settleTimerExpiry => Sys2Proof.Machine.execSettleTimerExpiry s
  | .encoderStep ta tb => Sys2Proof.Machine.execEncoderStep ta tb s
  | .indexPulse => Sys2Proof.Machine.execIndexPulse s
  | .blankTimerExpiry => Sys2Proof.Machine.execBlankTimerExpiry s
  | .graceExpiry => Sys2Proof.Machine.execGraceExpiry s
  | .serviceWindowExpiry => Sys2Proof.Machine.execServiceWindowExpiry s
  | .powerOnReset x => Sys2Proof.Machine.execPowerOnReset x s
  | .hardwareReset x => Sys2Proof.Machine.execHardwareReset x s
  | .portByteReceived p b => Sys2Proof.Machine.execPortByteReceived p b s
  | .lossOfPower cut done => Sys2Proof.Machine.execLossOfPower cut done s

end Sys2Proof.Machine
end

