-- ==== Sys2Proof/Safety.lean ====
section
/-! DEFINITION. What holds of the part at every step: the ranges and the relations between registers that the spec states, one
predicate for each group of registers; and what a port needs to take a request. They are stated as invariants in Certificates/Slice0/Obligations.lean. -/

namespace Sys2Proof.Machine

/-! ### What a command needs -/

/-- A port that takes a request frame: the part has power and the port is in HUNT (R167). -/
abbrev State.Ready (s : State) (p : Port) : Prop := s.powered = true ∧ (s.ports.get p).receive = .hunt

/-- A port that takes request `r` with payload `d` as far as its owning block: it is ready, and the PANEL filter passes a request
that arrives on the PANEL port (R132). -/
abbrev State.Admits (s : State) (p : Port) (r : Request) (d : List Byte) : Prop :=
  s.Ready p ∧ (p = .panel → s.panelFilter r d = none)

/-- R65: the blank timer stands as its four conditions require. -/
abbrev State.BlankLegal (s : State) : Prop := s.followBlankTimer = s

/-! ### Notice queues (R180, R182) -/

/-- R180, R182: at most 16 notices, no two of the same kind and subject, a lost count of 0..255, a mask of 0..7. -/
abbrev NoticeQueue.Legal (q : NoticeQueue) : Prop :=
  q.notices.length ≤ 16 ∧ (q.notices.map Notice.topic).Nodup ∧ q.lost ≤ 255 ∧ q.mask ≤ 7

/-- Every queue is legal. -/
abbrev State.QueuesLegal (s : State) : Prop := s.queues.panel.Legal ∧ s.queues.facility.Legal ∧ s.queues.engine.Legal

/-- R178, log 34: of each notice no more wait at a port than NOTICE_ADMISSION commands for it are to come, and none waits in a part
without power. -/
abbrev State.HandedLegal (s : State) : Prop :=
  (∀ (p : Port) (topic : Topic) (value : BitVec 16),
    ((s.handed.get p).filter (fun n => n.topic = topic ∧ n.value = value)).length ≤
      (s.pending.filter (fun c => c = .noticeAdmission p topic value)).length) ∧
  (s.powered = false → s.handed = ⟨[], [], []⟩)

/-! ### Week clock (R137) -/

/-- R137: minute 0..10079, second 0..59. -/
abbrev WeekClock.Legal (c : WeekClock) : Prop := c.minute < 10080 ∧ c.second < 60

/-! ### Lamp accounts (R1, R2, R9, R10, R20, R21) -/

/-- R1: the ranges of an account. -/
abbrev LampAccount.Legal (x : LampAccount) : Prop :=
  x.wear ≤ 4294967295 ∧ x.fullMinutes ≤ 16777215 ∧ x.ecoMinutes ≤ 16777215 ∧ x.strikes ≤ 65535 ∧ x.dropouts ≤ 65535
    ∧ 500 ≤ x.ratedLife ∧ x.ratedLife ≤ 20000 ∧ x.warnOffset ≤ 2000 ∧ x.grace ≤ 1000

/-- R2: the ranges of the weights. -/
abbrev WearWeights.Legal (w : WearWeights) : Prop := 4 ≤ w.eco ∧ w.eco ≤ 16 ∧ w.penalty ≤ 240

/-- R1, R2, R19, R20: what a save holds. -/
abbrev SavedAccounts.Legal (x : SavedAccounts) : Prop :=
  x.lamps.a.Legal ∧ x.lamps.b.Legal ∧ x.weights.Legal ∧ x.history.length ≤ 4 ∧ x.replacements ≤ 65535

/-- R1, R2, R20, R21: the LAU and its saved state are in range. -/
abbrev State.AccountsLegal (s : State) : Prop :=
  s.accounts.saved.Legal ∧ s.accounts.litTicks ≤ 5 ∧ ∀ x ∈ s.store.accounts, x.Legal

/-- R10: each lamp's life state is the one its account gives. -/
abbrev State.LifeCurrent (s : State) : Prop :=
  s.accounts.life.a = s.accounts.lamps.a.lifeState ∧ s.accounts.life.b = s.accounts.lamps.b.lifeState

/-! ### Power (R46, R56, R60) -/

/-- R46, R56, R60: in STANDBY both lamps are at rest, no lamp is in the session and no policy is latched. -/
abbrev State.StandbyLegal (s : State) : Prop :=
  s.power.state = .standby → s.quiet = true ∧ s.power.session = ⟨false, false⟩ ∧ s.power.latched = none

/-! ### Sessions (R5, R28, R33, R45, R46, R57, R60 to R62) -/

/-- R5: the account of lamp `l` with one more ignition pulse charged to it. -/
def State.pulsed (s : State) (l : Lamp) : LampAccount := { s.account l with
  wear := min 4294967295 ((s.account l).wear + s.accounts.weights.penalty * 16)
  strikes := min 65535 ((s.account l).strikes + 1) }

/-- The lamps of `s` with lamp `l` in condition `c`. -/
def State.placed (s : State) (l : Lamp) (c : LampCondition) : PerLamp LampControl :=
  s.lamps.lamp.set l { s.lamps.lamp.get l with condition := c }

/-- R28: a strike order to lamp `l`: from DARK it is struck, with its first pulse charged and LAMP-STATE 1; in COOLING it becomes
strike-pending. -/
def State.ordered (l : Lamp) (s : State) : State :=
  match s.condition l with
  | .dark => ({ s with
      lamps.lamp := s.placed l (.window 1 3 false), accounts.lamps := s.accounts.lamps.set l (s.pulsed l) } : State).post
        (.lampState l) 1
  | .cooling timer _ => { s with lamps.lamp := s.placed l (.cooling timer true) }
  | .window _ _ _ => s
  | .retry _ _ => s
  | .lit => s
  | .failed _ => s

/-- R21, R33, R34: a stop order to lamp `l`: a burning lamp cools, with a save and LAMP-STATE 3; in COOLING strike-pending goes. -/
def State.stopOrdered (l : Lamp) (s : State) : State :=
  let cooled : State := ({ s with
    lamps.lamp := s.placed l (.cooling s.lamps.params.coolDown false)
    accounts.litTicks := 0, store.accounts := some s.accounts.saved } : State).post (.lampState l) 3
  match s.condition l with
  | .lit => cooled
  | .window _ _ _ => cooled
  | .retry _ _ => cooled
  | .cooling timer _ => { s with lamps.lamp := s.placed l (.cooling timer false) }
  | .dark => s
  | .failed _ => s

/-- The lamps of `sel` through `f`, lamp `first` before the other. Which is served first when both are is left open (log 5). -/
def inTurn (first : Lamp) (sel : PerLamp Bool) (f : Lamp → State → State) (s : State) : State :=
  let one (l : Lamp) (x : State) : State := if sel.get l then f l x else x
  one first.other (one first s)

/-- R45, R46: the lamps that a policy chooses among those available in `s`. -/
def State.sessionBy (s : State) (policy : LampPolicy) : PerLamp Bool :=
  match s.available .a, s.available .b with
  | false, false => ⟨false, false⟩
  | true, false => ⟨true, false⟩
  | false, true => ⟨false, true⟩
  | true, true =>
    match policy with
    | .alternate => if (s.account .b).wear < (s.account .a).wear then ⟨false, true⟩ else ⟨true, false⟩
    | .dual => ⟨true, true⟩
    | .fixedA => ⟨true, false⟩
    | .fixedB => ⟨false, true⟩

/-- R63: the level on leaving STANDBY: the mode of the active booking, or else the default level. -/
def State.levelOnLeaving (s : State) : PowerLevel :=
  match s.activeBooking.map (fun (b : Booking) => b.config.mode) with
  | some .full => .full
  | some .eco => .eco
  | some .default => s.power.settings.defaultLevel
  | none => s.power.settings.defaultLevel

/-- Some lamp is available and the thermal hold is clear (R57, R60, R61). -/
abbrev State.Usable (s : State) : Prop :=
  s.lamps.thermalHold = false ∧ (s.available .a = true ∨ s.available .b = true)

/-- Each lamp of `session` that is DARK in `s` strikes plainly: its LIT line is low (R29) and its first pulse leaves its life state as
it is (R10). -/
abbrev State.StrikesPlainly (s : State) (session : PerLamp Bool) : Prop :=
  ∀ l : Lamp, session.get l = true → s.condition l = .dark →
    s.lines.lit.get l = false ∧ (s.pulsed l).lifeState = s.accounts.life.get l

/-- R57: the projector leaves STANDBY for the demand of `s`: the policy in force latched, the level set, the chosen lamps ordered,
POWER-STATE 1 last. -/
def State.leaving (s : State) (first : Lamp) : State :=
  let session := s.sessionBy s.power.settings.policy
  (inTurn first session State.ordered { s with
    power := { s.power with
      state := .warming, held := false, session := session, latched := some s.power.settings.policy
      level := s.levelOnLeaving, blankTimer := none, blankSpent := false } }).post .powerState 1

/-- R60, R61: the lamps of `session` ordered in COOLING-DOWN; POWER-STATE 3 if that clears held, then POWER-STATE 1 if a strike begins. -/
def State.takingUp (s : State) (session : PerLamp Bool) (first : Lamp) : State :=
  let struck : Bool := (session.a && s.lampState .a == .dark) || (session.b && s.lampState .b == .dark)
  let ordered := inTurn first session State.ordered { s with
    power := { s.power with session := session, held := false, blankTimer := none, blankSpent := false } }
  let told := if s.power.held then ordered.post .powerState 3 else ordered
  if struck then ({ told with power.state := .warming } : State).post .powerState 1 else told

/-- R60: the policy by which `s` chooses in COOLING-DOWN: the latched one, or else the one in force, which is then latched. -/
def State.policyCooling (s : State) : LampPolicy := s.power.latched.getD s.power.settings.policy

/-- R60: in COOLING-DOWN the demand of `s` is met by the lamps that the policy chooses. -/
def State.returning (s : State) (first : Lamp) : State :=
  ({ s with power.latched := some s.policyCooling } : State).takingUp (s.sessionBy s.policyCooling) first

/-- R61: a demand waits, held, in STANDBY or in COOLING-DOWN, with no lamp in the session. -/
abbrev State.Waits (s : State) : Prop :=
  s.power.held = true ∧ s.power.demand ≠ ⟨false, false, false⟩ ∧ s.power.session = ⟨false, false⟩ ∧
  s.power.degraded = false ∧ (s.power.state = .standby ∨ s.power.state = .coolingDown) ∧ s.BlankLegal

/-- R57, R60, R61: `t` is what a re-check makes of `s`, in which a demand waits: the session begins where a lamp is usable, and else
all stays as it is. -/
abbrev State.Rechecks (s t : State) : Prop :=
  (s.Usable → s.power.state = .standby → s.StrikesPlainly (s.sessionBy s.power.settings.policy) →
    ∃ first : Lamp, t = s.leaving first) ∧
  (s.Usable → s.power.state = .coolingDown → s.StrikesPlainly (s.sessionBy s.policyCooling) →
    ∃ first : Lamp, t = s.returning first) ∧
  (¬ s.Usable → t = s)

/-- R62: the demand set of `s`, outside STANDBY and with a lamp not at rest, becomes empty: the session lamps are stopped, held and the
session cleared, the latched policy kept, and POWER-STATE 3 is posted where that is a change. -/
def State.stopping (s : State) (first : Lamp) : State :=
  let stopped := inTurn first s.power.session State.stopOrdered s
  let done : State := { stopped with
    power := { s.power with
      demand := ⟨false, false, false⟩, state := .coolingDown, held := false, degraded := false
      session := ⟨false, false⟩, blankTimer := none, blankSpent := false } }
  if s.power.number = 3 then done else done.post .powerState 3

/-- No demand waits for lamp `l`, and a change of it to DARK or COOLING leaves the power state as it is (R57 to R60). -/
abbrev State.Unmoved (s : State) (l : Lamp) : Prop :=
  (s.power.state = .standby → s.power.held = false ∧ s.power.demand = ⟨false, false, false⟩) ∧
  (s.power.state = .warming → s.lampState l.other = .striking) ∧
  (s.power.state = .on → s.lampState l.other = .lit ∧ s.power.degraded = (s.power.latched == some .dual)) ∧
  (s.power.state = .coolingDown → s.power.held = false ∧ (s.condition l.other).resting = false)

/-! ### Selection (R71, R89) -/

/-- R71, R76, R89: a selected row is enabled and not IDLE, and every other row is IDLE. -/
abbrev State.SelectionLegal (s : State) : Prop :=
  match s.acq.selected with
  | none => ∀ n ∈ allRows, (s.row n).status = .idle
  | some x => (s.row x.row).config.enabled = true ∧ (s.row x.row).status ≠ .idle ∧
      ∀ n ∈ allRows, n = x.row ∨ (s.row n).status = .idle

/-- R95, R97, R99: the attempt window runs exactly while the selected row is ACQUIRING. -/
abbrev State.WindowLegal (s : State) : Prop := s.acq.window.isSome = true ↔ s.selectedStatus = .acquiring

/-! ### Geometry (R104, R117, R119, R120) -/

/-- R119: applied offsets in range. -/
abbrev Offset.Applicable (x : Offset) : Prop := 0 ≤ x.dx ∧ x.dx ≤ 480 ∧ 0 ≤ x.dy ∧ x.dy ≤ 300

/-- R119: every applied corner is in range. -/
abbrev GeometryRecord.Legal (r : GeometryRecord) : Prop :=
  r.corners.tl.Applicable ∧ r.corners.tr.Applicable ∧ r.corners.br.Applicable ∧ r.corners.bl.Applicable
    ∧ r.generation < 256

/-- R111: an index offset is in range. -/
abbrev Calibration.Legal (c : Calibration) : Prop := -8000 ≤ c.indexOffset ∧ c.indexOffset ≤ 8000

/-- R104, R111: the tilt count, the settled tilt and the index offsets, in force and saved, are in range. -/
abbrev State.TiltLegal (s : State) : Prop :=
  (-8000 ≤ s.tilt.count ∧ s.tilt.count ≤ 8000) ∧ (-8000 ≤ s.tilt.settled ∧ s.tilt.settled ≤ 8000) ∧
  s.tilt.calibration.Legal ∧ ∀ c ∈ s.store.calibration, c.Legal

/-- R117, R120: the applied index is the one the presets named give, and the record is the one the present values form. -/
abbrev Tilt.Current (t : Tilt) : Prop := t.index = chooseIndex t.bookingPreset t.rowPreset ∧ t.form = t.record

/-! ### Lockout (R125) -/

/-- R125: the effective level is the one the claims and the window form. -/
abbrev Lockout.Current (x : Lockout) : Prop := x.effective = x.formed

/-! ### Timetable (R137, R141 to R143) -/

/-- R141: the configuration of a booking is in range. -/
abbrev BookingConfig.Legal (c : BookingConfig) : Prop :=
  1 ≤ c.id ∧ c.id ≤ 65535 ∧ c.start < c.stop ∧ c.start ≤ 10079 ∧ c.stop ≤ 10080 ∧ c.lead ≤ 30

/-- R141: bookings one after another, each ending, extended, at or before the start of the next, with distinct ids. -/
abbrev tableLegal (table : List Booking) : Prop :=
  table.length ≤ 48 ∧ (table.map (fun (b : Booking) => b.config.id)).Nodup ∧
  table.Pairwise (fun x y => x.finish ≤ y.config.start) ∧ ∀ b ∈ table, b.config.Legal ∧ b.finish ≤ 10080

/-- R141: extension and dismissed are 0 and clear outside the active booking. -/
abbrev Timetable.LiveLegal (t : Timetable) : Prop :=
  ∀ b ∈ t.table, t.active = some b.config.id ∨ (b.extension = 0 ∧ b.dismissed = false)

/-- R142: the schedule state, the enable, time-valid, the active booking and the grace timer agree. -/
abbrev State.ScheduleLegal (s : State) : Prop :=
  (s.timetable.state = .disabled ↔ s.timetable.enable = false) ∧
  (s.timetable.state = .noTime ↔ s.timetable.enable = true ∧ s.clock.valid = false) ∧
  (s.timetable.state = .active ↔ s.timetable.active.isSome = true) ∧
  (s.timetable.state = .grace ↔ s.timetable.grace.isSome = true)

/-- R142: the SCHEDULE claim in each schedule state. -/
abbrev State.ClaimLegal (s : State) : Prop :=
  s.power.demand.schedule =
    match s.timetable.state with
    | .disabled => false
    | .noTime => false
    | .idle => false
    | .lead => true
    | .active => !((s.activeBooking.map Booking.dismissed).getD false)
    | .grace => true

/-- R142: the active booking is one of the live table. -/
abbrev Timetable.ActiveListed (t : Timetable) : Prop := ∀ id ∈ t.active, (t.find id).isSome = true

/-- R141: a saved table that makes a legal live table. -/
abbrev savedTableLegal (table : List BookingConfig) : Prop := tableLegal (table.map (fun c => ⟨c, 0, false⟩))

/-- R141, R142, R157: everything that the timetable rests on, the staging list's limit and the saved table among it. -/
abbrev State.TimetableLegal (s : State) : Prop :=
  s.ScheduleLegal ∧ s.timetable.ActiveListed ∧ tableLegal s.timetable.table ∧ s.timetable.LiveLegal ∧
  (∀ table ∈ s.store.liveTable, savedTableLegal table) ∧ s.staging.bookings.length ≤ 48

/-! ### Re-evaluation (R153, R154) -/

/-- R125, R128: the lockout with another booking claim. -/
def Lockout.claimed (x : Lockout) (level : Fin 4) (c : Byte) : Lockout :=
  { x with bookingLevel := level, bookingClass := c, effective := if x.window = none then max x.manual level else 0 }

/-- R126, R128: a hand-off of the booking claim; LOCKOUT-CHANGED is posted when its value differs. -/
def State.claimed (s : State) (level : Fin 4) (c : Byte) : State :=
  let value (x : Lockout) : Nat := x.effective.val + (if x.window = none then 0 else 16)
  let y : State := { s with lockout := s.lockout.claimed level c }
  if value y.lockout = value s.lockout then y else y.post .lockoutChanged (value y.lockout)

/-- R55, R148, R153: the demand set after the conversion, if any, at the end of the previous active booking. -/
def State.convertedDemand (s : State) (was : Option Booking) : Demand :=
  match was with
  | some p =>
    if p.config.autoOff = true ∨ s.power.demand.schedule = false then s.power.demand
    else ⟨s.power.demand.panel || s.power.state != .standby, false, s.power.demand.facility⟩
  | none => s.power.demand

/-- The live table with every extension 0 and every dismissed mark clear. -/
def State.clearedTable (s : State) : List Booking := s.timetable.table.map (fun b => ⟨b.config, 0, false⟩)

/-- R153, step 1, and R154: the live table with which a re-evaluation counts. The previous active booking keeps its dismissed mark,
and its extension if that still fits before the end of the week and the bookings that start later. -/
def State.countedTable (s : State) (was : Option Booking) : List Booking :=
  let fits (c : BookingConfig) (n : Nat) : Bool :=
    c.stop + n ≤ 10080 && s.timetable.table.all (fun x => x.config.start ≤ c.start || c.stop + n ≤ x.config.start)
  match was with
  | some p => s.timetable.table.map (fun b =>
    if p.config.id = b.config.id then ⟨b.config, if fits b.config p.extension then p.extension else 0, p.dismissed⟩
    else ⟨b.config, 0, false⟩)
  | none => s.clearedTable

/-- R154: a re-evaluation in `s` that keeps the active booking, `old` before and `new` now, at index `i` of `table`, leaves `t`. -/
def State.Keeps (s : State) (table : List Booking) (i : Nat) (old new : BookingConfig) (t : State) : Prop :=
  let chosen := (s.resolve new.sourceClass).row
  let kept : State := { s with
    timetable := { s.timetable with table := table, state := .active, active := some new.id, cursor := i } }
  let lock (x : State) : State :=
    if new.lockout = old.lockout ∧ new.sourceClass = old.sourceClass then x else x.claimed new.lockout new.sourceClass
  let present (x : State) : State :=
    if new.preset = old.preset then x else x.handPresets new.preset x.tilt.rowPreset false
  (new.sourceClass = old.sourceClass ∨ new.sourceClass = 0 → t = present (lock kept)) ∧
  (new.sourceClass ≠ old.sourceClass → new.sourceClass ≠ 0 →
    (chosen = none → t = present (lock (kept.post (.booking new.id) 4))) ∧
    (∀ n : Fin 10, chosen = some n → t.acq.selected = some ⟨n, .byClass new.sourceClass⟩ ∧
      t.timetable = kept.timetable ∧ t.lockout = s.lockout.claimed new.lockout new.sourceClass ∧
      t.tilt.bookingPreset = (present kept).tilt.bookingPreset ∧ t.power = s.power ∧ t.lamps = s.lamps ∧
      t.accounts = s.accounts ∧ t.store = s.store ∧ t.clock = s.clock ∧ t.staging = s.staging ∧ t.ports = s.ports ∧
      t.lines = s.lines))

/-- R147, R153: a re-evaluation in `s` that starts the booking `new` at index `i`, once the previous active booking has ended, leaves
`t`. -/
def State.Starts (s : State) (was : Option Booking) (i : Nat) (new : BookingConfig) (t : State) : Prop :=
  let chosen := (s.resolve new.sourceClass).row
  t.timetable = { s.timetable with
    table := s.clearedTable, state := .active, active := some new.id, cursor := i, grace := none } ∧
  t.power.demand = { s.convertedDemand was with schedule := true } ∧
  t.lockout = s.lockout.claimed new.lockout new.sourceClass ∧ t.tilt.bookingPreset = new.preset ∧
  (new.sourceClass = 0 ∨ chosen = none → t.acq = s.acq ∧ t.inputs = s.inputs) ∧
  (∀ n : Fin 10, new.sourceClass ≠ 0 → chosen = some n → t.acq.selected = some ⟨n, .byClass new.sourceClass⟩) ∧
  (new.mode = .full → t.power.level = .full) ∧ (new.mode = .eco → t.power.level = .eco) ∧
  t.clock = s.clock ∧ t.staging = s.staging ∧ t.ports = s.ports ∧ t.lines = s.lines

/-- R148, R153: a re-evaluation in `s` that finds no booking around the minute, with the cursor then at `i`, leaves `t`: the previous
active booking has ended, and the state is LEAD, GRACE or IDLE. The whole state is given where the SCHEDULE claim does not change
or stands beside another claim. -/
def State.Closes (s : State) (was : Option Booking) (ran : Option Nat) (i : Nat) (t : State) : Prop :=
  let table := s.clearedTable
  let demand := s.convertedDemand was
  let base : State := { s with timetable := { s.timetable with table := table, active := none, cursor := i } }
  let closed : State := match was with
    | some p => (((base.claimed 0 0).handPresets none s.tilt.rowPreset false).followBlankTimer).post (.booking p.config.id) 3
    | none => base
  let graced : Prop := match was with
    | some p => p.config.autoOff = true ∧ p.dismissed = false
    | none => s.timetable.state = .grace
  let timer : Option Nat := match was with
    | some _ => some (60 * s.power.settings.autoOffGrace)
    | none => s.timetable.grace
  let becomes (state : ScheduleState) (grace : Option Nat) (schedule : Bool) (tell : State → State) : Prop :=
    let y : State := tell { closed with
      power.demand := { demand with schedule := schedule }
      timetable := { closed.timetable with state := state, grace := grace } }
    t.timetable = y.timetable ∧ t.power.demand = y.power.demand ∧ t.lockout = y.lockout ∧
    t.tilt.bookingPreset = y.tilt.bookingPreset ∧ t.acq = s.acq ∧ t.inputs = s.inputs ∧ t.clock = s.clock ∧
    t.staging = s.staging ∧ t.ports = s.ports ∧ t.lines = s.lines ∧
    (demand = s.power.demand ∨ s.power.state ≠ .standby →
      demand.schedule = schedule ∨ demand.panel = true ∨ demand.facility = true → t = y)
  let leads (b : Booking) : Prop := 0 < b.config.lead ∧ 1 ≤ (b.config.start + 10080 - s.clock.minute) % 10080 ∧
    (b.config.start + 10080 - s.clock.minute) % 10080 ≤ b.config.lead
  let awaited := table[if i < table.length then i else 0]?
  (∀ b ∈ awaited, leads b →
    becomes .lead none true (fun x => if ran = some b.config.id then x else x.post (.booking b.config.id) 1)) ∧
  ((∀ b ∈ awaited, ¬ leads b) →
    (graced → timer ≠ some 0 → becomes .grace timer demand.schedule (fun x => x)) ∧
    (¬ graced → becomes .idle none false (fun x => x)))

/-- R153: what a re-evaluation that begins in `s`, in a state that is neither DISABLED nor NO-TIME, leaves, as a relation to the
state `t` that it leaves. `s` has the clock and the live table as they now stand; `was` is the previous active booking with the
fields it had when it was ACTIVE; `ran` is the id of the awaited booking where the state was LEAD. -/
def State.Reevaluates (s : State) (was : Option Booking) (ran : Option Nat) (t : State) : Prop :=
  let m := s.clock.minute
  let table := s.countedTable was
  let inside (b : Booking) : Prop := b.config.start ≤ m ∧ m < b.config.stop + b.extension
  savedTableLegal (s.timetable.table.map (fun b => b.config)) → s.BlankLegal → (was = none → s.timetable.active = none) →
  (∀ (i : Nat) (b : Booking), table[i]? = some b → inside b →
    (∀ p : Booking, was = some p → p.config.id = b.config.id → s.Keeps table i p.config b.config t) ∧
    ((∀ p : Booking, was = some p → p.config.id ≠ b.config.id) → s.Starts was i b.config t)) ∧
  (∀ i : Nat, (∀ b ∈ table, ¬ inside b) → i ≤ table.length → (∀ b ∈ table.take i, b.config.start ≤ m) →
    (∀ b ∈ table.drop i, m < b.config.start) → s.Closes was ran i t)

end Sys2Proof.Machine
end

