-- ==== Sys2Proof/WellFormed.lean ====
section
/-! DEFINITION. Which commands the outside world can send at all: a frame carries at most 64 payload bytes, an unknown
request has a code outside the catalogue, and a block hands a notice only to the queues its kind names. -/

namespace Sys2Proof

/-- R141, R178: a booking is named by an id 1..65,535; every other subject is legal by its type. -/
def Topic.subjectOk : Topic → Bool
  | .booking id => 1 ≤ id && id ≤ 65535
  | _ => true

/-- R168: the payload fits in a frame. -/
def payloadOk (d : List Byte) : Bool := d.length ≤ Config.payloadMax

/-- The operands of a command are ones that the spec admits. -/
def Instr.wf (i : Instr) : Bool :=
  match i with
  | .unknownRequest _ code d => (lookupCode code).isNone && payloadOk d
  | .noticeAdmission p topic _ => topic.ports.contains p && topic.subjectOk
  | .lossOfPower (some (_, d)) _ => payloadOk d
  | .powerOnReset ⟨_, some (_, d)⟩ => payloadOk d
  | .hardwareReset ⟨_, some (_, d)⟩ => payloadOk d
  | other => match other.frame? with
    | some (_, _, d) => payloadOk d
    | none => true

end Sys2Proof
end

