-- ==== Sys2Proof/Certificates/Slice0/Obligations.lean ====
section
/-! DEFINITION. The statements about the part, block by block, from the numbered rules of spec/. A port that takes a request is
`State.Ready`; one that takes it as far as its owning block is `State.Admits`. -/

open Sys2Proof Sys2Proof.Machine

/-! ### Steps, frames and ports (10) -/

/-- Every command at the front of the queue is carried out with the queue's rest. -/
def Obligations.StepTakesTheFrontCommand : Prop :=
  ∀ (c : Instr) (rest : List Instr) (s : State), step { s with pending := c :: rest } = exec c { s with pending := rest }

/-- The model's choice (logs 2, 3, 12): a step on an empty queue lets one second pass; no timer passes its expiry and the clock
stops short of the minute tick, since both are commands. A part without power keeps its clock alone running. The expiry of a timer
that does not run, and the change of a line to the level it has, are without effect. -/
def Obligations.EmptyQueueAndIdleTimers : Prop :=
  (∀ s : State, s.pending = [] → s.powered = true →
    step s = .next
      { s with
        clock.second := if s.clock.second < 59 then s.clock.second + 1 else s.clock.second
        lamps.lamp := s.lamps.lamp.map (fun x => { x with condition := x.condition.elapse })
        power.blankTimer := s.power.blankTimer.map (tickDown 1)
        acq.window := s.acq.window.map (fun w => { w with remaining := tickDown 1000 w.remaining })
        tilt.settle := s.tilt.settle.map (tickDown 1000)
        lockout.window := s.lockout.window.map (fun w => { w with remaining := tickDown 1 w.remaining })
        timetable.grace := s.timetable.grace.map (tickDown 1)
        ports := ⟨s.ports.panel.elapse, s.ports.facility.elapse, s.ports.engine.elapse⟩ }) ∧
  (∀ s : State, s.pending = [] → s.powered = false →
    step s = .next { s with clock.second := if s.clock.second < 59 then s.clock.second + 1 else s.clock.second }) ∧
  (∀ (k t : Nat) (b : Bool),
    (LampCondition.window k t b).elapse = .window k (tickDown 1 t) b ∧
    (LampCondition.retry k t).elapse = .retry k (tickDown 1 t) ∧
    (LampCondition.cooling t b).elapse = .cooling (tickDown 1 t) b ∧
    (LampCondition.failed t).elapse = .failed (tickDown 1 t) ∧
    LampCondition.dark.elapse = .dark ∧ LampCondition.lit.elapse = .lit) ∧
  (∀ x : PortUnit, x.elapse = { x with timer := x.timer.map (tickDown 1000) }) ∧
  (∀ d t : Nat, (d < t → tickDown d t = t - d) ∧ (0 < t → t ≤ d → tickDown d t = 1) ∧ tickDown d 0 = 0) ∧
  ∀ s : State, s.powered = true →
    (∀ p : Port, (s.ports.get p).receive = .hunt ∨ (s.ports.get p).receive = .replying →
      exec (.interByteTimeout p) s = .next s) ∧
    (s.tilt.settle = none → exec .settleTimerExpiry s = .next s) ∧
    (s.lockout.window = none → exec .serviceWindowExpiry s = .next s) ∧
    (s.acq.window = none → exec .acquisitionWindowExpiry s = .next s) ∧
    (s.power.blankTimer = none → exec .blankTimerExpiry s = .next s) ∧
    (s.timetable.state ≠ .grace → exec .graceExpiry s = .next s) ∧
    exec (.encoderStep s.lines.ta s.lines.tb) s = .next s ∧
    ∀ l : Lamp,
      ((∀ k t b, s.condition l ≠ .window k t b) → exec (.ignitionWindowExpiry l) s = .next s) ∧
      ((∀ k t, s.condition l ≠ .retry k t) → exec (.retryWaitExpiry l) s = .next s) ∧
      ((∀ t b, s.condition l ≠ .cooling t b) → exec (.coolDownExpiry l) s = .next s) ∧
      ((∀ fan, 0 < fan → s.condition l ≠ .failed fan) → exec (.fanTimeEnd l) s = .next s) ∧
      (s.lines.lit.get l = true → exec (.litRise l) s = .next s) ∧
      (s.lines.lit.get l = false → exec (.litFall l) s = .next s)

/-- R168, R170: the frame of every well-formed request command decodes to that command; its bytes after the sync byte sum to 0;
and sent byte by byte to a port in HUNT they are assembled to that frame, which is then taken as the command is. -/
def Obligations.FramesSpellTheirCommands : Prop :=
  ∀ (c : Instr) (p : Port) (code : Byte) (d : List Byte), c.wf = true → c.frame? = some (p, code, d) →
    decodeFrame p code d = c ∧ frameSum (requestFrame code d).tail = 0 ∧
    ∀ (s : State) (rest : List Instr), s.Ready p →
      exec c s = .next (s.takeFrame p (keptFrame code d) code d) ∧
      Sys2Proof.core.run (d.length + 4)
          ({ s with pending := (requestFrame code d).map (Instr.portByteReceived p) ++ rest } : State) =
        .next (State.takeFrame { s with
          ports := s.ports.set p ⟨.check, BitVec.ofNat 8 d.length :: code :: d, some 20, []⟩
          pending := rest } p (keptFrame code d) code d)

/-- R170, checks 2 to 5, and R171: for a frame of any code on any port in HUNT, with the code, the ports and the payload length of
each request as R171 lists them: UNKNOWN-REQUEST, NOT-PERMITTED, the PANEL filter's refusal, the wrong length, and otherwise the
owning block's answer with the state it leaves. A refusal changes no state. -/
def Obligations.RequestsAreCheckedInOrder : Prop :=
  let everyone : List Port := [.panel, .facility, .engine]
  let hall : List Port := [.panel, .facility]
  let table : List (Byte × Request × List Port × Nat) :=
      [(0x01, .readStatus, everyone, 0), (0x02, .takeNotice, everyone, 0), (0x03, .setNoticeMask, everyone, 1),
      (0x10, .powerOn, [.panel], 0), (0x11, .powerOff, [.panel], 0), (0x12, .setLampPower, hall, 1),
      (0x13, .setBlank, hall, 1), (0x15, .facilityPowerClaim, [.facility], 1), (0x16, .setPowerDefaults, [.facility], 4),
      (0x20, .selectInput, hall, 1), (0x21, .selectClass, hall, 1), (0x22, .writeInputRow, [.facility], 7),
      (0x23, .readInputRow, everyone, 1), (0x24, .setAcquisitionParameters, [.facility], 3), (0x30, .nudgeCorner, hall, 3),
      (0x31, .clearSessionTrims, hall, 0), (0x32, .writePreset, [.facility], 18), (0x33, .readPreset, everyone, 1),
      (0x34, .storeSessionTrims, [.facility], 0), (0x35, .setKeystoneCalibration, [.facility], 6),
      (0x36, .armHoming, [.facility], 0), (0x37, .readGeometry, everyone, 0), (0x38, .readCorners, everyone, 1),
      (0x39, .readTilt, everyone, 0), (0x40, .extendBooking, hall, 0), (0x41, .setTime, [.facility], 3),
      (0x42, .readScheduleState, everyone, 0), (0x43, .readBookings, everyone, 1), (0x44, .stageBegin, [.facility], 0),
      (0x45, .stageAppend, [.facility], 14), (0x46, .stageCommit, [.facility], 0), (0x47, .insertBooking, [.facility], 14),
      (0x48, .deleteBooking, [.facility], 2), (0x49, .setScheduleEnable, [.facility], 1),
      (0x50, .setManualLockout, [.facility], 1), (0x51, .openServiceWindow, [.facility], 1),
      (0x52, .closeServiceWindow, [.facility], 0), (0x53, .readLockout, everyone, 0), (0x60, .readLampAccount, everyone, 1),
      (0x61, .takeAccountSnapshot, [.facility], 0), (0x62, .readSnapshot, [.facility], 1),
      (0x63, .setLampThresholds, [.facility], 7), (0x64, .setLampParameters, [.facility], 5),
      (0x65, .lampReplaced, [.facility], 1), (0x66, .clearLampFault, [.facility], 1),
      (0x67, .readReplacementHistory, [.facility], 0), (0x70, .serviceReset, [.facility], 0),
      (0x71, .factoryReset, [.facility], 0), (0x80, .syncReport, [.engine], 2), (0x81, .presenceReport, [.engine], 2),
      (0x82, .thermalTrip, [.engine], 0), (0x83, .thermalClear, [.engine], 0)]
  (∀ r : Request, ∃ row ∈ table, row.2.1 = r) ∧
  (∀ (s : State) (p : Port) (code : Byte) (d : List Byte), s.Ready p → d.length ≤ 64 → (∀ row ∈ table, row.1 ≠ code) →
    exec (.unknownRequest p code d) s = .next (s.answer p code d ⟨.unknownRequest, []⟩)) ∧
  ∀ row ∈ table, ∀ (s : State) (p : Port) (d : List Byte), s.Ready p → d.length ≤ 64 →
    let code := row.1
    let r := row.2.1
    let ports := row.2.2.1
    let length := row.2.2.2
    let req := Instr.ofRequest r p d
    (p ∉ ports → exec req s = .next (s.answer p code d ⟨.notPermitted, []⟩)) ∧
    (p ∈ ports →
      (∀ x : Answer, p = .panel → s.panelFilter r d = some x → exec req s = .next (s.answer p code d x)) ∧
      ((p = .panel → s.panelFilter r d = none) →
        (d.length ≠ length → exec req s = .next (s.answer p code d ⟨.badArgument, [0]⟩)) ∧
        (d.length = length → exec req s = .next ((owner r p d s).1.answer p code d (owner r p d s).2))))

/-- R168, R170 check 1: what one byte does in each receive state, the CHECK byte kept with the frame that it completes, and what the
expiry of the inter-byte timer does. -/
def Obligations.BytesMoveThePort : Prop :=
  ∀ (s : State) (p : Port) (b : Byte), s.powered = true →
    ((s.ports.get p).receive = .hunt →
      exec (.portByteReceived p b) s =
        .next (if b = 0x7E then { s with ports := s.ports.set p ⟨.header, [], some 20, []⟩ } else s)) ∧
    ((s.ports.get p).receive = .header →
      ((s.ports.get p).buffer = [] →
        exec (.portByteReceived p b) s = .next { s with
          ports := s.ports.set p (if 64 < b.toNat then ⟨.hunt, [], none, []⟩ else ⟨.header, [b], some 20, []⟩) }) ∧
      (∀ len : Byte, (s.ports.get p).buffer = [len] →
        exec (.portByteReceived p b) s = .next { s with
          ports := s.ports.set p ⟨if len = 0 then .check else .body, [len, b], some 20, []⟩ }) ∧
      exec (.interByteTimeout p) s = .next { s with ports := s.ports.set p ⟨.hunt, [], none, []⟩ }) ∧
    ((s.ports.get p).receive = .body →
      (∀ (len code : Byte) (got : List Byte), (s.ports.get p).buffer = len :: code :: got →
        exec (.portByteReceived p b) s = .next { s with
          ports := s.ports.set p
            ⟨if got.length + 1 = len.toNat then .check else .body, len :: code :: (got ++ [b]), some 20, []⟩ }) ∧
      exec (.interByteTimeout p) s = .next { s with ports := s.ports.set p ⟨.hunt, [], none, []⟩ }) ∧
    ((s.ports.get p).receive = .check →
      (∀ (len code : Byte) (d : List Byte), (s.ports.get p).buffer = len :: code :: d →
        exec (.portByteReceived p b) s = .next
          (if frameSum (len :: code :: (d ++ [b])) = 0 then
            (dispatch p code d s).1.reply p (len :: code :: (d ++ [b])) code (dispatch p code d s).2
          else s.reply p (len :: code :: (d ++ [b])) code ⟨.badFrame, []⟩)) ∧
      exec (.interByteTimeout p) s = .next { s with ports := s.ports.set p ⟨.hunt, [], none, []⟩ }) ∧
    ((s.ports.get p).receive = .replying → exec (.portByteReceived p b) s = .next s)

/-- R168, R169: the layout of a reply, the port in REPLYING with the complete frame kept and (the model's choice, log 28) the whole
reply in it until its end, what is discarded meanwhile, and (the model's choice, log 7) that a part without power takes nothing. -/
def Obligations.RepliesAreSentAndEnd : Prop :=
  (∀ (s : State) (p : Port) (frame : List Byte) (code : Byte) (x : Answer), x.payload.length ≤ 64 →
    ∃ check : Byte,
      s.reply p frame code x = { s with ports := s.ports.set p ⟨.replying, frame, none,
        0x7E :: BitVec.ofNat 8 x.payload.length :: code :: x.status.code :: (x.payload ++ [check])⟩ } ∧
      frameSum (BitVec.ofNat 8 x.payload.length :: code :: x.status.code :: (x.payload ++ [check])) = 0) ∧
  (∀ (s : State) (p : Port) (code : Byte) (d : List Byte) (x : Answer),
    ∃ check : Byte, s.answer p code d x = s.reply p (BitVec.ofNat 8 d.length :: code :: (d ++ [check])) code x) ∧
  (∀ (s : State) (p : Port), s.powered = true →
    exec (.replySent p) s = .next
      (if (s.ports.get p).receive = .replying then { s with ports := s.ports.set p ⟨.hunt, [], none, []⟩ } else s)) ∧
  (∀ (s : State) (p : Port) (r : Request) (code : Byte) (d : List Byte),
    s.powered = false ∨ (s.ports.get p).receive = .replying →
      exec (Instr.ofRequest r p d) s = .next s ∧ exec (.unknownRequest p code d) s = .next s ∧
      exec (.portByteReceived p code) s = .next s)

/-- R132, R133: the effective levels at which each PANEL request passes the filter, and its refusal at the others, whatever its
payload; Select Input and Select Class at level 1 are `PanelSelectionAtLevelOne`. -/
def Obligations.PanelFilterByLevel : Prop :=
  ∀ (s : State) (d : List Byte), s.Ready .panel → d.length ≤ 64 →
    let refused (r : Request) : Prop := exec (Instr.ofRequest r .panel d) s =
      .next (s.answer .panel r.code d ⟨.refusedLocked, [byteOf s.lockout.effective.val, 1]⟩)
    let passes (r : Request) : Prop := s.panelFilter r d = none
    (∀ r ∈ [Request.readStatus, .readLampAccount, .readInputRow, .readPreset, .readGeometry, .readCorners, .readTilt,
        .readScheduleState, .readBookings, .readLockout, .takeNotice, .setNoticeMask], passes r) ∧
    (∀ r ∈ [Request.powerOn, .setBlank, .extendBooking],
      (s.lockout.effective ≤ 2 → passes r) ∧ (s.lockout.effective = 3 → refused r)) ∧
    (∀ r ∈ [Request.powerOff, .nudgeCorner, .clearSessionTrims],
      (s.lockout.effective ≤ 1 → passes r) ∧ (2 ≤ s.lockout.effective → refused r)) ∧
    (∀ r ∈ [Request.selectInput, .selectClass],
      (s.lockout.effective = 0 → passes r) ∧ (2 ≤ s.lockout.effective → refused r)) ∧
    (s.lockout.effective = 0 → passes .setLampPower) ∧ (1 ≤ s.lockout.effective → refused .setLampPower)

/-- R134: PANEL selections at level 1, in the order of its checks: length and argument, booking class, match test, pass. -/
def Obligations.PanelSelectionAtLevelOne : Prop :=
  ∀ (s : State) (d : List Byte), s.Ready .panel → d.length ≤ 64 → s.lockout.effective = 1 →
    let locked (c : Instr) (code : Byte) (reason : Byte) : Prop :=
      exec c s = .next (s.answer .panel code d ⟨.refusedLocked, [1, reason]⟩)
    let suits (n : Fin 10) : Prop := (s.row n).config.enabled = true ∧
      s.lockout.bookingClass &&& (s.row n).config.classMask = (s.row n).config.classCode &&& (s.row n).config.classMask
    (d.length ≠ 1 →
      exec (.selectInput .panel d) s = .next (s.answer .panel 0x20 d ⟨.badArgument, [0]⟩) ∧
      exec (.selectClass .panel d) s = .next (s.answer .panel 0x21 d ⟨.badArgument, [0]⟩)) ∧
    (∀ x : Byte, d = [x] →
      (10 ≤ x.toNat → exec (.selectInput .panel d) s = .next (s.answer .panel 0x20 d ⟨.badArgument, []⟩)) ∧
      (∀ n : Fin 10, n.val = x.toNat →
        (s.lockout.bookingClass = 0 → locked (.selectInput .panel d) 0x20 2) ∧
        (s.lockout.bookingClass ≠ 0 → ¬ suits n → locked (.selectInput .panel d) 0x20 3) ∧
        (s.lockout.bookingClass ≠ 0 → suits n → ∃ (t : State) (y : Answer), exec (.selectInput .panel d) s = .next (t.answer .panel 0x20 d y) ∧
          t.selectedRow = some n ∧ (y.status = .ok ∨ y.status = .accepted))) ∧
      (x = 0 → exec (.selectClass .panel d) s = .next (s.answer .panel 0x21 d ⟨.badArgument, []⟩)) ∧
      (x ≠ 0 →
        (s.lockout.bookingClass = 0 → locked (.selectClass .panel d) 0x21 2) ∧
        (s.lockout.bookingClass ≠ 0 →
          ((s.resolve x).row = none → locked (.selectClass .panel d) 0x21 4) ∧
          (∀ n : Fin 10, (s.resolve x).row = some n →
            (¬ suits n → locked (.selectClass .panel d) 0x21 3) ∧
            (suits n → ∃ (t : State) (y : Answer), exec (.selectClass .panel d) s = .next (t.answer .panel 0x21 d y) ∧
              t.selectedRow = some n ∧ (y.status = .ok ∨ y.status = .accepted))))))

/-! ### Notices and attention lines (11) -/

/-- R178, R179: the priority, the ports and the subject kind of each notice kind; a posted notice is handed to exactly the queues of
its ports, with the clock's minute as stamp, and (the model's choice of when, log 34) waits where the command queue holds one more
NOTICE_ADMISSION for it than notices like it wait, and is taken at once elsewhere; and a queue never holds more than three notices
of priority 7. -/
def Obligations.NoticeKinds : Prop :=
  (∀ (l : Lamp) (n : Fin 10) (id : Nat),
    let kind (t : Topic) : Nat × List Port × Nat := (t.priority, t.ports, subjectKindCode t)
    kind .thermalTrip = (7, [.panel, .facility, .engine], 0) ∧ kind (.lampFailed l) = (7, [.panel, .facility, .engine], 1) ∧
    kind .noLamp = (6, [.panel, .facility, .engine], 0) ∧ kind .timeInvalid = (6, [.facility], 0) ∧
    kind (.lampLife l) = (5, [.panel, .facility], 1) ∧ kind (.senseFault l) = (5, [.facility], 1) ∧
    kind .tiltFault = (5, [.facility], 0) ∧ kind .powerState = (4, [.panel, .facility, .engine], 0) ∧
    kind .lockoutChanged = (4, [.panel, .facility], 0) ∧ kind (.resyncRequest n) = (4, [.engine], 2) ∧
    kind .blank = (4, [.engine], 0) ∧ kind (.inputSelected (some n)) = (3, [.panel, .facility, .engine], 2) ∧
    kind (.inputSelected none) = (3, [.panel, .facility, .engine], 0) ∧
    kind (.acquisition n) = (3, [.panel, .facility, .engine], 2) ∧ kind .geometryChanged = (3, [.engine], 0) ∧
    kind (.booking id) = (3, [.panel, .facility], 4) ∧ kind (.lampState l) = (2, [.panel, .engine], 1) ∧
    kind .scheduleCommitted = (2, [.facility], 0)) ∧
  (∀ (s : State) (t : Topic) (v : Nat),
    s.post t v = { s with queues := (s.post t v).queues, handed := (s.post t v).handed } ∧
    ∀ p : Port,
      let n : Notice := ⟨t, BitVec.ofNat 16 v, s.clock.minute⟩
      let waits : Prop :=
        ((s.handed.get p).filter (fun m => m.topic = t ∧ m.value = BitVec.ofNat 16 v)).length <
          (s.pending.filter (fun c => c = .noticeAdmission p t (BitVec.ofNat 16 v))).length
      (p ∉ t.ports → (s.post t v).queues.get p = s.queues.get p ∧ (s.post t v).handed.get p = s.handed.get p) ∧
      (p ∈ t.ports → ¬ waits → (s.post t v).queues.get p = (s.queues.get p).enqueue n ∧
        (s.post t v).handed.get p = s.handed.get p) ∧
      (p ∈ t.ports → waits → (s.post t v).queues.get p = s.queues.get p ∧
        (s.post t v).handed.get p = s.handed.get p ++ [n])) ∧
  ∀ q : NoticeQueue, q.Legal → (q.notices.filter (fun n => n.topic.priority = 7)).length ≤ 3

/-- R178, R180: the taking of a notice by one queue, as an event of its own: the oldest that waits for it with that topic and value,
with the stamp of its posting, or one handed to it now (which of several waits longest, and where none waits: the model's choice,
log 34); coalescing, admission, dropping and displacement. -/
def Obligations.NoticeAdmission : Prop :=
  ∀ (s : State) (p : Port) (topic : Topic) (value : BitVec 16) (n : Notice) (left : List Notice),
    s.powered = true → p ∈ topic.ports →
    let q := s.queues.get p
    let like (m : Notice) : Prop := m.topic = topic ∧ m.value = value
    ((∀ m ∈ s.handed.get p, ¬ like m) ∧ n = ⟨topic, value, s.clock.minute⟩ ∧ left = s.handed.get p) ∨
      (like n ∧ ∃ older newer : List Notice, s.handed.get p = older ++ n :: newer ∧ (∀ m ∈ older, ¬ like m) ∧
        left = older ++ newer) →
    let becomes (q' : NoticeQueue) : Prop :=
      exec (.noticeAdmission p topic value) s =
        .next { s with queues := s.queues.set p q', handed := s.handed.set p left } ∧ (q.Legal → q'.Legal)
    ((∃ m ∈ q.notices, m.topic = topic) →
      becomes { q with notices := q.notices.map (fun m => if m.topic = topic then n else m) }) ∧
    ((∀ m ∈ q.notices, m.topic ≠ topic) →
      (q.notices.length ≤ 11 → becomes { q with notices := q.notices ++ [n] }) ∧
      (12 ≤ q.notices.length → q.notices.length ≤ 15 →
        (4 ≤ topic.priority → becomes { q with notices := q.notices ++ [n] }) ∧
        (topic.priority ≤ 3 → becomes { q with lost := min 255 (q.lost + 1) })) ∧
      (q.notices.length = 16 →
        (topic.priority ≤ 6 → becomes { q with lost := min 255 (q.lost + 1) }) ∧
        (topic.priority = 7 → ∀ (older : List Notice) (m : Notice) (newer : List Notice),
          q.notices = older ++ m :: newer → m.topic.priority < 7 →
          (∀ x ∈ older, m.topic.priority < x.topic.priority) → (∀ x ∈ newer, m.topic.priority ≤ x.topic.priority) →
            becomes { q with notices := older ++ newer ++ [n], lost := min 255 (q.lost + 1) })))

/-- R181: Take Notice on any port, at any effective level. R182: Set Notice Mask likewise; what the mask does to the attention line,
and that it does nothing to the queue. -/
def Obligations.TakeNoticeAndNoticeMask : Prop :=
  (∀ (s : State) (p : Port), s.Ready p →
     let q := s.queues.get p
     (q.notices = [] →
       exec (.takeNotice p []) s = .next
         (({ s with queues := s.queues.set p { q with lost := 0 } }).answer p 0x02 [] ⟨.empty, [byteOf q.lost]⟩)) ∧
     (∀ (n : Notice) (rest : List Notice), q.notices = n :: rest →
       exec (.takeNotice p []) s = .next
         (({ s with queues := s.queues.set p { q with notices := rest, lost := 0 } }).answer p 0x02 []
           ⟨.ok, [byteOf (kindCode n.topic), byteOf n.topic.priority, byteOf (subjectKindCode n.topic)]
             ++ le16 (subjectNumber n.topic) ++ le16 n.value.toNat ++ le16 n.stamp
             ++ [byteOf rest.length, byteOf q.lost]⟩))) ∧
  ((∀ (s : State) (p : Port) (x : Byte), s.Ready p →
     exec (.setNoticeMask p [x]) s = .next
       (({ s with queues := s.queues.set p { s.queues.get p with mask := min 7 x.toNat } }).answer p 0x03 [x]
         ⟨if 7 < x.toNat then .clamped else .ok, [byteOf (min 7 x.toNat)]⟩)) ∧
   (∀ (s : State) (p : Port), s.powered = true →
     (s.attentionLine p = true ↔
       ∃ n ∈ (s.queues.get p).notices, (s.queues.get p).mask < n.topic.priority ∨ n.topic.priority = 7)) ∧
   (∀ (q : NoticeQueue) (n : Notice) (mask : Nat), { q with mask := mask }.enqueue n = { q.enqueue n with mask := mask }) ∧
   (∀ (q : NoticeQueue) (n : Notice), (∃ m ∈ q.notices, m.topic = n.topic) → (q.enqueue n).attention = q.attention) ∧
   (∀ (s : State) (p : Port), (s.restored.queues.get p).mask = 0))

/-! ### Lamp accounts (01) -/

/-- R15, R16, R17, R176: reading an account, taking the snapshot and reading it; nothing else changes. -/
def Obligations.LampAccountReads : Prop :=
  let record (l : Lamp) (x : LampAccount) (life : LifeState) : List Byte :=
    [lampByte l] ++ le32 x.wear ++ le32 (x.wear / 960) ++ le24 x.fullMinutes ++ le24 x.ecoMinutes ++ le16 x.strikes ++ le16 x.dropouts
    ++ le16 x.ratedLife ++ le16 x.warnOffset ++ le16 x.grace
    ++ [byteOf life.number]
  let time (c : WeekClock) : List Byte := le16 c.minute ++ [byteOf c.second, flagByte c.valid]
  (lampByte .a = 0 ∧ lampByte .b = 1 ∧ LifeState.fresh.number = 0 ∧ LifeState.warn.number = 1 ∧ LifeState.due.number = 2 ∧
    LifeState.blocked.number = 3) ∧
  (∀ (s : State) (p : Port) (x : Byte), s.Ready p →
    (x = 0 → exec (.readLampAccount p [x]) s =
      .next (s.answer p 0x60 [x] ⟨.ok, record .a (s.account .a) s.accounts.life.a⟩)) ∧
    (x = 1 → exec (.readLampAccount p [x]) s =
      .next (s.answer p 0x60 [x] ⟨.ok, record .b (s.account .b) s.accounts.life.b⟩)) ∧
    (1 < x.toNat → exec (.readLampAccount p [x]) s = .next (s.answer p 0x60 [x] ⟨.badArgument, []⟩))) ∧
  (∀ s : State, s.Ready .facility →
    exec (.takeAccountSnapshot .facility []) s = .next
      (({ s with accounts.snapshot := some ⟨s.accounts.lamps, s.accounts.life, s.clock⟩ }).answer .facility 0x61 []
        ⟨.ok, time s.clock⟩)) ∧
  (∀ (s : State) (x : Byte), s.Ready .facility →
    (1 < x.toNat → exec (.readSnapshot .facility [x]) s = .next (s.answer .facility 0x62 [x] ⟨.badArgument, []⟩)) ∧
    (x.toNat ≤ 1 → s.accounts.snapshot = none →
      exec (.readSnapshot .facility [x]) s = .next (s.answer .facility 0x62 [x] ⟨.empty, []⟩)) ∧
    (∀ snap : AccountSnapshot, s.accounts.snapshot = some snap →
      (x = 0 → exec (.readSnapshot .facility [x]) s = .next (s.answer .facility 0x62 [x]
        ⟨.ok, record .a snap.accounts.a snap.life.a ++ time snap.time⟩)) ∧
      (x = 1 → exec (.readSnapshot .facility [x]) s = .next (s.answer .facility 0x62 [x]
        ⟨.ok, record .b snap.accounts.b snap.life.b ++ time snap.time⟩))))

/-- R8, R9: the wear hours and the life state of an account. R12, R26, R41: the lines of the lamps as functions of the state of a part
with power. -/
def Obligations.LifeStatesAndLampLines : Prop :=
  (∀ x : LampAccount,
     let h := x.wear / 960
     let warn := min x.warnOffset x.ratedLife
     x.hours = h ∧ (x.wear ≤ 4294967295 → h ≤ 4473924) ∧
     (x.lifeState = .fresh ↔ h < x.ratedLife - warn) ∧
     (x.lifeState = .warn ↔ x.ratedLife - warn ≤ h ∧ h < x.ratedLife) ∧
     (x.lifeState = .due ↔ x.ratedLife ≤ h ∧ h < x.ratedLife + x.grace) ∧
     (x.lifeState = .blocked ↔ x.ratedLife + x.grace ≤ h)) ∧
  (∀ (s : State) (l : Lamp), s.powered = true →
     (s.igniteLine l = true ↔ (∃ k t b, s.condition l = .window k t b) ∨ s.condition l = .lit) ∧
     (s.ecoLine l = true ↔ s.accounts.life.get l = .due ∨ s.accounts.life.get l = .blocked ∨ s.power.level = .eco) ∧
     (s.fanLine = true ↔ ∃ m : Lamp, s.lampState m = .striking ∨ s.lampState m = .lit ∨ s.lampState m = .cooling ∨
       ∃ fan, s.condition m = .failed fan ∧ 0 < fan))

/-- R13, R14, R21: the two requests that set thresholds, weights and parameters, each saved with the whole account state. For Set
Lamp Thresholds on a lamp that is not STRIKING (`IgnitionWindowsAndRetries` has a strike): with no demand waiting; with a demand that
waits, which a changed life state lets in where a lamp has become usable (R57, R60, R61); and with the demand held by the thermal hold.
The order of the two lamps there is log 5, of LAMP-LIFE, LAMP-STATE and POWER-STATE log 8, and the life state in the reply log 20: the
model's choices. -/
def Obligations.ThresholdsAndParameters : Prop :=
  (∀ (s : State) (l : Lamp) (x r0 r1 w0 w1 g0 g1 : Byte), s.Ready .facility →
    x = lampByte l →
    s.lampState l ≠ .striking → s.BlankLegal →
    let rated := max 500 (min 20000 (readU16 r0 r1))
    let warn := min 2000 (readU16 w0 w1)
    let grace := min 1000 (readU16 g0 g1)
    let account : LampAccount := { s.account l with ratedLife := rated, warnOffset := warn, grace := grace }
    let lamps := s.accounts.lamps.set l account
    let life := account.lifeState
    let taken : State := { s with
      accounts.lamps := lamps, accounts.life := s.accounts.life.set l life, accounts.litTicks := 0
      store.accounts := some ⟨lamps, s.accounts.weights, s.accounts.history, s.accounts.replacements⟩ }
    let told := if life = s.accounts.life.get l then taken else taken.post (.lampLife l) life.number
    let req : Instr := .setLampThresholds .facility [x, r0, r1, w0, w1, g0, g1]
    let reply (t : State) : State := t.answer .facility 0x63 [x, r0, r1, w0, w1, g0, g1]
      ⟨if rated = readU16 r0 r1 ∧ warn = readU16 w0 w1 ∧ grace = readU16 g0 g1 then .ok else .clamped, [byteOf life.number]⟩
    (s.power.held = false → (s.power.state = .standby → s.power.demand = ⟨false, false, false⟩) →
      exec req s = .next (reply told)) ∧
    (s.Waits →
      (life = s.accounts.life.get l → exec req s = .next (reply told)) ∧
      (life ≠ s.accounts.life.get l → ∃ t : State, exec req s = .next (reply t) ∧ told.Rechecks t)) ∧
    (s.power.held = true → s.power.demand ≠ ⟨false, false, false⟩ → s.lamps.thermalHold = true →
      exec req s = .next (reply told))) ∧
  (∀ (s : State) (x r0 r1 w0 w1 g0 g1 : Byte), s.Ready .facility → 1 < x.toNat →
    exec (.setLampThresholds .facility [x, r0, r1, w0, w1, g0, g1]) s =
      .next (s.answer .facility 0x63 [x, r0, r1, w0, w1, g0, g1] ⟨.badArgument, []⟩)) ∧
  (∀ (s : State) (eco penalty c0 c1 limit : Byte), s.Ready .facility →
    let weights : WearWeights := ⟨max 4 (min 16 eco.toNat), min 240 penalty.toNat⟩
    let params : LampParams := ⟨max 60 (min 600 (readU16 c0 c1)), max 1 (min 6 limit.toNat)⟩
    exec (.setLampParameters .facility [eco, penalty, c0, c1, limit]) s = .next
      (({ s with
        accounts.weights := weights, accounts.litTicks := 0, lamps.params := params
        store.lampParams := some params
        store.accounts := some ⟨s.accounts.lamps, weights, s.accounts.history, s.accounts.replacements⟩ }).answer .facility 0x64 [eco, penalty, c0, c1, limit]
        ⟨if weights = (⟨eco.toNat, penalty.toNat⟩ : WearWeights) ∧ params = (⟨readU16 c0 c1, limit.toNat⟩ : LampParams) then .ok else .clamped, []⟩))

/-- R18, R19, R20: Lamp Replaced for a lamp that is DARK or FAILED with its fan time over: where nothing waits for a lamp; with a demand
that waits, which it lets in where a lamp has become usable (R57, R60, R61); and with the demand held by the thermal hold. Its reply
carries the serial alone, as R19 and R177 have it and R44 has not (log 30, the model's inference). The order of the two lamps where
the demand is let in is log 5, that of the notices of the LCU, the LAU and the PDU log 8: the model's choices. Its refusal in every
other condition; and the history read. -/
def Obligations.LampReplacedAndHistory : Prop :=
  (∀ (s : State) (l : Lamp) (x : Byte), s.Ready .facility →
    x = lampByte l →
    s.BlankLegal → s.condition l = .dark ∨ s.condition l = .failed 0 →
    let old := s.account l
    let serial := min 65535 (s.accounts.replacements + 1)
    let record : HistoryRecord := ⟨l, old.wear / 960, old.strikes, old.dropouts, serial⟩
    let history := (record :: s.accounts.history).take 4
    let account : LampAccount := ⟨0, 0, 0, 0, 0, old.ratedLife, old.warnOffset, old.grace⟩
    let lamps := s.accounts.lamps.set l account
    let taken : State := { s with
      accounts := ⟨lamps, s.accounts.life.set l account.lifeState, s.accounts.weights, history, serial, s.accounts.snapshot, 0⟩
      lamps.lamp := s.lamps.lamp.set l ⟨.dark, 0⟩
      store.accounts := some ⟨lamps, s.accounts.weights, history, serial⟩ }
    let told := (if s.condition l = .dark then taken else taken.post (.lampState l) 0).post (.lampLife l) account.lifeState.number
    let req : Instr := .lampReplaced .facility [x]
    let reply (t : State) : State := t.answer .facility 0x65 [x] ⟨.ok, le16 serial⟩
    let usableAnew : Prop := s.condition l = .failed 0 ∨ account.lifeState ≠ s.accounts.life.get l
    let besideCooling : Prop := s.power.state = .coolingDown → (s.condition l.other).resting = false
    (s.condition l = .failed 0 → s.Unmoved l → exec req s = .next (reply told)) ∧
    (s.condition l = .dark → s.power.held = false → (s.power.state = .standby → s.power.demand = ⟨false, false, false⟩) →
      exec req s = .next (reply told)) ∧
    (s.Waits → besideCooling →
      (¬ usableAnew → exec req s = .next (reply told)) ∧
      (usableAnew → ∃ t : State, exec req s = .next (reply t) ∧ told.Rechecks t)) ∧
    (s.power.held = true → s.power.demand ≠ ⟨false, false, false⟩ → s.lamps.thermalHold = true → besideCooling →
      s.power.state = .standby ∨ s.power.state = .coolingDown → exec req s = .next (reply told))) ∧
  (∀ (s : State) (l : Lamp) (x : Byte), s.Ready .facility →
    x = lampByte l →
    s.condition l ≠ .dark → s.condition l ≠ .failed 0 →
    exec (.lampReplaced .facility [x]) s =
      .next (s.answer .facility 0x65 [x] ⟨.refusedState, [byteOf (s.lampState l).number]⟩)) ∧
  (∀ (s : State) (x : Byte), s.Ready .facility → 1 < x.toNat →
    exec (.lampReplaced .facility [x]) s = .next (s.answer .facility 0x65 [x] ⟨.badArgument, []⟩)) ∧
  (∀ s : State, s.Ready .facility →
    exec (.readReplacementHistory .facility []) s = .next (s.answer .facility 0x67 []
      (if s.accounts.history = [] then ⟨.empty, []⟩
      else ⟨.ok, [byteOf s.accounts.history.length]
        ++ s.accounts.history.flatMap (fun r => [lampByte r.lamp] ++ le32 r.hours ++ le16 r.strikes ++ le16 r.dropouts ++ le16 r.serial)
        ++ le16 s.accounts.replacements⟩)))

/-- R3, R7, R10, R21: each lamp that is LIT at a minute tick is charged by its ECO line, no other lamp is; a tick with a lamp LIT
advances the lit-tick count or saves; a life state that the charge moves is held and told by LAMP-LIFE. The whole effect of a tick
at which no booking leads, starts or ends, in either order of the LAU and the timetable, where a moved life state has no held demand
to free. And for every tick that the LAU takes first, whatever the timetable then does: the account and the life state of a LIT
lamp. -/
def Obligations.MinuteTickChargesLitLamps : Prop :=
  ∀ (s : State) (first : TickTaker), s.powered = true → s.clock.minute < 10080 →
    let minute := if s.clock.minute = 10079 then 0 else s.clock.minute + 1
    let lit (l : Lamp) : Bool := s.lampState l == .lit
    let charged (l : Lamp) : LampAccount :=
      let x := s.account l
      if lit l then
        if s.ecoLine l then
          { x with
            wear := min 4294967295 (x.wear + s.accounts.weights.eco), ecoMinutes := min 16777215 (x.ecoMinutes + 1) }
        else { x with wear := min 4294967295 (x.wear + 16), fullMinutes := min 16777215 (x.fullMinutes + 1) }
      else x
    let life (l : Lamp) : LifeState := if lit l then (charged l).lifeState else s.accounts.life.get l
    let moved (l : Lamp) : Prop := life l ≠ s.accounts.life.get l
    let cursor := if minute = 0 then 0 else s.timetable.cursor
    let lamps : PerLamp LampAccount := ⟨charged .a, charged .b⟩
    let ticked : State := { s with
      clock := ⟨minute, 0, s.clock.valid⟩, accounts.lamps := lamps, accounts.life := ⟨life .a, life .b⟩
      timetable.cursor := cursor }
    let counted : State :=
      if lit .a = false ∧ lit .b = false then ticked
      else if s.accounts.litTicks < 5 then { ticked with accounts.litTicks := s.accounts.litTicks + 1 }
      else { ticked with
        accounts.litTicks := 0
        store.accounts := some ⟨lamps, s.accounts.weights, s.accounts.history, s.accounts.replacements⟩ }
    let tell (l : Lamp) (x : State) : State := if moved l then x.post (.lampLife l) (life l).number else x
    let eventless : Prop := s.timetable.state = .disabled ∨ s.timetable.state = .noTime ∨
      (∃ b, s.activeBooking = some b ∧ b.config.stop + b.extension ≠ minute ∧
        ¬ (b.config.stop + b.extension = 10080 ∧ minute = 0)) ∨
      (s.timetable.active = none ∧
        ∀ b ∈ s.timetable.table[if cursor < s.timetable.table.length then cursor else 0]?,
          b.config.start ≠ minute ∧
          (s.timetable.state = .idle ∨ s.timetable.state = .grace →
            b.config.lead = 0 ∨ (b.config.start + 10080 - b.config.lead) % 10080 ≠ minute))
    (eventless → (moved .a ∨ moved .b → s.BlankLegal ∧ s.power.held = false ∧ s.power.state ≠ .standby) →
      exec (.minuteTick first) s = .next (tell .a (tell .b counted)) ∨
      exec (.minuteTick first) s = .next (tell .b (tell .a counted))) ∧
    (first = .accounts → ∀ l : Lamp, lit l = true →
      ∃ t : State, exec (.minuteTick first) s = .next t ∧ t.account l = charged l ∧ t.accounts.life.get l = life l)

/-! ### Ignition, cooling and the lines of the lamps (02) -/

/-- R30, R31, R32, R38: what the expiry of an ignition window and of a retry wait do, the pulse that makes the lamp BLOCKED, which
abandons its strike, and a Set Lamp Thresholds that does so: the mark in the window, COOLING at once in the wait. R47, R58: what
becomes of the session of a STRIKING lamp that is lost in WARMING, by failing, by an abandoned window or from its wait: the other
lamp burns on under DUAL; the other lamp joins, struck from DARK or made strike-pending in COOLING; no lamp joins, and the
projector is in COOLING-DOWN with the demand held. The model's choices: such a loss is no re-check, so that under DUAL the demand stays
held beside an available lamp, and the order of the notices of the LAU, the LCU and the PDU (log 8); NO-LAMP before POWER-STATE
(log 31). -/
def Obligations.IgnitionWindowsAndRetries : Prop :=
  ∀ (s : State) (l : Lamp), s.powered = true →
    let put (c : LampCondition) : PerLamp LampControl := s.lamps.lamp.set l { s.lamps.lamp.get l with condition := c }
    let pulsed (m : Lamp) : LampAccount := { s.account m with
      wear := min 4294967295 ((s.account m).wear + s.accounts.weights.penalty * 16)
      strikes := min 65535 ((s.account m).strikes + 1) }
    let charged (m : Lamp) : PerLamp LampAccount := s.accounts.lamps.set m (pulsed m)
    -- the end of command `c` when the LCU and the LAU leave `t`, lamp `l` is lost, and the reply to `c`, if any, is `reply`
    let ends (c : Instr) (t : State) (reply : State → State) : Prop :=
      s.power.session.get l = true → s.power.demand ≠ ⟨false, false, false⟩ → s.power.state = .warming →
      s.power.held = false → s.power.degraded = false →
      let without := s.power.session.set l false
      let other := s.lamps.lamp.get l.other
      (s.power.latched = some .dual → s.power.session.get l.other = true → s.lampState l.other = .lit →
        exec c s = .next (reply ((({ t with
          power.session := without, power.state := .on, power.degraded := true } : State).post .powerState
            34).followBlankTimer))) ∧
      (s.power.session.get l.other = false →
        (∀ policy ∈ [LampPolicy.alternate, .fixedA, .fixedB], s.power.latched = some policy →
          s.accounts.life.get l.other ≠ .blocked → s.lamps.thermalHold = false →
          (s.condition l.other = .dark → s.lines.lit.get l.other = false →
            (pulsed l.other).lifeState = s.accounts.life.get l.other →
            exec c s = .next (reply ((({ t with
              lamps.lamp := t.lamps.lamp.set l.other { other with condition := .window 1 3 false }
              accounts.lamps := t.accounts.lamps.set l.other (pulsed l.other)
              power.session := without.set l.other true } : State).post (.lampState l.other) 1).followBlankTimer))) ∧
          (∀ (timer : Nat) (b : Bool), s.condition l.other = .cooling timer b →
            exec c s = .next (reply (({ t with
              lamps.lamp := t.lamps.lamp.set l.other { other with condition := .cooling timer true }
              power.session := without.set l.other true } : State).followBlankTimer)))) ∧
        (s.power.latched = some .dual ∨ s.available l.other = false → 0 < s.lamps.params.coolDown →
          exec c s = .next (reply (((({ t with
            power.session := without, power.state := .coolingDown, power.held := true } : State).post .noLamp
              (if s.lamps.thermalHold then 2 else 1)).post .powerState 19).followBlankTimer))))
    let left (c : LampCondition) : State := { s with
      lamps.lamp := put c, store.accounts := some s.accounts.saved, accounts.litTicks := 0 }
    let failed : State :=
      ((left (.failed s.lamps.params.coolDown)).post (.lampFailed l) 1).post (.lampState l) 4
    (∀ k t wait : Nat, s.condition l = .window k t false → k < s.lamps.params.strikeLimit →
      (k, wait) ∈ [(1, 10), (2, 20), (3, 40), (4, 80), (5, 80)] →
      exec (.ignitionWindowExpiry l) s = .next { s with lamps.lamp := put (.retry k wait) }) ∧
    (∀ k t : Nat, s.condition l = .retry k t → k < s.lamps.params.strikeLimit → s.lines.lit.get l = false →
      ((pulsed l).lifeState = s.accounts.life.get l →
        exec (.retryWaitExpiry l) s = .next { s with
          lamps.lamp := put (.window (k + 1) 3 false), accounts.lamps := charged l }) ∧
      (s.BlankLegal → s.power.held = false → s.power.state ≠ .standby → s.accounts.life.get l ≠ .blocked →
        (pulsed l).lifeState = .blocked →
        exec (.retryWaitExpiry l) s = .next (({ s with
          lamps.lamp := put (.window (k + 1) 3 true), accounts.lamps := charged l
          accounts.life := s.accounts.life.set l .blocked } : State).post (.lampLife l) 3))) ∧
    (∀ k t : Nat, s.lamps.params.strikeLimit ≤ k →
      (s.condition l = .window k t false → ends (.ignitionWindowExpiry l) failed (fun x => x)) ∧
      (s.condition l = .retry k t → ends (.retryWaitExpiry l) failed (fun x => x))) ∧
    (∀ k t : Nat, s.condition l = .window k t true →
      ends (.ignitionWindowExpiry l) ((left (.cooling s.lamps.params.coolDown false)).post (.lampState l) 3) (fun x => x)) ∧
    (∀ x r0 r1 w0 w1 g0 g1 : Byte, s.Ready .facility → s.BlankLegal → x = lampByte l →
      let rated := max 500 (min 20000 (readU16 r0 r1))
      let warn := min 2000 (readU16 w0 w1)
      let grace := min 1000 (readU16 g0 g1)
      let account : LampAccount := { s.account l with ratedLife := rated, warnOffset := warn, grace := grace }
      account.lifeState = .blocked → s.accounts.life.get l ≠ .blocked →
      let req : Instr := .setLampThresholds .facility [x, r0, r1, w0, w1, g0, g1]
      let lamps := s.accounts.lamps.set l account
      let blocked (c : LampCondition) : State := ({ s with
        lamps.lamp := put c, accounts.lamps := lamps, accounts.life := s.accounts.life.set l .blocked, accounts.litTicks := 0
        store.accounts := some ⟨lamps, s.accounts.weights, s.accounts.history, s.accounts.replacements⟩ } : State).post
          (.lampLife l) 3
      let reply (t : State) : State := t.answer .facility 0x63 [x, r0, r1, w0, w1, g0, g1]
        ⟨if rated = readU16 r0 r1 ∧ warn = readU16 w0 w1 ∧ grace = readU16 g0 g1 then .ok else .clamped, [3]⟩
      (∀ (k t : Nat) (b : Bool), s.condition l = .window k t b → s.power.held = false → s.power.state ≠ .standby →
        exec req s = .next (reply (blocked (.window k t true)))) ∧
      (∀ k t : Nat, s.condition l = .retry k t →
        ends req ((blocked (.cooling s.lamps.params.coolDown false)).post (.lampState l) 3) reply))

/-- R35, R38: the end of a cool-down beside a burning lamp, with a deferred strike, and with the deferred strike of a lamp that has
become BLOCKED, which declines it and is lost (R47, R61): the other lamp joins and is struck, or none joins and the demand is held;
and the end of a fan time beside a burning lamp. The model's choices: the declined strike and the change to DARK are taken as one
hand-off, with no entry into STANDBY between them (log 8); NO-LAMP before POWER-STATE (log 31). -/
def Obligations.CoolDownsAndFanTimes : Prop :=
  ∀ (s : State) (l : Lamp), s.powered = true → s.BlankLegal → s.power.held = false →
    let put (c : LampCondition) : PerLamp LampControl := s.lamps.lamp.set l { s.lamps.lamp.get l with condition := c }
    let pulsed (m : Lamp) : LampAccount := { s.account m with
      wear := min 4294967295 ((s.account m).wear + s.accounts.weights.penalty * 16)
      strikes := min 65535 ((s.account m).strikes + 1) }
    let struck (m : Lamp) : Prop := s.lines.lit.get m = false ∧ (pulsed m).lifeState = s.accounts.life.get m
    (s.power.state = .on → s.lampState l.other = .lit → s.power.degraded = (s.power.latched == some .dual) →
      (∀ t : Nat, s.condition l = .cooling t false →
        exec (.coolDownExpiry l) s = .next (({ s with lamps.lamp := put .dark }).post (.lampState l) 0)) ∧
      (∀ fan : Nat, 0 < fan → s.condition l = .failed fan →
        exec (.fanTimeEnd l) s = .next { s with lamps.lamp := put (.failed 0) })) ∧
    (∀ t : Nat, s.condition l = .cooling t true → s.power.state = .coolingDown → s.power.session.get l = true →
      s.lamps.thermalHold = false →
      (s.accounts.life.get l ≠ .blocked → struck l →
        exec (.coolDownExpiry l) s = .next
          ((({ s with
            lamps.lamp := put (.window 1 3 false), accounts.lamps := s.accounts.lamps.set l (pulsed l)
            power.state := .warming, power.degraded := false } : State).post (.lampState l) 1).post .powerState 1)) ∧
      (s.accounts.life.get l = .blocked → s.power.demand ≠ ⟨false, false, false⟩ → s.power.degraded = false →
        s.power.session.get l.other = false →
        let dark : State := ({ s with lamps.lamp := put .dark } : State).post (.lampState l) 0
        let without := s.power.session.set l false
        (∀ policy ∈ [LampPolicy.alternate, .fixedA, .fixedB], s.power.latched = some policy →
          s.condition l.other = .dark → s.accounts.life.get l.other ≠ .blocked → struck l.other →
          exec (.coolDownExpiry l) s = .next
            ((({ dark with
              lamps.lamp := dark.lamps.lamp.set l.other { s.lamps.lamp.get l.other with condition := .window 1 3 false }
              accounts.lamps := s.accounts.lamps.set l.other (pulsed l.other)
              power.session := without.set l.other true, power.state := .warming } : State).post (.lampState l.other) 1).post
                .powerState 1)) ∧
        (∀ fan : Nat, 0 < fan → s.condition l.other = .failed fan →
          exec (.coolDownExpiry l) s = .next
            ((({ dark with power.session := without, power.held := true } : State).post .noLamp 1).post .powerState 19))))

/-- R29, R36, R38, R40: the rise and the fall of a LIT line, by the state of the lamp. A burning lamp's fall is stated where the
projector is ON: for the last burning lamp, and for the third dropout of one lamp (R47, R59), whose other lamp burns on under DUAL,
joins and is struck, joins strike-pending, or does not join. The model's choices: the loss is no re-check, so that under DUAL the demand
stays held beside an available lamp, and the order of the notices of the LCU and the PDU (log 8); NO-LAMP before POWER-STATE (log 31). -/
def Obligations.LitLinesRiseAndFall : Prop :=
  ∀ (s : State) (l : Lamp), s.powered = true →
    let put (c : LampCondition) : PerLamp LampControl := s.lamps.lamp.set l { s.lamps.lamp.get l with condition := c }
    (s.lines.lit.get l = false →
      let risen : State := { s with lines.lit := s.lines.lit.set l true }
      (s.lampState l = .dark ∨ s.lampState l = .cooling ∨ s.lampState l = .failed →
        exec (.litRise l) s = .next (risen.post (.senseFault l) (s.lampState l).number)) ∧
      (s.lampState l = .striking → s.power.state = .warming → s.power.held = false → s.lampState l.other ≠ .striking →
        let degraded : Bool := s.power.latched == some .dual && s.lampState l.other != .lit
        exec (.litRise l) s = .next
          ((({ s with
            lines.lit := s.lines.lit.set l true, lamps.lamp := put .lit
            store.accounts := some s.accounts.saved, accounts.litTicks := 0
            power.state := .on, power.degraded := degraded } : State).post (.lampState l) 2).post
              .powerState (if degraded then 34 else 2)).followBlankTimer)) ∧
    (s.lines.lit.get l = true →
      (s.lampState l ≠ .lit → exec (.litFall l) s = .next { s with lines.lit := s.lines.lit.set l false }) ∧
      (s.lampState l = .lit → s.power.state = .on → s.power.held = false →
        let old := s.account l
        let lamps := s.accounts.lamps.set l { old with dropouts := min 65535 (old.dropouts + 1) }
        let count := (s.lamps.lamp.get l).sessionDropouts + 1
        let other := s.lamps.lamp.get l.other
        let fallen (c : LampCondition) : State := { s with
          lines.lit := s.lines.lit.set l false, lamps.lamp := s.lamps.lamp.set l ⟨c, count⟩
          accounts.lamps := lamps, accounts.litTicks := 0
          store.accounts := some ⟨lamps, s.accounts.weights, s.accounts.history, s.accounts.replacements⟩ }
        (count ≤ 2 → s.lampState l.other ≠ .lit → s.lampState l.other ≠ .striking →
          let wanted : Bool := s.power.session.get l && s.power.demand != ⟨false, false, false⟩
          exec (.litFall l) s = .next
            ((({ fallen (.cooling s.lamps.params.coolDown wanted) with
              power.state := .coolingDown, power.degraded := false } : State).post (.lampState l) 3).post
                .powerState 3).followBlankTimer) ∧
        (count = 3 → s.power.session.get l = true → s.power.demand ≠ ⟨false, false, false⟩ →
          let failed : State :=
            ((fallen (.failed s.lamps.params.coolDown)).post (.lampFailed l) 2).post (.lampState l) 4
          let without := s.power.session.set l false
          (s.lampState l.other = .lit → s.power.latched = some .dual → s.power.session.get l.other = true →
            s.power.degraded = false →
            exec (.litFall l) s = .next
              ((({ failed with power.session := without, power.degraded := true } : State).post .powerState
                34).followBlankTimer)) ∧
          (s.power.session.get l.other = false →
            (∀ policy ∈ [LampPolicy.alternate, .fixedA, .fixedB], s.power.latched = some policy →
              s.accounts.life.get l.other ≠ .blocked → s.lamps.thermalHold = false →
              let pulsed : LampAccount := { s.account l.other with
                wear := min 4294967295 ((s.account l.other).wear + s.accounts.weights.penalty * 16)
                strikes := min 65535 ((s.account l.other).strikes + 1) }
              (s.condition l.other = .dark → s.lines.lit.get l.other = false →
                pulsed.lifeState = s.accounts.life.get l.other →
                exec (.litFall l) s = .next
                  ((({ failed with
                    lamps.lamp := failed.lamps.lamp.set l.other { other with condition := .window 1 3 false }
                    accounts.lamps := lamps.set l.other pulsed
                    power.session := without.set l.other true, power.state := .warming, power.degraded := false } : State).post
                      (.lampState l.other) 1).post .powerState 1).followBlankTimer) ∧
              (∀ (timer : Nat) (b : Bool), s.condition l.other = .cooling timer b →
                exec (.litFall l) s = .next
                  (({ failed with
                    lamps.lamp := failed.lamps.lamp.set l.other { other with condition := .cooling timer true }
                    power.session := without.set l.other true, power.state := .coolingDown, power.degraded := false } : State).post
                      .powerState 3).followBlankTimer)) ∧
            (s.power.latched = some .dual ∨ s.available l.other = false →
              s.lampState l.other ≠ .lit → s.lampState l.other ≠ .striking →
              exec (.litFall l) s = .next
                (((({ failed with
                  power.session := without, power.state := .coolingDown, power.degraded := false
                  power.held := true } : State).post .noLamp (if s.lamps.thermalHold then 2 else 1)).post .powerState
                    19).followBlankTimer))))))

/-- R42, R47, R58, R59, R61: Thermal Trip, the whole state it leaves: THERMAL-TRIP with the number of lamps that burned, LAMP-STATE
for each of them in one order or the other (log 5), NO-LAMP when the demand becomes held, POWER-STATE when its value changes; the
session lamps, the session dropouts and all the rest stay. And THERMAL-TRIP reaches every queue. That the PDU takes the trip of both
lamps as one hand-off, after the notices of the LCU, is log 8, that NO-LAMP comes before POWER-STATE log 31: the model's choices. -/
def Obligations.ThermalTrip : Prop :=
  ∀ s : State, s.Ready .engine →
    let burning (l : Lamp) : Bool := s.lampState l == .lit || s.lampState l == .striking
    let count := (burning .a).toNat + (burning .b).toNat
    let cooled (l : Lamp) : LampControl := { s.lamps.lamp.get l with
      condition := if burning l then .cooling s.lamps.params.coolDown false
        else match s.condition l with
          | .cooling timer _ => .cooling timer false
          | c => c }
    let hit : State := { s with lamps := ⟨⟨cooled .a, cooled .b⟩, true, s.lamps.params⟩ }
    let tripped : State := (if count = 0 then hit else { hit with
      accounts.litTicks := 0, store.accounts := some s.accounts.saved }).post .thermalTrip count
    let tell (l : Lamp) (x : State) : State := if burning l then x.post (.lampState l) 3 else x
    let hold (x : State) : State :=
      if s.power.demand ≠ ⟨false, false, false⟩ ∧ s.power.held = false then
        ({ x with power.held := true } : State).post .noLamp 2
      else x
    let cool (x : State) : State :=
      if s.power.state = .warming ∨ s.power.state = .on then
        { x with power.state := .coolingDown, power.degraded := false }
      else x
    let report (x : State) : State :=
      if x.power.number = s.power.number then x else x.post .powerState x.power.number
    let done (x : State) : State := (report (cool (hold x))).followBlankTimer.answer .engine 0x82 [] ⟨.ok, []⟩
    (exec (.thermalTrip .engine []) s = .next (done (tell .a (tell .b tripped))) ∨
      exec (.thermalTrip .engine []) s = .next (done (tell .b (tell .a tripped)))) ∧
    (s.QueuesLegal → ∃ t : State, exec (.thermalTrip .engine []) s = .next t ∧
      ∀ p : Port, ∃ n ∈ (t.queues.get p).notices, n.topic = .thermalTrip ∧ n.value = BitVec.ofNat 16 count)

/-- R43, R57, R60, R61: Thermal Clear with the hold clear; with nothing held; with a demand that waits, which it lets in where a lamp is
usable; and with a held demand whose session lamps are available again. R39: Clear Lamp Fault where no demand waits, in every power
state; with a demand that waits; with the demand held by the thermal hold; and refused for a lamp that is not FAILED. The order of the
two lamps is log 5, of LAMP-STATE and POWER-STATE log 8, and the lamp state in the reply log 20: the model's choices. -/
def Obligations.ThermalClearAndClearLampFault : Prop :=
  (∀ s : State, s.Ready .engine → s.BlankLegal →
     let reply (t : State) : State := t.answer .engine 0x83 [] ⟨.ok, []⟩
     let cleared : State := { s with lamps.thermalHold := false }
     (s.lamps.thermalHold = false → exec (.thermalClear .engine []) s = .next (reply s)) ∧
     (s.lamps.thermalHold = true →
       (s.power.held = false → (s.power.state = .standby → s.power.demand = ⟨false, false, false⟩) →
         exec (.thermalClear .engine []) s = .next (reply cleared)) ∧
       (s.Waits → ∃ t : State, exec (.thermalClear .engine []) s = .next (reply t) ∧ cleared.Rechecks t) ∧
       (s.power.held = true → s.power.state = .coolingDown → s.power.degraded = false →
         s.power.demand ≠ ⟨false, false, false⟩ → s.power.session ≠ ⟨false, false⟩ →
         (∀ l : Lamp, s.power.session.get l = true → cleared.available l = true) → cleared.StrikesPlainly s.power.session →
         ∃ first : Lamp, exec (.thermalClear .engine []) s = .next (reply (cleared.takingUp s.power.session first))))) ∧
  (∀ (s : State) (l : Lamp) (x : Byte), s.Ready .facility → x = lampByte l →
     (∀ fan : Nat, s.condition l = .failed fan → s.BlankLegal →
       let number : Nat := if fan = 0 then 0 else 3
       let cleared : State := ({ s with
         lamps.lamp := s.lamps.lamp.set l ⟨if fan = 0 then .dark else .cooling fan false, 0⟩ } : State).post (.lampState l) number
       let reply (t : State) : State := t.answer .facility 0x66 [x] ⟨.ok, [byteOf number]⟩
       let cools : Prop := s.power.state = .coolingDown → 0 < fan ∨ (s.condition l.other).resting = false
       (s.Unmoved l ∨ (s.power.state = .coolingDown ∧ s.power.held = false ∧ 0 < fan) →
         exec (.clearLampFault .facility [x]) s = .next (reply cleared)) ∧
       (s.Waits → cools → ∃ t : State, exec (.clearLampFault .facility [x]) s = .next (reply t) ∧ cleared.Rechecks t) ∧
       (s.power.held = true → s.power.demand ≠ ⟨false, false, false⟩ → s.lamps.thermalHold = true → cools →
         s.power.state = .standby ∨ s.power.state = .coolingDown →
         exec (.clearLampFault .facility [x]) s = .next (reply cleared))) ∧
     ((∀ fan, s.condition l ≠ .failed fan) →
       exec (.clearLampFault .facility [x]) s =
         .next (s.answer .facility 0x66 [x] ⟨.refusedState, [byteOf (s.lampState l).number]⟩)) ∧
     (∀ y : Byte, 1 < y.toNat →
       exec (.clearLampFault .facility [y]) s = .next (s.answer .facility 0x66 [y] ⟨.badArgument, []⟩)))

/-! ### Demand and power states (03) -/

/-- R63: Set Lamp Power. R64, R65, R66: how the blank timer follows its four conditions, and the two requests that change one of
them. -/
def Obligations.LevelBlankAndPowerDefaults : Prop :=
  (∀ (s : State) (p : Port) (x : Byte), p ≠ .engine → s.Ready p → (p = .panel → s.lockout.effective = 0) →
     (x = 0 → exec (.setLampPower p [x]) s = .next (({ s with power.level := .full }).answer p 0x12 [x] ⟨.ok, [0]⟩)) ∧
     (x = 1 → exec (.setLampPower p [x]) s = .next (({ s with power.level := .eco }).answer p 0x12 [x] ⟨.ok, [1]⟩)) ∧
     (1 < x.toNat → exec (.setLampPower p [x]) s = .next (s.answer p 0x12 [x] ⟨.badArgument, []⟩))) ∧
  ((∀ s : State,
     let holds := s.power.state = .on ∧ s.power.blank = true ∧ s.timetable.active = none ∧ s.power.settings.blankTimeout ≠ 0
     (holds → s.power.blankTimer = none → s.power.blankSpent = false → s.followBlankTimer =
       { s with power.blankTimer := some (60 * s.power.settings.blankTimeout) }) ∧
     (holds → s.power.blankTimer ≠ none ∨ s.power.blankSpent = true → s.followBlankTimer = s) ∧
     (¬ holds → s.followBlankTimer = { s with power.blankTimer := none, power.blankSpent := false })) ∧
   (∀ (s : State) (p : Port) (x : Byte), p ≠ .engine → s.Ready p → (p = .panel → s.lockout.effective ≤ 2) →
     (∀ on : Bool, x = flagByte on →
       exec (.setBlank p [x]) s = .next
         ((if s.power.blank = on then s else ({ s with power.blank := on }).post .blank x.toNat).followBlankTimer.answer p 0x13 [x]
           ⟨.ok, [x]⟩)) ∧
     (1 < x.toNat → exec (.setBlank p [x]) s = .next (s.answer p 0x13 [x] ⟨.badArgument, []⟩))) ∧
   (∀ (s : State) (level policy timeout grace : Byte), s.Ready .facility →
     let req : Instr := .setPowerDefaults .facility [level, policy, timeout, grace]
     (∀ (x : PowerLevel) (y : LampPolicy), (level, x) ∈ [((0 : Byte), PowerLevel.full), (1, .eco)] →
       (policy, y) ∈ [((0 : Byte), LampPolicy.alternate), (1, .dual), (2, .fixedA), (3, .fixedB)] →
       let taken : PowerSettings := ⟨x, y, min 120 timeout.toNat, min 30 grace.toNat⟩
       exec req s = .next
         (({ s with power.settings := taken, store.powerSettings := some taken }).followBlankTimer.answer .facility 0x16 [level, policy, timeout, grace]
           ⟨if timeout.toNat ≤ 120 ∧ grace.toNat ≤ 30 then .ok else .clamped, []⟩)) ∧
     (1 < level.toNat ∨ 3 < policy.toNat → exec req s = .next (s.answer .facility 0x16 [level, policy, timeout, grace] ⟨.badArgument, []⟩))))

/-- R52, R53, R54, R55, R65: a change of one claim that leaves the demand set as empty or as non-empty as it was changes that
claim alone: no order is given to a lamp and nothing is posted; that a held demand is not re-checked there is the model's choice
(log 33). R54, R150: Power Off inside a booking removes the PANEL claim, marks
the booking dismissed and removes its SCHEDULE claim; the booking stays ACTIVE. There a FACILITY claim keeps the projector lit. -/
def Obligations.ClaimsBesideOtherClaims : Prop :=
  (∀ s : State, s.powered = true → s.BlankLegal →
     let none_ : Demand := ⟨false, false, false⟩
     let with_ (d : Demand) : State := { s with power.demand := d }
     let bits (d : Demand) : Byte := byteOf ((if d.panel then 1 else 0) + (if d.schedule then 2 else 0)
       + (if d.facility then 4 else 0))
     (s.Admits .panel .powerOn [] → s.power.demand ≠ none_ →
       exec (.powerOn .panel []) s = .next ((with_ { s.power.demand with panel := true }).answer .panel 0x10 []
         ⟨if s.power.demand.panel then .ok else .accepted,
           [bits { s.power.demand with panel := true }, byteOf s.power.number]⟩)) ∧
     (s.Admits .panel .powerOff [] → s.timetable.active = none →
       s.power.demand = none_ ∨ { s.power.demand with panel := false } ≠ none_ →
       exec (.powerOff .panel []) s = .next ((with_ { s.power.demand with panel := false }).answer .panel 0x11 []
         ⟨.ok, [bits { s.power.demand with panel := false }]⟩)) ∧
     (s.Ready .facility →
       (s.power.demand ≠ none_ →
         exec (.facilityPowerClaim .facility [1]) s = .next ((with_ { s.power.demand with facility := true }).answer
           .facility 0x15 [1] ⟨.ok, [bits { s.power.demand with facility := true }]⟩)) ∧
       (s.power.demand = none_ ∨ { s.power.demand with facility := false } ≠ none_ →
         exec (.facilityPowerClaim .facility [0]) s = .next ((with_ { s.power.demand with facility := false }).answer
           .facility 0x15 [0] ⟨.ok, [bits { s.power.demand with facility := false }]⟩)) ∧
       (∀ x : Byte, 1 < x.toNat → exec (.facilityPowerClaim .facility [x]) s =
         .next (s.answer .facility 0x15 [x] ⟨.badArgument, []⟩))) ∧
     (s.power.blankTimer ≠ none → { s.power.demand with panel := false } ≠ none_ →
       exec .blankTimerExpiry s = .next { s with
         power.demand := { s.power.demand with panel := false }, power.blankTimer := none, power.blankSpent := true })) ∧
  (∀ (s : State) (b : Booking), s.Admits .panel .powerOff [] → s.BlankLegal → s.activeBooking = some b →
     s.power.demand.facility = true →
     let table := s.timetable.table.map (fun x => if x.config.id = b.config.id then { x with dismissed := true } else x)
     exec (.powerOff .panel []) s = .next
       (if b.dismissed then
         ({ s with power.demand := { s.power.demand with panel := false } }).answer .panel 0x11 []
           ⟨.ok, [if s.power.demand.schedule then 6 else 4]⟩
       else
         ({ s with power.demand := ⟨false, false, true⟩, timetable.table := table }).answer .panel 0x11 [] ⟨.ok, [4]⟩))

/-- R53, R55, R57, R60, R61: Power On and Facility Power Claim on with an empty demand set while no lamp may be struck: the demand is
held. In STANDBY, and in COOLING-DOWN with no lamp in the session, where a policy is latched if none was. That NO-LAMP stands before
POWER-STATE is the model's choice (log 31). -/
def Obligations.PowerOnIsHeldInStandby : Prop :=
  ∀ s : State, s.BlankLegal → s.power.held = false → s.power.degraded = false → s.power.demand = ⟨false, false, false⟩ →
    ¬ s.Usable →
    let isHeld (c : Instr) (demand : Demand) (reply : Byte → State → State) : Prop :=
      let held : State := { s with power := { s.power with demand := demand, held := true } }
      let cause : Nat := if s.lamps.thermalHold then 2 else 1
      (s.power.state = .standby →
        exec c s = .next (reply 16 ((held.post .noLamp cause).post .powerState 16))) ∧
      (s.power.state = .coolingDown → s.power.session = ⟨false, false⟩ →
        exec c s = .next (reply 19
          ((({ held with power.latched := some s.policyCooling } : State).post .noLamp cause).post .powerState 19)))
    (s.Admits .panel .powerOn [] → isHeld (.powerOn .panel []) ⟨true, false, false⟩
      (fun number t => t.answer .panel 0x10 [] ⟨.accepted, [1, number]⟩)) ∧
    (s.Ready .facility → isHeld (.facilityPowerClaim .facility [1]) ⟨false, false, true⟩
      (fun _ t => t.answer .facility 0x15 [1] ⟨.ok, [4]⟩))

/-- R5, R26, R28, R45, R46, R53, R55, R57, R60, R63: Power On and Facility Power Claim on with an empty demand set while a lamp is
usable. In STANDBY the projector leaves it, whichever lamps are available. In COOLING-DOWN with no lamp in the session the demand
returns: the lamps are chosen by the latched policy, or by the one in force, which is then latched; a DARK one is struck, a COOLING
one made strike-pending. The whole state: LAMP-STATE for each struck lamp in one order or the other (log 5), then POWER-STATE 1, or
nothing where no strike begins (the order of the LCU's notices and the PDU's is the model's choice, log 8); and the IGNITE line of each
struck lamp is asserted. -/
def Obligations.PowerOnStrikesTheChosenLamps : Prop :=
  ∀ s : State, s.power.demand = ⟨false, false, false⟩ → s.Usable → s.power.degraded = false →
    let strikes (c : Instr) (demand : Demand) (reply : Byte → State → State) : Prop :=
      let wanted : State := { s with power := { s.power with demand := demand } }
      let leads (session : PerLamp Bool) (t : State) : Prop :=
        exec c s = .next t ∧
          ∀ l : Lamp, session.get l = true → s.condition l = .dark → s.lines.lit.get l = false → t.igniteLine l = true
      (s.power.state = .standby →
        let session := s.sessionBy s.power.settings.policy
        s.StrikesPlainly session → ∃ first : Lamp, leads session (reply 1 (wanted.leaving first))) ∧
      (s.power.state = .coolingDown → s.power.held = false → s.power.session = ⟨false, false⟩ →
        let session := s.sessionBy s.policyCooling
        s.StrikesPlainly session →
        ((∃ l : Lamp, session.get l = true ∧ s.condition l = .dark) →
          ∃ first : Lamp, leads session (reply 1 (wanted.returning first))) ∧
        ((∀ l : Lamp, session.get l = true → s.condition l ≠ .dark) →
          ∃ first : Lamp, leads session (reply 3 (wanted.returning first))))
    (s.Admits .panel .powerOn [] → strikes (.powerOn .panel []) ⟨true, false, false⟩
      (fun number t => t.answer .panel 0x10 [] ⟨.accepted, [1, number]⟩)) ∧
    (s.Ready .facility → strikes (.facilityPowerClaim .facility [1]) ⟨false, false, true⟩
      (fun _ t => t.answer .facility 0x15 [1] ⟨.ok, [4]⟩))

/-- R21, R33, R34, R44, R62: the removal of the last claim outside STANDBY, with a lamp not at rest, stops the session: the whole
state, with LAMP-STATE 3 for each lamp put to COOLING, in one order or the other (log 5), and POWER-STATE 3 after them (log 8, the
model's choice); the latched policy is kept. In STANDBY it only clears held (R57). By each cause of R52 that is a command of its own: Power Off, without an active
booking or with a dismissed one; Power Off that dismisses the active booking (R54, R150); Facility Power Claim off; the expiry of the
blank timer (R65) and of the grace (R149); Set Schedule Enable off, without or with an active booking (R148, R152). -/
def Obligations.EmptiedDemandStopsTheSession : Prop :=
  ∀ s : State, s.powered = true →
    -- command `c` empties the demand set once the state is `before`, and then answers
    let empties (c : Instr) (before : State) (reply : State → State) : Prop :=
      (s.power.state ≠ .standby → s.quiet = false → ∃ first : Lamp, exec c s = .next (reply (before.stopping first))) ∧
      (s.power.state = .standby → s.power.held = true → s.power.degraded = false → s.BlankLegal →
        exec c s = .next (reply (({ before with
          power := { s.power with demand := ⟨false, false, false⟩, held := false } } : State).post .powerState 0)))
    let off (t : State) : State := t.answer .panel 0x11 [] ⟨.ok, [0]⟩
    let disabled (t : State) : State := t.answer .facility 0x49 [0] ⟨.ok, [0, 0]⟩
    let awaited := s.timetable.table[if s.timetable.cursor < s.timetable.table.length then s.timetable.cursor else 0]?
    let leads (b : Booking) : Prop := 1 ≤ (b.config.start + 10080 - s.clock.minute) % 10080 ∧
      (b.config.start + 10080 - s.clock.minute) % 10080 ≤ b.config.lead
    let disable (table : List Booking) : State := { s with
      store.scheduleEnable := some false
      timetable := { s.timetable with
        table := table, enable := false, state := .disabled, active := none, cursor := 0, grace := none } }
    (s.Admits .panel .powerOff [] → s.power.demand = ⟨true, false, false⟩ →
      (∀ b : Booking, s.activeBooking = some b → b.dismissed = true) → empties (.powerOff .panel []) s off) ∧
    (∀ b : Booking, s.Admits .panel .powerOff [] → s.power.demand.schedule = true → s.power.demand.facility = false →
      s.activeBooking = some b → b.dismissed = false →
      let table := s.timetable.table.map (fun x => if x.config.id = b.config.id then { x with dismissed := true } else x)
      empties (.powerOff .panel []) { s with timetable.table := table } off) ∧
    (s.Ready .facility → s.power.demand = ⟨false, false, true⟩ →
      empties (.facilityPowerClaim .facility [0]) s (fun t => t.answer .facility 0x15 [0] ⟨.ok, [0]⟩)) ∧
    (s.power.blankTimer ≠ none → s.power.demand = ⟨true, false, false⟩ → empties .blankTimerExpiry s (fun t => t)) ∧
    (s.timetable.state = .grace → s.timetable.active = none → s.power.demand = ⟨false, true, false⟩ →
      (∀ b : Booking, awaited = some b → ¬ leads b) →
      empties .graceExpiry { s with timetable := { s.timetable with state := .idle, grace := none } } (fun t => t)) ∧
    (s.Ready .facility → s.timetable.enable = true → s.power.demand = ⟨false, true, false⟩ →
      (s.timetable.active = none → empties (.setScheduleEnable .facility [0]) (disable s.timetable.table) disabled) ∧
      (∀ b : Booking, s.activeBooking = some b →
        let table := s.timetable.table.map (fun x =>
          if x.config.id = b.config.id then ⟨x.config, 0, false⟩ else x)
        let ended := ((disable table).claimed 0 0).handPresets none s.tilt.rowPreset false
        empties (.setScheduleEnable .facility [0]) (ended.post (.booking b.config.id) 3) disabled))

/-- R37, R60, R64, R115: entry into STANDBY at the end of the last cool-down or fan time, without demand, or with a demand held until
then, which is re-checked there with no policy latched (R57, R61). That BLANK comes before GEOMETRY-CHANGED and both before POWER-STATE
is the model's choice (log 31), and so are the entry before the re-check (log 35) and the order of the two lamps and of their
notices in it (logs 5, 8). And the end of a cool-down or fan time beside a lamp that is not at rest, which re-checks a held demand in
COOLING-DOWN. -/
def Obligations.EntryIntoStandby : Prop :=
  (∀ (s : State) (l : Lamp), s.powered = true → s.Waits → s.power.state = .coolingDown → (s.condition l.other).resting = false →
    (∀ t : Nat, s.condition l = .cooling t false →
      ∃ u : State, exec (.coolDownExpiry l) s = .next u ∧
        State.Rechecks (({ s with lamps.lamp := s.placed l .dark } : State).post (.lampState l) 0) u) ∧
    (∀ fan : Nat, 0 < fan → s.condition l = .failed fan →
      ∃ u : State, exec (.fanTimeEnd l) s = .next u ∧ State.Rechecks { s with lamps.lamp := s.placed l (.failed 0) } u)) ∧
  ∀ (s : State) (l : Lamp), s.powered = true → s.power.state = .coolingDown →
    s.condition l.other = .dark ∨ s.condition l.other = .failed 0 →
    let rest (x : State) (c : LampCondition) : State :=
      let y : State := { x with
        lamps.lamp := ((x.lamps.lamp.set l ⟨c, 0⟩).set l.other ⟨s.condition l.other, 0⟩)
        power := { s.power with
          state := .standby, session := ⟨false, false⟩, latched := none, degraded := false, blank := false
          blankTimer := none, blankSpent := false } }
      let z : State := if s.power.blank then y.post .blank 0 else y
      (({ z with tilt.trims := noTrims }).recomputeGeometry).post .powerState (if s.power.held then 16 else 0)
    let enters (c : Instr) (entered : State) : Prop :=
      (s.power.demand = ⟨false, false, false⟩ → s.power.held = false → exec c s = .next entered) ∧
      (s.power.demand ≠ ⟨false, false, false⟩ → s.power.held = true →
        ∃ t : State, exec c s = .next t ∧ entered.Rechecks t)
    (∀ t : Nat, s.condition l = .cooling t false → enters (.coolDownExpiry l) (rest (s.post (.lampState l) 0) .dark)) ∧
    (∀ fan : Nat, 0 < fan → s.condition l = .failed fan → enters (.fanTimeEnd l) (rest s (.failed 0)))

/-! ### Input table and acquisition (04, 05) -/

/-- R81, R82, R83: class resolution. -/
def Obligations.ClassResolution : Prop :=
  ∀ (s : State) (c : Byte),
    let answers (n : Fin 10) : Prop := (s.row n).config.enabled = true ∧
      c &&& (s.row n).config.classMask = (s.row n).config.classCode &&& (s.row n).config.classMask
    let r := s.resolve c
    r.asked = c ∧ r.count = ((List.finRange 10).filter (fun n => decide (answers n))).length ∧
    (r.ambiguous = true ↔ 2 ≤ r.count) ∧
    (r.row = none ↔ ∀ n, ¬ answers n) ∧ (r.row = none → r.present = false) ∧
    (∀ n, r.row = some n → answers n ∧ r.present = (s.row n).present ∧
      ((s.row n).present = true → ∀ m, m < n → answers m → (s.row m).present = false) ∧
      ((s.row n).present = false → ∀ m, answers m → (s.row m).present = false ∧ n ≤ m)) ∧
    ∀ s' : State, s'.inputs = s.inputs → s'.resolve c = r

/-- R88 to R92, R94, R95, R117: Select Input and Select Class, by the row they lead to: a row not selected, the selected row, and
no row. -/
def Obligations.Selections : Prop :=
  ∀ (s : State) (p : Port) (x : Byte), p ≠ .engine →
    (s.Admits p .selectInput [x] →
      (10 ≤ x.toNat → exec (.selectInput p [x]) s = .next (s.answer p 0x20 [x] ⟨.badArgument, []⟩)) ∧
      (∀ n : Fin 10, n.val = x.toNat → (s.row n).config.enabled = false →
        exec (.selectInput p [x]) s = .next (s.answer p 0x20 [x] ⟨.refusedState, []⟩))) ∧
    (s.Admits p .selectClass [x] →
      (x = 0 → exec (.selectClass p [x]) s = .next (s.answer p 0x21 [x] ⟨.badArgument, []⟩)) ∧
      (x ≠ 0 → (s.resolve x).row = none →
        exec (.selectClass p [x]) s = .next (s.answer p 0x21 [x] ⟨.noMatch, []⟩))) ∧
    ∀ (c : Instr) (code : Byte) (n : Fin 10) (m : SelectMethod) (found : List Byte),
      (c = .selectInput p [x] ∧ code = 0x20 ∧ s.Admits p .selectInput [x] ∧ n.val = x.toNat ∧ m = .direct ∧ found = [] ∧
          (s.row n).config.enabled = true) ∨
        (c = .selectClass p [x] ∧ code = 0x21 ∧ s.Admits p .selectClass [x] ∧ x ≠ 0 ∧ (s.resolve x).row = some n ∧
          m = .byClass x ∧
          found = [x, byteOf n.val, byteOf (s.resolve x).count, flagByte (s.resolve x).ambiguous, flagByte (s.row n).present]) →
      let method : Byte := match m with
        | .direct => 0
        | .byClass y => y
      let auto : Bool := (s.row n).config.timing == .auto
      (s.selectedRow ≠ some n →
        let preset := (s.row n).config.preset
        let g : State := State.recomputeGeometry { s with
          tilt.rowPreset := preset, tilt.index := (s.tilt.bookingPreset.or preset).getD 0, tilt.trims := noTrims }
        let value : Nat := (match (s.row n).config.timing with
            | .auto => 0
            | .fixed i => 16 + i.val) +
          (match m with
            | .direct => 0
            | .byClass _ => 32)
        ∃ t : State, exec c s = .next t ∧
          t.acq = { s.acq with
            selected := some ⟨n, m⟩, selLines := n, strobes := s.acq.strobes + 1, attempts := if auto then 1 else 0
            window := if auto then some ⟨s.acq.params.initialWindow, s.acq.params.initialWindow⟩ else none } ∧
          (∀ k : Fin 10, t.row k = { s.row k with
            status := if k = n then (if auto then .acquiring else .locked)
              else if s.selectedRow = some k then .idle else (s.row k).status }) ∧
          t.tilt = g.tilt ∧ t.queues = (g.post (.inputSelected (some n)) value).queues ∧
          t.ports = s.ports.set p ⟨.replying, keptFrame code [x], none, replyFrame code
            ⟨if auto then .accepted else .ok, found ++ [byteOf n.val, if auto then 1 else 2, method]⟩⟩ ∧
          t.accounts = s.accounts ∧ t.lamps = s.lamps ∧ t.power = s.power ∧ t.lockout = s.lockout ∧ t.clock = s.clock ∧
          t.timetable = s.timetable ∧ t.staging = s.staging ∧ t.store = s.store ∧ t.lines = s.lines) ∧
      (s.selectedRow = some n →
        ((s.row n).status ≠ .noSignal →
          exec c s = .next (({ s with acq.selected := some ⟨n, m⟩ }).answer p code [x]
            ⟨.ok, found ++ [byteOf n.val, byteOf (s.row n).status.number, method]⟩)) ∧
        ((s.row n).status = .noSignal → auto = true →
          exec c s = .next ((({ s with
            acq.selected := some ⟨n, m⟩, acq.strobes := s.acq.strobes + 1, acq.attempts := 1
            acq.window := some ⟨s.acq.params.initialWindow, s.acq.params.initialWindow⟩
            inputs := s.inputs.set n.val { s.row n with status := .acquiring } n.isLt } : State).post (.acquisition n) 1).answer
              p code [x] ⟨.accepted, found ++ [byteOf n.val, 1, method]⟩)))

/-- R88, R97: the expiry of the attempt window. -/
def Obligations.AttemptWindowExpiry : Prop :=
  ∀ s : State, s.powered = true →
    (∀ (x : Selection) (w : AttemptWindow), s.acq.selected = some x → s.acq.window = some w →
      (s.row x.row).status = .acquiring →
      (s.acq.attempts < s.acq.params.attemptLimit →
        exec .acquisitionWindowExpiry s = .next
          (({ s with
            acq.attempts := s.acq.attempts + 1, acq.strobes := s.acq.strobes + 1
            acq.window := some ⟨min 8000 (2 * w.length), min 8000 (2 * w.length)⟩ } : State).post
              (.resyncRequest x.row) (s.acq.attempts + 1))) ∧
      (s.acq.params.attemptLimit ≤ s.acq.attempts →
        exec .acquisitionWindowExpiry s = .next
          (({ s with
            acq.window := none
            inputs := s.inputs.set x.row.val { s.row x.row with status := .noSignal } x.row.isLt } : State).post
              (.acquisition x.row) 3)))

/-- R72, R95, R99, R101: Sync Report, by whether its input is selected and by that row's timing and status. -/
def Obligations.SyncReport : Prop :=
  ∀ (s : State) (x lock : Byte), s.Ready .engine →
    (10 ≤ x.toNat ∨ 1 < lock.toNat →
      exec (.syncReport .engine [x, lock]) s = .next (s.answer .engine 0x80 [x, lock] ⟨.badArgument, []⟩)) ∧
    (∀ n : Fin 10, n.val = x.toNat →
      let becomes (r : InputRow) : Vector InputRow 10 := s.inputs.set n.val r n.isLt
      let live (b : Bool) (st : AcqStatus) : InputRow := ⟨(s.row n).config, b, st⟩
      let start : Option AttemptWindow := some ⟨s.acq.params.initialWindow, s.acq.params.initialWindow⟩
      (s.selectedRow ≠ some n → ∀ b : Bool, lock = flagByte b →
        exec (.syncReport .engine [x, lock]) s = .next (({ s with inputs := becomes (live b (s.row n).status) } : State).answer
          .engine 0x80 [x, lock] ⟨.ok, [lock, 0]⟩)) ∧
      (s.selectedRow = some n →
        ((s.row n).status = .acquiring ∨ (s.row n).status = .noSignal →
          exec (.syncReport .engine [x, 1]) s = .next
            ((({ s with inputs := becomes (live true .locked), acq.window := none, acq.attempts := 0 } : State).post
              (.acquisition n) 2).answer .engine 0x80 [x, 1] ⟨.ok, [1, 2]⟩) ∧
          exec (.syncReport .engine [x, 0]) s = .next
            (s.answer .engine 0x80 [x, 0] ⟨.ok, [flagByte (s.row n).present, byteOf (s.row n).status.number]⟩)) ∧
        ((s.row n).status = .locked →
          exec (.syncReport .engine [x, 1]) s = .next
            (({ s with inputs := becomes (live true .locked) } : State).answer .engine 0x80 [x, 1] ⟨.ok, [1, 2]⟩) ∧
          ((s.row n).config.timing = .auto →
            exec (.syncReport .engine [x, 0]) s = .next
              ((({ s with
                inputs := becomes (live (s.row n).present .acquiring), acq.strobes := s.acq.strobes + 1
                acq.attempts := 1, acq.window := start } : State).post (.acquisition n) 1).answer .engine 0x80 [x, 0]
                  ⟨.ok, [flagByte (s.row n).present, 1]⟩)) ∧
          (∀ (i : Fin 16) (m : SelectMethod), (s.row n).config.timing = .fixed i → s.acq.selected = some ⟨n, m⟩ →
            exec (.syncReport .engine [x, 0]) s = .next
              ((({ s with
                inputs := becomes (live (s.row n).present .locked), acq.strobes := s.acq.strobes + 1
                acq.attempts := 0, acq.window := none } : State).post (.inputSelected (some n))
                  (16 + i.val + match m with
                    | .direct => 0
                    | .byClass _ => 32)).answer .engine 0x80 [x, 0] ⟨.ok, [flagByte (s.row n).present, 2]⟩)))))

/-- R72, R98, R100: Presence Report, with the restart of a NO-SIGNAL row that it finds present, and Set Acquisition Parameters. -/
def Obligations.PresenceAndParameters : Prop :=
  (∀ (s : State) (lo hi : Byte), s.Ready .engine →
    let bits := readU16 lo hi
    (1024 ≤ bits → exec (.presenceReport .engine [lo, hi]) s = .next (s.answer .engine 0x81 [lo, hi] ⟨.badArgument, []⟩)) ∧
    (bits < 1024 →
      let restart : Option (Fin 10) := s.selectedRow.filter (fun n =>
        (s.row n).status == .noSignal && !(s.row n).present && bits.testBit n.val)
      ∃ inputs : Vector InputRow 10,
        (∀ n : Fin 10, inputs[n] = { s.row n with
          present := bits.testBit n.val, status := if restart = some n then .acquiring else (s.row n).status }) ∧
        (restart = none → exec (.presenceReport .engine [lo, hi]) s =
          .next (({ s with inputs := inputs } : State).answer .engine 0x81 [lo, hi] ⟨.ok, [lo, hi]⟩)) ∧
        (∀ n : Fin 10, restart = some n → (s.row n).config.timing = .auto →
          exec (.presenceReport .engine [lo, hi]) s = .next
            ((({ s with
              inputs := inputs, acq.strobes := s.acq.strobes + 1, acq.attempts := 1
              acq.window := some ⟨s.acq.params.initialWindow, s.acq.params.initialWindow⟩ } : State).post
                (.acquisition n) 1).answer .engine 0x81 [lo, hi] ⟨.ok, [lo, hi]⟩)))) ∧
  (∀ (s : State) (w0 w1 limit : Byte), s.Ready .facility →
    let taken : AcqParams := ⟨max 250 (min 4000 (readU16 w0 w1)), max 1 (min 8 limit.toNat)⟩
    exec (.setAcquisitionParameters .facility [w0, w1, limit]) s = .next
      (({ s with acq.params := taken, store.acqParams := some taken } : State).answer .facility 0x24 [w0, w1, limit]
        ⟨if taken = (⟨readU16 w0 w1, limit.toNat⟩ : AcqParams) then .ok else .clamped,
          le16 taken.initialWindow ++ [byteOf taken.attemptLimit]⟩))

/-- R74, R75, R80: the checks of Write Input Row in order, each with its field code and without a change, and the write of a row
that is not selected. -/
def Obligations.WriteInputRow : Prop :=
  ∀ (s : State) (row enabled code mask timing index preset : Byte), s.Ready .facility →
    let req : Instr := .writeInputRow .facility [row, enabled, code, mask, timing, index, preset]
    let refused (k : Byte) : Prop := exec req s = .next (s.answer .facility 0x22 [row, enabled, code, mask, timing, index, preset] ⟨.badArgument, [k]⟩)
    if 9 < row.toNat then refused 1
    else if 1 < enabled.toNat then refused 2
    else if enabled = 1 ∧ code = 0 then refused 3
    else if 1 < timing.toNat then refused 4
    else if timing = 1 ∧ 15 < index.toNat then refused 5
    else if 7 < preset.toNat ∧ preset ≠ 0xFF then refused 6
    else ∀ (n : Fin 10) (time : Timing) (pr : Option (Fin 8)), n.val = row.toNat →
      ((timing = 0 ∧ time = .auto) ∨ ∃ i : Fin 16, timing = 1 ∧ i.val = index.toNat ∧ time = .fixed i) →
      ((preset = 0xFF ∧ pr = none) ∨ ∃ k : Fin 8, k.val = preset.toNat ∧ pr = some k) →
      s.selectedRow ≠ some n →
        let inputs := s.inputs.set n.val
          { s.row n with config := ⟨enabled == 1, code, mask, time, pr⟩ } n.isLt
        exec req s = .next (({ s with
          inputs := inputs, store.inputRows := some (mapVector InputRow.config inputs) } : State).answer .facility 0x22 [row, enabled, code, mask, timing, index, preset]
            ⟨.ok, [row, 0, inputRefByte s.selectedRow]⟩)

/-- R75 to R79, R90, R95, R101: the consequences of a rewrite of the selected row, each with the whole state it leaves: it is
disabled, it keeps the selection with or without a new timing or preset, or it no longer matches the class it was selected by and
the class resolves to another row or to none. The order of INPUT-SELECTED and ACQUISITION at a restart to FIXED, and of
INPUT-SELECTED and GEOMETRY-CHANGED at a clearing, is the model's choice (log 31). -/
def Obligations.RewriteOfTheSelectedRow : Prop :=
  ∀ (s : State) (n : Fin 10) (m : SelectMethod) (new : RowConfig), s.Ready .facility → s.acq.selected = some ⟨n, m⟩ →
    (new.enabled = true → new.classCode ≠ 0) →
    let payload : List Byte := [byteOf n.val, flagByte new.enabled, new.classCode, new.classMask] ++ (match new.timing with
      | .auto => [0, 0]
      | .fixed i => [1, byteOf i.val]) ++ [presetRefByte new.preset]
    let req : Instr := .writeInputRow .facility payload
    let old := (s.row n).config
    let rowAs (status : AcqStatus) : Vector InputRow 10 := s.inputs.set n.val ⟨new, (s.row n).present, status⟩ n.isLt
    let written : State := { s with
      inputs := rowAs (s.row n).status, store.inputRows := some (mapVector InputRow.config (rowAs (s.row n).status)) }
    let amount (m : SelectMethod) : Nat := match m with
      | .direct => 0
      | .byClass _ => 32
    let initial : Option AttemptWindow := some ⟨s.acq.params.initialWindow, s.acq.params.initialWindow⟩
    let reply (t : State) (k : Byte) (rest : List Byte) : State :=
      t.answer .facility 0x22 payload ⟨.ok, [byteOf n.val, k, inputRefByte t.selectedRow] ++ rest⟩
    let keeps : Prop := new.enabled = true ∧ ∀ c, m = .byClass c → c &&& new.classMask = new.classCode &&& new.classMask
    let preset (t : State) : State :=
      if new.preset = old.preset then t else t.handPresets s.tilt.bookingPreset new.preset false
    let told (t : State) (status : AcqStatus) : State :=
      if (s.row n).status = status then t else t.post (.acquisition n) status.number
    let cleared (cause : Nat) : State :=
      (({ written with
        inputs := rowAs .idle, acq := { s.acq with selected := none, attempts := 0, window := none } } : State).post
          (.inputSelected none) cause).handPresets s.tilt.bookingPreset none true
    (keeps → new.timing = old.timing → exec req s = .next (reply (preset written) 0 [])) ∧
    (keeps → new.timing ≠ old.timing →
      (new.timing = .auto → exec req s = .next (reply (preset (told { written with
        inputs := rowAs .acquiring
        acq := { s.acq with strobes := s.acq.strobes + 1, attempts := 1, window := initial } } .acquiring)) 4 [])) ∧
      (∀ i : Fin 16, new.timing = .fixed i → exec req s = .next (reply (preset (told (State.post { written with
        inputs := rowAs .locked
        acq := { s.acq with strobes := s.acq.strobes + 1, attempts := 0, window := none } }
          (.inputSelected (some n)) (16 + i.val + amount m)) .locked)) 4 []))) ∧
    (new.enabled = false → exec req s = .next (reply (cleared 1) 1 [])) ∧
    (∀ c : Byte, m = .byClass c → new.enabled = true → c &&& new.classMask ≠ new.classCode &&& new.classMask →
      let r := written.resolve c
      (∀ k : Fin 10, r.row = some k →
        let auto : Bool := (s.row k).config.timing == .auto
        let left : State := { written with
          inputs := (rowAs .idle).set k.val { s.row k with status := if auto then .acquiring else .locked } k.isLt
          acq := { s.acq with
            selected := some ⟨k, .byClass c⟩, selLines := k, strobes := s.acq.strobes + 1
            attempts := if auto then 1 else 0, window := if auto then initial else none } }
        k ≠ n ∧ exec req s = .next (reply
          ((left.handPresets s.tilt.bookingPreset (s.row k).config.preset true).post (.inputSelected (some k))
            (32 + match (s.row k).config.timing with
              | .auto => 0
              | .fixed i => 16 + i.val)) 2 r.bytes)) ∧
      (r.row = none → exec req s = .next (reply (cleared 2) 3 r.bytes)))

/-- R73, R113, R164, R175, R177: the reads of an input row, of a preset and of the live table; nothing changes. -/
def Obligations.TableReads : Prop :=
  ∀ (s : State) (p : Port) (x : Byte), s.Ready p →
    (9 < x.toNat → exec (.readInputRow p [x]) s = .next (s.answer p 0x23 [x] ⟨.badArgument, []⟩)) ∧
    (∀ n : Fin 10, n.val = x.toNat →
      let r := s.row n
      exec (.readInputRow p [x]) s = .next (s.answer p 0x23 [x] ⟨.ok,
        [x, flagByte r.config.enabled, r.config.classCode, r.config.classMask] ++ (match r.config.timing with
          | .auto => [0, 0xFF]
          | .fixed i => [1, byteOf i.val])
        ++ [presetRefByte r.config.preset, flagByte r.present, byteOf r.status.number,
            flagByte (s.selectedRow == some n)]⟩)) ∧
    (7 < x.toNat → exec (.readPreset p [x]) s = .next (s.answer p 0x33 [x] ⟨.badArgument, []⟩)) ∧
    (∀ n : Fin 8, n.val = x.toNat →
      let t := s.tilt.presets[n].trims
      exec (.readPreset p [x]) s = .next (s.answer p 0x33 [x] ⟨.ok,
        [x, presetModeByte s.tilt.presets[n].mode]
        ++ leS16 t.tl.dx ++ leS16 t.tl.dy ++ leS16 t.tr.dx ++ leS16 t.tr.dy ++ leS16 t.br.dx ++ leS16 t.br.dy
        ++ leS16 t.bl.dx ++ leS16 t.bl.dy ++ [flagByte (n == s.tilt.index)]⟩)) ∧
    (s.timetable.table = [] → exec (.readBookings p [x]) s = .next (s.answer p 0x43 [x] ⟨.empty, []⟩)) ∧
    (s.timetable.table ≠ [] → s.timetable.table.length ≤ x.toNat →
      exec (.readBookings p [x]) s = .next (s.answer p 0x43 [x] ⟨.badArgument, []⟩)) ∧
    (x.toNat < s.timetable.table.length →
      let out := (s.timetable.table.rotate x.toNat).take 4
      exec (.readBookings p [x]) s = .next (s.answer p 0x43 [x] ⟨.ok,
        [byteOf s.timetable.table.length, x, byteOf out.length] ++ out.flatMap (fun b =>
          le16 b.config.id ++ le16 b.config.start ++ le16 b.config.stop
          ++ [byteOf b.config.lead, b.config.sourceClass, presetRefByte b.config.preset, byteOf b.config.lockout.val,
              bookingModeByte b.config.mode, flagByte b.config.autoOff, byteOf b.extension, flagByte b.dismissed])⟩))

/-! ### Tilt and geometry (06) -/

/-- R118, R119: the keystone computation and the record it forms. -/
def Obligations.KeystoneArithmetic : Prop :=
  (16000 * 4095 + 2048) / 4096 = 15996 ∧
  ∀ t : Tilt,
    let preset := t.presets[t.index]
    let d := t.settled - t.calibration.levelCount
    let a : Nat := if preset.mode = .autoTrim ∧ t.homed = true then (d.natAbs * t.calibration.kfac + 2048) / 4096 else 0
    let inset : Int := min (a : Int) 480
    let top : Int := if 0 < d then inset else 0
    let bottom : Int := if d < 0 then inset else 0
    let sum (x : Int) (p q : Offset) : Offset := ⟨x + p.dx + q.dx, p.dy + q.dy⟩
    let clip (x : Offset) : Offset := ⟨max 0 (min 480 x.dx), max 0 (min 300 x.dy)⟩
    let tl := sum top preset.trims.tl t.trims.tl
    let tr := sum top preset.trims.tr t.trims.tr
    let br := sum bottom preset.trims.br t.trims.br
    let bl := sum bottom preset.trims.bl t.trims.bl
    (preset.mode = .off →
      t.form = ⟨⟨⟨0, 0⟩, ⟨0, 0⟩, ⟨0, 0⟩, ⟨0, 0⟩⟩, false, false, false, .off, t.index, t.record.generation⟩) ∧
    (preset.mode ≠ .off →
      t.form = ⟨⟨clip tl, clip tr, clip br, clip bl⟩, preset.mode == .autoTrim && !t.homed, decide (480 < a),
        clip tl != tl || clip tr != tr || clip br != br || clip bl != bl, preset.mode, t.index, t.record.generation⟩)

/-- R114, R115, R117, R120: a recomputation; the applied preset index, derived from the presets named; Nudge Corner and Clear
Session Trims. -/
def Obligations.TrimsAndRecomputation : Prop :=
  (∀ s : State,
    let next := (s.tilt.record.generation + 1) % 256
    (s.tilt.form = s.tilt.record → s.recomputeGeometry = s) ∧
    (s.tilt.form ≠ s.tilt.record → s.recomputeGeometry =
      ({ s with tilt.record := { s.tilt.form with generation := next } } : State).post .geometryChanged next)) ∧
  (∀ (s : State) (booking row : Option (Fin 8)) (clear : Bool),
    let index : Fin 8 := match booking, row with
      | some b, _ => b
      | none, some r => r
      | none, none => 0
    let named : State := { s with tilt.bookingPreset := booking, tilt.rowPreset := row, tilt.index := index }
    s.handPresets booking row clear =
      if index ≠ s.tilt.index ∨ clear = true then ({ named with tilt.trims := noTrims } : State).recomputeGeometry else named) ∧
  (∀ (s : State) (p : Port) (c x y : Byte), p ≠ .engine → s.Ready p → (p = .panel → s.lockout.effective ≤ 1) →
    (3 < c.toNat → exec (.nudgeCorner p [c, x, y]) s = .next (s.answer p 0x30 [c, x, y] ⟨.badArgument, []⟩)) ∧
    (∀ i : Fin 4, i.val = c.toNat →
      let sumX := (s.tilt.trims.get i).dx + x.toInt
      let sumY := (s.tilt.trims.get i).dy + y.toInt
      let dx := max (-64) (min 64 sumX)
      let dy := max (-64) (min 64 sumY)
      let g : State := ({ s with tilt.trims := s.tilt.trims.set i ⟨dx, dy⟩ } : State).recomputeGeometry
      exec (.nudgeCorner p [c, x, y]) s = .next (g.answer p 0x30 [c, x, y]
        ⟨if dx = sumX ∧ dy = sumY then .ok else .clamped,
          [BitVec.ofInt 8 dx, BitVec.ofInt 8 dy, byteOf g.tilt.record.generation]⟩))) ∧
  (∀ (s : State) (p : Port), p ≠ .engine → s.Ready p → (p = .panel → s.lockout.effective ≤ 1) →
    let g : State := ({ s with tilt.trims := noTrims } : State).recomputeGeometry
    exec (.clearSessionTrims p []) s = .next (g.answer p 0x31 [] ⟨.ok, [byteOf g.tilt.record.generation]⟩))

/-- R108, R111, R112, R116: Write Preset, Store Session Trims, Set Keystone Calibration and Arm Homing. -/
def Obligations.PresetsAndCalibration : Prop :=
  let clip (x : Offset) : Offset := ⟨max (-480) (min 480 x.dx), max (-300) (min 300 x.dy)⟩
  let bytes (x : PerCorner Offset) : List Byte := leS16 x.tl.dx ++ leS16 x.tl.dy ++ leS16 x.tr.dx ++ leS16 x.tr.dy
    ++ leS16 x.br.dx ++ leS16 x.br.dy ++ leS16 x.bl.dx ++ leS16 x.bl.dy
  (∀ (s : State) (number mode : Byte) (trims : PerCorner Offset), s.Ready .facility →
    (∀ i : Fin 4, -32768 ≤ (trims.get i).dx ∧ (trims.get i).dx < 32768 ∧ -32768 ≤ (trims.get i).dy ∧
      (trims.get i).dy < 32768) →
    let req : Instr := .writePreset .facility (number :: mode :: bytes trims)
    (7 < number.toNat → exec req s = .next (s.answer .facility 0x32 (number :: mode :: bytes trims) ⟨.badArgument, [1]⟩)) ∧
    (number.toNat ≤ 7 → 2 < mode.toNat → exec req s = .next (s.answer .facility 0x32 (number :: mode :: bytes trims) ⟨.badArgument, [2]⟩)) ∧
    (∀ (n : Fin 8) (m : PresetMode), n.val = number.toNat →
      (mode, m) ∈ [((0 : Byte), PresetMode.autoTrim), (1, .trimOnly), (2, .off)] →
      let taken : PerCorner Offset := ⟨clip trims.tl, clip trims.tr, clip trims.br, clip trims.bl⟩
      let presets := s.tilt.presets.set n.val ⟨m, taken⟩ n.isLt
      let written : State := { s with tilt.presets := presets, store.presets := some presets }
      let g : State := if n = s.tilt.index then written.recomputeGeometry else written
      exec req s = .next (g.answer .facility 0x32 (number :: mode :: bytes trims)
        ⟨if taken = trims then .ok else .clamped, number :: mode :: (bytes taken ++ [byteOf g.tilt.record.generation])⟩))) ∧
  (∀ s : State, s.Ready .facility →
    let old := s.tilt.presets[s.tilt.index]
    let sum (i : Fin 4) : Offset :=
      ⟨(old.trims.get i).dx + (s.tilt.trims.get i).dx, (old.trims.get i).dy + (s.tilt.trims.get i).dy⟩
    let taken : PerCorner Offset := ⟨clip (sum 0), clip (sum 1), clip (sum 2), clip (sum 3)⟩
    let presets := s.tilt.presets.set s.tilt.index.val ⟨old.mode, taken⟩ s.tilt.index.isLt
    let g : State := ({ s with tilt.presets := presets, store.presets := some presets, tilt.trims := noTrims } : State).recomputeGeometry
    exec (.storeSessionTrims .facility []) s = .next (g.answer .facility 0x34 []
      ⟨if taken = ⟨sum 0, sum 1, sum 2, sum 3⟩ then .ok else .clamped,
        byteOf s.tilt.index.val :: presetModeByte old.mode :: (bytes taken ++ [byteOf g.tilt.record.generation])⟩)) ∧
  (∀ (s : State) (l0 l1 k0 k1 o0 o1 : Byte), s.Ready .facility →
    let level := max (-8000) (min 8000 (readS16 l0 l1))
    let kfac := min 4095 (readU16 k0 k1)
    let offset := max (-8000) (min 8000 (readS16 o0 o1))
    let moved : Bool := offset != s.tilt.calibration.indexOffset
    let g : State := ({ s with
      tilt.calibration := ⟨level, kfac, offset⟩, tilt.homed := s.tilt.homed && !moved, tilt.armed := s.tilt.armed || moved
      store.calibration := some ⟨level, kfac, offset⟩ } : State).recomputeGeometry
    exec (.setKeystoneCalibration .facility [l0, l1, k0, k1, o0, o1]) s = .next (g.answer .facility 0x35 [l0, l1, k0, k1, o0, o1]
      ⟨if level = readS16 l0 l1 ∧ kfac = readU16 k0 k1 ∧ offset = readS16 o0 o1 then .ok else .clamped,
        leS16 level ++ le16 kfac ++ leS16 offset ++ [flagByte (s.tilt.homed && !moved), flagByte (s.tilt.armed || moved),
          byteOf g.tilt.record.generation]⟩)) ∧
  (∀ s : State, s.Ready .facility →
    exec (.armHoming .facility []) s = .next (({ s with tilt.armed := true } : State).answer .facility 0x36 []
      ⟨.ok, [flagByte s.tilt.homed, 1]⟩))

/-- R105, R106, R107, R109: steps, skips and refused steps of the encoder, the index pulse, and the settle timer. -/
def Obligations.EncoderIndexAndSettling : Prop :=
  ∀ s : State, s.powered = true →
    let fault (x : State) (v : Nat) : State := x.post .tiltFault v
    (∀ (ta tb : Bool) (step_ : Int),
      ((s.lines.ta, s.lines.tb), (ta, tb), step_) ∈
        [((false, false), (true, false), (1 : Int)), ((true, false), (true, true), 1), ((true, true), (false, true), 1),
         ((false, true), (false, false), 1), ((false, false), (false, true), -1), ((false, true), (true, true), -1),
         ((true, true), (true, false), -1), ((true, false), (false, false), -1)] →
      let at_ : State := { s with lines.ta := ta, lines.tb := tb }
      (-8000 ≤ s.tilt.count + step_ → s.tilt.count + step_ ≤ 8000 →
        exec (.encoderStep ta tb) s = .next { at_ with tilt.count := s.tilt.count + step_, tilt.settle := some 500 }) ∧
      (s.tilt.count + step_ < -8000 ∨ 8000 < s.tilt.count + step_ →
        exec (.encoderStep ta tb) s = .next (fault { at_ with tilt.homed := false } 1).recomputeGeometry)) ∧
    (exec (.encoderStep (!s.lines.ta) (!s.lines.tb)) s =
      .next (fault { s with lines.ta := !s.lines.ta, lines.tb := !s.lines.tb } 3)) ∧
    (let o := s.tilt.calibration.indexOffset
     let counted : State :=
      if s.tilt.count = o then s else { s with tilt.count := o, tilt.settle := some 500 }
     (s.tilt.armed = true → exec .indexPulse s =
        .next ({ counted with tilt.homed := true, tilt.armed := false } : State).recomputeGeometry) ∧
     (s.tilt.armed = false → s.tilt.homed = true →
        (4 < (s.tilt.count - o).natAbs → exec .indexPulse s = .next (fault counted 2).recomputeGeometry) ∧
        ((s.tilt.count - o).natAbs ≤ 4 → exec .indexPulse s = .next counted.recomputeGeometry)) ∧
     (s.tilt.armed = false → s.tilt.homed = false → exec .indexPulse s = .next s)) ∧
    (s.tilt.settle ≠ none →
      exec .settleTimerExpiry s = .next
        (if s.tilt.count = s.tilt.settled then { s with tilt.settle := none }
        else ({ s with tilt.settle := none, tilt.settled := s.tilt.count } : State).recomputeGeometry))

/-- R67, R110, R121, R131, R165: Read Status, Read Geometry, Read Corners, Read Tilt, Read Lockout and Read Schedule State on any port,
at any effective level; nothing changes but the port. Read Lockout carries the eight bytes that R177 lists (log 23). -/
def Obligations.StatusGeometryLockoutAndScheduleReads : Prop :=
  (∀ (s : State) (p : Port), s.Ready p →
     let powerByte := s.power.state.number + (if s.power.held then 16 else 0) + (if s.power.degraded then 32 else 0)
     let demandByte := (if s.power.demand.panel then 1 else 0) + (if s.power.demand.schedule then 2 else 0)
       + (if s.power.demand.facility then 4 else 0)
     exec (.readStatus p []) s = .next (s.answer p 0x01 [] ⟨.ok,
       [byteOf powerByte, byteOf demandByte, levelByte s.power.level, flagByte s.power.blank,
        byteOf (s.lampState .a).number, byteOf (s.lampState .b).number,
        match s.selectedRow with
          | some n => byteOf n.val
          | none => 0xFF,
        match s.selectedRow with
          | some n => byteOf (s.row n).status.number
          | none => 0,
        byteOf s.lockout.effective.val, byteOf s.timetable.state.number, byteOf (s.queues.get p).notices.length]⟩)) ∧
  (∀ (s : State) (p : Port), s.Ready p →
     let corner (x : Offset) : List Byte := leS16 x.dx ++ leS16 x.dy
     let r := s.tilt.record
     let tl := corner r.corners.tl
     let tr := corner r.corners.tr
     let br := corner r.corners.br
     let bl := corner r.corners.bl
     exec (.readGeometry p []) s = .next (s.answer p 0x37 [] ⟨.ok, tl ++ tr ++ br ++ bl
       ++ [byteOf ((if r.autoInactive then 1 else 0) + (if r.limit then 2 else 0) + (if r.clamped then 4 else 0)),
           presetModeByte r.mode, byteOf r.index.val, byteOf r.generation]⟩) ∧
     (∀ (x : Byte) (order : List Byte),
       (x, order) ∈ [((0 : Byte), tl ++ tr ++ br ++ bl), (1, tr ++ br ++ bl ++ tl), (2, br ++ bl ++ tl ++ tr),
         (3, bl ++ tl ++ tr ++ br)] →
       exec (.readCorners p [x]) s = .next (s.answer p 0x38 [x] ⟨.ok, [x] ++ order ++ [byteOf r.generation]⟩)) ∧
     (∀ x : Byte, 3 < x.toNat → exec (.readCorners p [x]) s = .next (s.answer p 0x38 [x] ⟨.badArgument, []⟩)) ∧
     exec (.readTilt p []) s = .next (s.answer p 0x39 [] ⟨.ok, leS16 s.tilt.count ++ leS16 s.tilt.settled
       ++ [flagByte s.tilt.homed, flagByte s.tilt.armed, flagByte s.tilt.settle.isSome]
       ++ leS16 s.tilt.calibration.indexOffset ++ leS16 s.tilt.calibration.levelCount⟩) ∧
     (let length : Nat := match s.lockout.window with
       | some w => w.length
       | none => 0
      let remaining : Nat := match s.lockout.window with
       | some w => w.remaining
       | none => 0
      exec (.readLockout p []) s = .next (s.answer p 0x53 [] ⟨.ok,
       [byteOf s.lockout.effective.val, byteOf s.lockout.manual.val, byteOf s.lockout.bookingLevel.val,
        s.lockout.bookingClass, flagByte s.lockout.window.isSome, byteOf length] ++ le16 remaining⟩)) ∧
     (let id : Nat := match s.activeBooking with
       | some b => b.config.id
       | none => 0
      let extension : Nat := match s.activeBooking with
       | some b => b.extension
       | none => 0
      let dismissed : Bool := match s.activeBooking with
       | some b => b.dismissed
       | none => false
      (∀ i ∈ s.timetable.active, ∃ b ∈ s.timetable.table, b.config.id = i) →
      exec (.readScheduleState p []) s = .next (s.answer p 0x42 [] ⟨.ok,
       [byteOf s.timetable.state.number] ++ le16 s.clock.minute ++ [byteOf s.clock.second, flagByte s.clock.valid,
         byteOf s.timetable.cursor] ++ le16 id ++ [byteOf extension, flagByte dismissed,
         byteOf s.timetable.table.length, flagByte s.staging.isOpen, byteOf s.staging.bookings.length]⟩)))

/-! ### Lockout (07) -/

/-- R125, R126, R127, R129, R130: the requests and the expiry that change the manual claim and the service window. -/
def Obligations.LockoutRequests : Prop :=
  ∀ s : State,
    let becomes (manual : Fin 4) (window : Option ServiceWindow) : Lockout :=
      { s.lockout with
        manual := manual, window := window
        effective := if window = none then max manual s.lockout.bookingLevel else 0 }
    let value (x : Lockout) : Nat := x.effective.val + (if x.window = none then 0 else 16)
    let told (y : State) : State :=
      if value y.lockout = value s.lockout then y else y.post .lockoutChanged (value y.lockout)
    (s.Ready .facility →
      (∀ (x : Byte) (n : Fin 4), n.val = x.toNat →
        let after := becomes n s.lockout.window
        exec (.setManualLockout .facility [x]) s = .next
          ((told { s with lockout := after, store.manualClaim := some n }).answer .facility 0x50 [x]
            ⟨.ok, [x, byteOf after.effective.val]⟩)) ∧
      (∀ x : Byte, 3 < x.toNat →
        exec (.setManualLockout .facility [x]) s = .next (s.answer .facility 0x50 [x] ⟨.badArgument, []⟩)) ∧
      (∀ x : Byte,
        let length := max 1 (min 120 x.toNat)
        exec (.openServiceWindow .facility [x]) s = .next
          ((told { s with lockout := becomes s.lockout.manual (some ⟨length, 60 * length⟩) }).answer .facility 0x51 [x]
            ⟨if length = x.toNat then .ok else .clamped, [byteOf length, 0]⟩)) ∧
      (s.lockout.Current →
        exec (.closeServiceWindow .facility []) s = .next
          ((told { s with lockout := becomes s.lockout.manual none }).answer .facility 0x52 []
            ⟨.ok, [byteOf (max s.lockout.manual s.lockout.bookingLevel).val]⟩))) ∧
    (s.powered = true →
      (s.lockout.window ≠ none →
        exec .serviceWindowExpiry s = .next (told { s with lockout := becomes s.lockout.manual none })))

/-! ### The timetable (08, 09) -/

/-- R143, R145, R146, R147: the minute tick at a booking's lead minute and at its start, while no lamp is LIT and another claim
keeps the lamps as they are. -/
def Obligations.TicksLeadAndStartBookings : Prop :=
  ∀ (s : State) (first : TickTaker) (b : Booking), s.powered = true → s.BlankLegal → s.clock.minute < 10080 →
    (∀ l : Lamp, s.lampState l ≠ .lit) → s.timetable.active = none → b.config.Legal →
    s.power.demand.panel = true ∨ s.power.demand.facility = true →
    let m := if s.clock.minute = 10079 then 0 else s.clock.minute + 1
    let cursor := if m = 0 then 0 else s.timetable.cursor
    let i := if cursor < s.timetable.table.length then cursor else 0
    s.timetable.table[i]? = some b →
    (0 < b.config.lead → (b.config.start + 10080 - b.config.lead) % 10080 = m →
      s.timetable.state = .idle ∨ s.timetable.state = .grace →
      exec (.minuteTick first) s = .next
        (({ s with
          clock := ⟨m, 0, s.clock.valid⟩, power.demand := { s.power.demand with schedule := true }
          timetable := { s.timetable with cursor := cursor, state := .lead, grace := none } } : State).post
            (.booking b.config.id) 1)) ∧
    (b.config.start = m → s.timetable.state = .idle ∨ s.timetable.state = .lead ∨ s.timetable.state = .grace →
      ∃ t : State, exec (.minuteTick first) s = .next t ∧
        t.timetable = { s.timetable with
          cursor := i, state := .active, active := some b.config.id, grace := none
          table := s.timetable.table.map (fun x => if x.config.id = b.config.id then ⟨x.config, 0, false⟩ else x) } ∧
        t.power = { s.power with
          demand := { s.power.demand with schedule := true }, blankTimer := none, blankSpent := false
          level := match b.config.mode with
            | .default => s.power.level
            | .full => .full
            | .eco => .eco } ∧
        t.lockout = { s.lockout with
          bookingLevel := b.config.lockout, bookingClass := b.config.sourceClass
          effective := if s.lockout.window = none then max s.lockout.manual b.config.lockout else 0 } ∧
        t.tilt.bookingPreset = b.config.preset ∧
        (b.config.sourceClass = 0 ∨ (s.resolve b.config.sourceClass).row = none → t.acq = s.acq ∧ t.inputs = s.inputs) ∧
        (∀ n : Fin 10, b.config.sourceClass ≠ 0 → (s.resolve b.config.sourceClass).row = some n →
          t.acq.selected = some ⟨n, .byClass b.config.sourceClass⟩) ∧
        ((s.queues.get .facility).notices.length ≤ 8 → ∃ n ∈ (t.queues.get .facility).notices,
          n.topic = .booking b.config.id ∧ n.value =
            if b.config.sourceClass ≠ 0 ∧ (s.resolve b.config.sourceClass).row = none then 4 else 2) ∧
        t.clock = ⟨m, 0, s.clock.valid⟩ ∧ t.accounts = s.accounts ∧ t.lamps = s.lamps ∧ t.staging = s.staging ∧
        t.ports = s.ports ∧ t.store = s.store ∧ t.lines = s.lines)

/-- R55, R145, R148: the minute tick at the end of the only booking, by its auto-off field and its dismissed mark, and at the end
of a booking whose successor's lead window has begun. The projector is out of STANDBY and a claim remains. -/
def Obligations.TicksEndBookings : Prop :=
  ∀ (s : State) (first : TickTaker) (b : Booking) (rest : List Booking), s.powered = true → s.clock.minute < 10079 →
    (∀ l : Lamp, s.lampState l ≠ .lit) → s.timetable.state = .active → s.timetable.active = some b.config.id →
    s.timetable.table = b :: rest → s.timetable.cursor = 0 → s.timetable.grace = none →
    let m := s.clock.minute + 1
    b.config.stop + b.extension = m → b.config.start < b.config.stop → b.config.lead = 0 →
    s.power.state ≠ .standby → s.power.demand.schedule = !b.dismissed →
    s.power.demand.panel = true ∨ s.power.demand.facility = true ∨ b.dismissed = false →
    let ended (t : State) : Prop :=
      t.timetable.table = ⟨b.config, 0, false⟩ :: rest ∧ t.timetable.active = none ∧ t.timetable.cursor = 1 ∧
      t.lockout = { s.lockout with
        bookingLevel := 0, bookingClass := 0, effective := if s.lockout.window = none then s.lockout.manual else 0 } ∧
      t.tilt.bookingPreset = none ∧ t.acq = s.acq ∧ t.inputs = s.inputs ∧ t.clock = ⟨m, 0, s.clock.valid⟩ ∧
      t.accounts = s.accounts ∧ t.lamps = s.lamps ∧ t.store = s.store ∧ t.ports = s.ports ∧ t.staging = s.staging ∧
      t.lines = s.lines ∧ t.BlankLegal ∧
      ((s.queues.get .facility).notices.length ≤ 8 → ∃ n ∈ (t.queues.get .facility).notices,
        n.topic = .booking b.config.id ∧ n.value = 3)
    (rest = [] → b.config.autoOff = true → b.dismissed = false → 0 < s.power.settings.autoOffGrace →
      ∃ t : State, exec (.minuteTick first) s = .next t ∧ ended t ∧ t.timetable.state = .grace ∧
        t.timetable.grace = some (60 * s.power.settings.autoOffGrace) ∧ t.power.demand = s.power.demand) ∧
    (rest = [] → b.config.autoOff = false ∨ b.dismissed = true →
      ∃ t : State, exec (.minuteTick first) s = .next t ∧ ended t ∧ t.timetable.state = .idle ∧ t.timetable.grace = none ∧
        t.power.demand = { s.power.demand with
          schedule := false, panel := s.power.demand.panel || (!b.config.autoOff && !b.dismissed) }) ∧
    (∀ c : Booking, rest = [c] → b.config.autoOff = false → c.config.id ≠ b.config.id →
      m < c.config.start → c.config.start ≤ m + c.config.lead →
      c.config.start < 10080 → c.config.lead ≤ 30 →
      ∃ t : State, exec (.minuteTick first) s = .next t ∧ ended t ∧ t.timetable.state = .lead ∧
        t.power.demand = { s.power.demand with
          schedule := true, panel := s.power.demand.panel || !b.dismissed } ∧
        ((s.queues.get .facility).notices.length ≤ 8 → ∃ n ∈ (t.queues.get .facility).notices,
          n.topic = .booking c.config.id ∧ n.value = 1))

/-- R149, R151: the expiry of the grace timer beside another claim, and Extend Booking. -/
def Obligations.GraceExpiryAndExtension : Prop :=
  (∀ s : State, s.powered = true → s.BlankLegal →
    (s.timetable.state = .grace → s.timetable.active = none → s.power.demand.schedule = true →
      s.power.demand.panel = true ∨ s.power.demand.facility = true →
      let awaited := s.timetable.table[if s.timetable.cursor < s.timetable.table.length then s.timetable.cursor else 0]?
      let leads (b : Booking) : Prop := 1 ≤ (b.config.start + 10080 - s.clock.minute) % 10080 ∧
        (b.config.start + 10080 - s.clock.minute) % 10080 ≤ b.config.lead
      (∀ b : Booking, awaited = some b → leads b → exec .graceExpiry s = .next
        (({ s with timetable := { s.timetable with state := .lead, grace := none } } : State).post (.booking b.config.id) 1)) ∧
      ((∀ b : Booking, awaited = some b → ¬ leads b) → exec .graceExpiry s = .next
        { s with
          timetable := { s.timetable with state := .idle, grace := none }
          power.demand := { s.power.demand with schedule := false } }))) ∧
  (∀ (s : State) (p : Port), p ≠ .engine → s.Ready p → (p = .panel → s.lockout.effective ≤ 2) →
    let bytes (id extension stop : Nat) : List Byte := le16 id ++ [byteOf extension] ++ le16 stop
    (s.timetable.active = none → exec (.extendBooking p []) s = .next (s.answer p 0x40 [] ⟨.refusedState, []⟩)) ∧
    (∀ (before after : List Booking) (b : Booking), s.timetable.table = before ++ b :: after →
      s.timetable.active = some b.config.id → (∀ x ∈ before, x.config.id ≠ b.config.id) →
      (∀ x ∈ after, x.config.id ≠ b.config.id) →
      let stop := b.config.stop + b.extension + 15
      let next := match after with
        | [] => 10080
        | n :: _ => n.config.start
      (60 < b.extension + 15 ∨ 10080 < stop ∨ next < stop →
        exec (.extendBooking p []) s = .next (s.answer p 0x40 []
          ⟨.conflict, bytes b.config.id b.extension (b.config.stop + b.extension)⟩)) ∧
      (b.extension + 15 ≤ 60 → stop ≤ 10080 → stop ≤ next →
        exec (.extendBooking p []) s = .next
          ((({ s with timetable.table := before ++ { b with extension := b.extension + 15 } :: after } : State).post
            (.booking b.config.id) 5).answer p 0x40 [] ⟨.ok, bytes b.config.id (b.extension + 15) stop⟩))))

/-- R140, R152, R153, R154: Set Time and Set Schedule Enable: where no re-evaluation runs, where it finds nothing to do, where it
starts the booking that contains the present minute, and where the enable is turned off inside a booking; and every re-evaluation
that they run, as `State.Reevaluates` says: the active booking ended or kept, LEAD entered, GRACE or IDLE. The model's inferences: the
awaited booking compared by id (log 21), the order in which a kept booking is re-applied (log 25), the cursor 0 in NO-TIME (log 29), and
a kept extension counted where the changed end alone has passed (log 36). -/
def Obligations.TimeAndScheduleEnable : Prop :=
  ∀ s : State, s.Ready .facility → s.BlankLegal →
    let starts (t : State) (i : Nat) (b : Booking) : Prop :=
      t.timetable.state = .active ∧ t.timetable.active = some b.config.id ∧ t.timetable.cursor = i ∧
      t.power.demand.schedule = true ∧ t.lockout.bookingLevel = b.config.lockout ∧
      t.lockout.bookingClass = b.config.sourceClass ∧ t.tilt.bookingPreset = b.config.preset
    let inside (b : Booking) (m : Nat) : Prop := b.config.start ≤ m ∧ m < b.config.stop
    let leadRunning (x : State) : Option Nat :=
      if x.timetable.state = .lead then
        (x.timetable.table[if x.timetable.cursor < x.timetable.table.length then x.timetable.cursor else 0]?).map
          (fun b => b.config.id)
      else none
    (∀ m0 m1 sec : Byte,
      let minute := min 10079 (readU16 m0 m1)
      let second := min 59 sec.toNat
      let reply (t : State) (id : Nat) : State := t.answer .facility 0x41 [m0, m1, sec]
        ⟨if minute = readU16 m0 m1 ∧ second = sec.toNat then .ok else .clamped,
          le16 minute ++ [byteOf second, 1, byteOf t.timetable.state.number] ++ le16 id⟩
      (s.timetable.state = .disabled → s.timetable.active = none →
        exec (.setTime .facility [m0, m1, sec]) s = .next (reply { s with clock := ⟨minute, second, true⟩ } 0)) ∧
      (s.timetable.state = .noTime ∨ s.timetable.state = .idle → s.timetable.active = none → s.timetable.table = [] →
        s.power.demand.schedule = false →
        exec (.setTime .facility [m0, m1, sec]) s = .next (reply { s with
          clock := ⟨minute, second, true⟩
          timetable := { s.timetable with state := .idle, cursor := 0, grace := none } } 0)) ∧
      (∀ (i : Nat) (b : Booking), s.timetable.state ≠ .disabled → s.timetable.active = none → tableLegal s.timetable.table →
        s.timetable.table[i]? = some b → inside b minute →
        ∃ t : State, exec (.setTime .facility [m0, m1, sec]) s = .next (reply t b.config.id) ∧ starts t i b ∧
          t.clock = ⟨minute, second, true⟩) ∧
      (s.timetable.state ≠ .disabled →
        let set : State := { s with
          clock := ⟨minute, second, true⟩
          timetable := if s.timetable.state = .noTime then { s.timetable with state := .idle, cursor := 0 } else s.timetable }
        ∃ t : State, exec (.setTime .facility [m0, m1, sec]) s = .next (reply t (t.timetable.active.getD 0)) ∧
          set.Reevaluates s.activeBooking (leadRunning s) t)) ∧
    (∀ x : Byte, 1 < x.toNat →
      exec (.setScheduleEnable .facility [x]) s = .next (s.answer .facility 0x49 [x] ⟨.badArgument, []⟩)) ∧
    (exec (.setScheduleEnable .facility [flagByte s.timetable.enable]) s = .next
      (({ s with store.scheduleEnable := some s.timetable.enable } : State).answer .facility 0x49 [flagByte s.timetable.enable]
        ⟨.ok, [flagByte s.timetable.enable, byteOf s.timetable.state.number]⟩)) ∧
    (s.timetable.enable = false → s.clock.valid = false →
      exec (.setScheduleEnable .facility [1]) s = .next (({ s with
        store.scheduleEnable := some true
        timetable := { s.timetable with enable := true, state := .noTime, cursor := 0 } } : State).answer .facility 0x49 [1]
          ⟨.ok, [1, 1]⟩)) ∧
    (∀ (i : Nat) (b : Booking), s.timetable.enable = false → s.clock.valid = true → s.timetable.active = none →
      tableLegal s.timetable.table → s.timetable.table[i]? = some b → inside b s.clock.minute →
      ∃ t : State, exec (.setScheduleEnable .facility [1]) s = .next (t.answer .facility 0x49 [1] ⟨.ok, [1, 4]⟩) ∧ starts t i b ∧
        t.timetable.enable = true ∧ t.store.scheduleEnable = some true) ∧
    (s.timetable.enable = false → s.clock.valid = true →
      let enabled : State := { s with
        store.scheduleEnable := some true
        timetable := { s.timetable with enable := true, state := .idle, cursor := 0 } }
      ∃ t : State, exec (.setScheduleEnable .facility [1]) s =
          .next (t.answer .facility 0x49 [1] ⟨.ok, [1, byteOf t.timetable.state.number]⟩) ∧
        enabled.Reevaluates none none t) ∧
    (s.timetable.enable = true →
      (s.timetable.active = none → s.power.demand.schedule = false →
        exec (.setScheduleEnable .facility [0]) s = .next (({ s with
          store.scheduleEnable := some false
          timetable := { s.timetable with enable := false, state := .disabled, cursor := 0, grace := none } } : State).answer
            .facility 0x49 [0] ⟨.ok, [0, 0]⟩)) ∧
      (∀ b : Booking, s.activeBooking = some b →
        ∃ t : State, exec (.setScheduleEnable .facility [0]) s = .next (t.answer .facility 0x49 [0] ⟨.ok, [0, 0]⟩) ∧
          t.timetable.enable = false ∧ t.timetable.state = .disabled ∧ t.timetable.active = none ∧ t.timetable.cursor = 0 ∧
          t.timetable.grace = none ∧ t.power.demand = { s.power.demand with schedule := false } ∧
          t.lockout.bookingLevel = 0 ∧ t.lockout.bookingClass = 0 ∧ t.tilt.bookingPreset = none ∧
          t.store.scheduleEnable = some false))

/-- R157, R158, R159, R160: Stage Begin and Stage Append, the refusal of a commit in CLOSED, and the three passes of a commit. -/
def Obligations.StagingAndCommitChecks : Prop :=
  (∀ s : State, s.Ready .facility →
    exec (.stageBegin .facility []) s = .next
      (({ s with staging := ⟨true, []⟩ } : State).answer .facility 0x44 [] ⟨.ok, [0]⟩) ∧
    (s.staging.isOpen = false →
      exec (.stageCommit .facility []) s = .next (s.answer .facility 0x46 [] ⟨.refusedState, []⟩)) ∧
    (∀ i0 i1 s0 s1 e0 e1 lead c preset lockout mode off x y : Byte,
      let req : Instr := .stageAppend .facility [i0, i1, s0, s1, e0, e1, lead, c, preset, lockout, mode, off, x, y]
      let count := s.staging.bookings.length
      (s.staging.isOpen = false → exec req s = .next (s.answer .facility 0x45 [i0, i1, s0, s1, e0, e1, lead, c, preset, lockout, mode, off, x, y] ⟨.refusedState, []⟩)) ∧
      (s.staging.isOpen = true → 48 ≤ count → exec req s = .next (s.answer .facility 0x45 [i0, i1, s0, s1, e0, e1, lead, c, preset, lockout, mode, off, x, y] ⟨.full, []⟩)) ∧
      (s.staging.isOpen = true → count < 48 → exec req s = .next
        (({ s with staging.bookings := s.staging.bookings ++
          [⟨i0.toNat + 256 * i1.toNat, s0.toNat + 256 * s1.toNat, e0.toNat + 256 * e1.toNat, lead.toNat, c, preset, lockout,
            mode, off⟩] } : State).answer .facility 0x45 [i0, i1, s0, s1, e0, e1, lead, c, preset, lockout, mode, off, x, y] ⟨.ok, [byteOf count, byteOf (count + 1)]⟩)))) ∧
  (∀ x : RawBooking,
    if x.id = 0 then x.check = .error 1
    else if 10079 < x.start then x.check = .error 2
    else if x.stop ≤ x.start ∨ 10080 < x.stop then x.check = .error 3
    else if 30 < x.lead then x.check = .error 4
    else if 7 < x.preset.toNat ∧ x.preset ≠ 0xFF then x.check = .error 5
    else if 3 < x.lockout.toNat then x.check = .error 6
    else if 2 < x.mode.toNat then x.check = .error 7
    else if 1 < x.autoOff.toNat then x.check = .error 8
    else ∃ c : BookingConfig, x.check = .ok c ∧ c.id = x.id ∧ c.start = x.start ∧ c.stop = x.stop ∧ c.lead = x.lead ∧
      c.sourceClass = x.sourceClass ∧ presetRefByte c.preset = x.preset ∧ byteOf c.lockout.val = x.lockout ∧
      bookingModeByte c.mode = x.mode ∧ flagByte c.autoOff = x.autoOff) ∧
  (∀ (l : List RawBooking) (i : Nat) (x : RawBooking) (k : Nat), l[i]? = some x → x.check = .error k →
    (∀ (j : Nat) (y : RawBooking), j < i → l[j]? = some y → ∃ c, y.check = .ok c) →
    checkStaged l = .error ⟨.badArgument, k, i, none⟩) ∧
  (∀ (l : List RawBooking) (cs : List BookingConfig), l.length = cs.length →
    (∀ (i : Nat) (x : RawBooking) (c : BookingConfig), l[i]? = some x → cs[i]? = some c → x.check = .ok c) →
    (∀ (i j : Nat) (x y : RawBooking), l[i]? = some x → l[j]? = some y → i < j → x.id = y.id →
      ((l.take j).map RawBooking.id).Nodup → checkStaged l = .error ⟨.conflict, 16, j, some i⟩) ∧
    ((l.map RawBooking.id).Nodup →
      (cs.Pairwise (fun c d => c.stop ≤ d.start ∨ d.stop ≤ c.start) →
        ∃ table, checkStaged l = .ok table ∧ table.Perm cs ∧ table.Pairwise (fun c d => c.stop ≤ d.start)) ∧
      (¬ cs.Pairwise (fun c d => c.stop ≤ d.start ∨ d.stop ≤ c.start) →
        ∃ (i j : Nat) (x y : RawBooking), checkStaged l = .error ⟨.conflict, 17, i, some j⟩ ∧ i ≠ j ∧
          l[i]? = some x ∧ l[j]? = some y ∧ y.start ≤ x.start ∧ x.start < y.stop)))

/-- R161, R162, R163: a commit refused and a commit made, Insert Booking and Delete Booking: the table, its save, and the reply, in
every schedule state; the whole effect where no re-evaluation runs; and elsewhere the re-evaluation of the new table with the
previous active booking, as `State.Reevaluates` says (R153, R154). The model's inferences: the awaited booking compared by id (log 21),
the order in which a kept booking is re-applied (log 25), and a kept extension counted where the changed end alone has passed (log 36). -/
def Obligations.CommitInsertAndDelete : Prop :=
  ∀ s : State, s.Ready .facility →
    let configs (t : State) : List BookingConfig := t.timetable.table.map (fun b => b.config)
    let tail (t : State) : List Byte :=
      [byteOf t.timetable.state.number] ++ le16 (t.timetable.active.getD 0) ++ [byteOf t.timetable.cursor]
    let count (t : State) : Byte := byteOf t.timetable.table.length
    let idle : Prop := s.timetable.state = .disabled ∨ s.timetable.state = .noTime
    let ran : Option Nat :=
      if s.timetable.state = .lead then
        (s.timetable.table[if s.timetable.cursor < s.timetable.table.length then s.timetable.cursor else 0]?).map
          (fun b => b.config.id)
      else none
    let amended (table : List Booking) : State := { s with
      timetable.table := table, store.liveTable := some (table.map (fun b => b.config)) }
    (∀ e : CommitFailure, s.staging.isOpen = true → checkStaged s.staging.bookings = .error e →
      exec (.stageCommit .facility []) s = .next (s.answer .facility 0x46 []
        ⟨e.status, [byteOf e.kind, byteOf e.index, match e.other with
          | some j => byteOf j
          | none => 0xFF]⟩)) ∧
    (∀ cs : List BookingConfig, s.staging.isOpen = true → checkStaged s.staging.bookings = .ok cs →
      (∃ t : State, exec (.stageCommit .facility []) s = .next (t.answer .facility 0x46 [] ⟨.ok, count t :: tail t⟩) ∧
        configs t = cs ∧ t.store.liveTable = some cs ∧ t.staging = ⟨false, []⟩) ∧
      let committed : State := ({ s with
        timetable.table := cs.map (fun c => ⟨c, 0, false⟩), store.liveTable := some cs
        staging := ⟨false, []⟩ } : State).post .scheduleCommitted cs.length
      (idle →
        exec (.stageCommit .facility []) s =
          .next (committed.answer .facility 0x46 [] ⟨.ok, count committed :: tail committed⟩)) ∧
      (¬ idle →
        ∃ t : State, exec (.stageCommit .facility []) s = .next (t.answer .facility 0x46 [] ⟨.ok, count t :: tail t⟩) ∧
          committed.Reevaluates s.activeBooking ran t)) ∧
    (∀ (d : List Byte) (x : RawBooking), readBooking d = some x →
      let req : Instr := .insertBooking .facility d
      let refused (y : Answer) : Prop := exec req s = .next (s.answer .facility 0x47 d y)
      (∀ k : Nat, x.check = .error k → refused ⟨.badArgument, [byteOf k]⟩) ∧
      (∀ c : BookingConfig, x.check = .ok c →
        (48 ≤ s.timetable.table.length → refused ⟨.full, []⟩) ∧
        (s.timetable.table.length < 48 →
          (c.id ∈ (configs s).map BookingConfig.id → refused ⟨.conflict, 16 :: le16 c.id⟩) ∧
          (c.id ∉ (configs s).map BookingConfig.id →
            let overlaps (b : Booking) : Prop := c.start < b.config.stop + b.extension ∧ b.config.start < c.stop
            ((∃ b ∈ s.timetable.table, overlaps b) →
              ∃ b ∈ s.timetable.table, overlaps b ∧ refused ⟨.conflict, 17 :: le16 b.config.id⟩) ∧
            (∀ before after : List Booking, s.timetable.table = before ++ after →
              (∀ b ∈ before, b.config.start < c.start) → (∀ b ∈ after, c.start < b.config.start) →
              (∀ b ∈ s.timetable.table, ¬ overlaps b) →
              (∃ t : State,
                exec req s = .next (t.answer .facility 0x47 d ⟨.ok, byteOf before.length :: count t :: tail t⟩) ∧
                configs t = before.map (fun b => b.config) ++ c :: after.map (fun b => b.config) ∧
                t.store.liveTable = some (configs t) ∧ t.staging = s.staging) ∧
              (let inserted := amended (before ++ ⟨c, 0, false⟩ :: after)
               (idle → exec req s = .next (inserted.answer .facility 0x47 d
                 ⟨.ok, byteOf before.length :: count inserted :: tail inserted⟩)) ∧
               (¬ idle → ∃ t : State,
                 exec req s = .next (t.answer .facility 0x47 d ⟨.ok, byteOf before.length :: count t :: tail t⟩) ∧
                 inserted.Reevaluates s.activeBooking ran t))))))) ∧
    (∀ i0 i1 : Byte,
      let req : Instr := .deleteBooking .facility [i0, i1]
      let id := i0.toNat + 256 * i1.toNat
      (id ∉ (configs s).map BookingConfig.id → exec req s = .next (s.answer .facility 0x48 [i0, i1] ⟨.noMatch, []⟩)) ∧
      (id ∈ (configs s).map BookingConfig.id →
        (∃ t : State, exec req s = .next (t.answer .facility 0x48 [i0, i1] ⟨.ok, count t :: tail t⟩) ∧
          configs t = (configs s).filter (fun c => c.id ≠ id) ∧ t.store.liveTable = some (configs t) ∧
          t.staging = s.staging) ∧
        (let deleted := amended (s.timetable.table.filter (fun b => b.config.id ≠ id))
         (idle → exec req s = .next (deleted.answer .facility 0x48 [i0, i1] ⟨.ok, count deleted :: tail deleted⟩)) ∧
         (¬ idle → ∃ t : State, exec req s = .next (t.answer .facility 0x48 [i0, i1] ⟨.ok, count t :: tail t⟩) ∧
           deleted.Reevaluates s.activeBooking ran t))))

/-! ### Resets and loss of power -/

/-- R23, R49, R69, R86, R103, R123, R136, R156, R166, R173, R183: Service Reset: the state that it makes of every block,
which is the state it leaves where no re-evaluation runs; with the enable on and the time valid, the re-evaluation that begins in
that state (R153). That the re-evaluation is part of the reset's own step, as spec/95_what_each_step_holds.md lists it, is the model's
choice (log 32: R173 calls it an event of its own), and that the cursor is 0 in NO-TIME its inference (log 29). -/
def Obligations.ServiceReset : Prop :=
  ∀ s : State, s.Ready .facility →
    let burning (l : Lamp) : Bool := s.lampState l == .lit || s.lampState l == .striking
    let resting (l : Lamp) : Bool := s.condition l == .dark || s.condition l == .failed 0
    let state : PowerState := if resting .a && resting .b then .standby else .coolingDown
    let schedule : ScheduleState := if s.timetable.enable then (if s.clock.valid then .idle else .noTime) else .disabled
    let reply (x : State) : State :=
      x.answer .facility 0x70 [] ⟨.ok, [byteOf x.power.number, byteOf x.timetable.state.number]⟩
    ∃ t : State,
      (s.timetable.enable = false ∨ s.clock.valid = false → exec (.serviceReset .facility []) s = .next (reply t)) ∧
      (s.timetable.enable = true → s.clock.valid = true →
        ∃ u : State, exec (.serviceReset .facility []) s = .next (reply u) ∧ t.Reevaluates none none u) ∧
      (∀ l : Lamp, (t.lamps.lamp.get l).sessionDropouts = 0 ∧
        t.condition l = if burning l then .cooling s.lamps.params.coolDown false
          else match s.condition l with
            | .cooling timer _ => .cooling timer false
            | c => c) ∧
      t.lamps.thermalHold = false ∧ t.lamps.params = s.lamps.params ∧
      t.accounts = { s.accounts with litTicks := if burning .a || burning .b then 0 else s.accounts.litTicks } ∧
      t.store = { s.store with
        accounts := if burning .a || burning .b then some s.accounts.saved else s.store.accounts } ∧
      t.power =
        { demand := ⟨false, false, false⟩, state := state, held := false, degraded := false, session := ⟨false, false⟩
          latched := none, level := s.power.level, blank := false, blankTimer := none, blankSpent := false
          settings := s.power.settings } ∧
      (∀ n : Fin 10, t.row n = ⟨(s.row n).config, false, .idle⟩) ∧
      t.acq = { s.acq with selected := none, attempts := 0, window := none } ∧
      t.tilt = { s.tilt with
        armed := true, settle := none, trims := noTrims, bookingPreset := none, rowPreset := none, index := 0
        record := t.tilt.record } ∧ t.tilt.record = t.tilt.form ∧ t.tilt.record.generation = 0 ∧
      t.lockout = ⟨s.lockout.manual, 0, 0, none, s.lockout.manual⟩ ∧
      t.timetable = ⟨s.timetable.enable, s.timetable.table.map (fun b => ⟨b.config, 0, false⟩), 0, schedule, none, none⟩ ∧
      t.staging = ⟨false, []⟩ ∧ t.queues = ⟨⟨[], 0, 0⟩, ⟨[], 0, 0⟩, ⟨[], 0, 0⟩⟩ ∧ t.handed = s.handed ∧ t.clock = s.clock ∧
      t.lines = s.lines ∧ t.ports = s.ports ∧ t.powered = true ∧ t.pending = s.pending

/-- R23, R50, R69, R86, R103, R123, R136, R156, R166, R174, R183: Factory Reset in STANDBY: the state that it makes of every block,
which is the state it leaves where the thermal hold was clear or no demand waits; a demand that waits is re-checked in that state once
the hold is released (R50, R57; the order of the two lamps there and of their notices: logs 5 and 8, the model's choices). Its refusal
in every other power state, with the power state byte (log 24). -/
def Obligations.FactoryReset : Prop :=
  ∀ s : State, s.Ready .facility →
    (s.power.state ≠ .standby → exec (.factoryReset .facility []) s =
      .next (s.answer .facility 0x71 [] ⟨.refusedState, [byteOf s.power.number]⟩)) ∧
    (s.power.state = .standby → s.power.degraded = false →
      let held : Bool := s.power.held && s.power.demand != ⟨false, true, false⟩
      let rows : Vector RowConfig 10 := Vector.replicate 10 ⟨false, 0, 255, .auto, none⟩
      let presets : Vector Preset 8 := Vector.replicate 8 ⟨.autoTrim, noTrims⟩
      let settings : PowerSettings := ⟨.full, .alternate, 20, 10⟩
      let reply (x : State) (number : Byte) : State := x.answer .facility 0x71 [] ⟨.ok, [number]⟩
      ∃ t : State,
        (s.lamps.thermalHold = false ∨ (t.power.demand = ⟨false, false, false⟩ ∧ held = false) →
          exec (.factoryReset .facility []) s = .next (reply t (if held then 16 else 0))) ∧
        (s.lamps.thermalHold = true → t.Waits →
          ∃ u : State, exec (.factoryReset .facility []) s = .next (reply u (byteOf u.power.number)) ∧ t.Rechecks u) ∧
        t.accounts = s.accounts ∧ t.lamps = ⟨s.lamps.lamp, false, ⟨120, 3⟩⟩ ∧
        t.power = { s.power with
          demand := { s.power.demand with schedule := false }, held := held, level := .full, blank := false
          blankTimer := none, blankSpent := false, settings := settings } ∧
        (∀ n : Fin 10, t.row n = ⟨⟨false, 0, 255, .auto, none⟩, false, .idle⟩) ∧
        t.acq = { s.acq with selected := none, attempts := 0, window := none, params := ⟨1000, 4⟩ } ∧
        t.tilt = { s.tilt with
          homed := false, armed := true, settle := none, trims := noTrims, bookingPreset := none, rowPreset := none
          index := 0, calibration := ⟨0, 600, 0⟩, presets := presets, record := t.tilt.record } ∧
        t.tilt.record = t.tilt.form ∧ t.tilt.record.generation = 0 ∧
        t.lockout = ⟨0, 0, 0, none, 0⟩ ∧ t.timetable = ⟨false, [], 0, .disabled, none, none⟩ ∧ t.staging = ⟨false, []⟩ ∧
        t.queues = ⟨⟨[], 0, 0⟩, ⟨[], 0, 0⟩, ⟨[], 0, 0⟩⟩ ∧ t.handed = s.handed ∧
        t.store = ⟨s.store.accounts, some ⟨120, 3⟩, some settings, some rows, some ⟨1000, 4⟩, some ⟨0, 600, 0⟩, some presets,
          some 0, some false, some []⟩ ∧
        t.clock = s.clock ∧ t.lines = s.lines ∧ t.powered = true ∧ t.pending = s.pending ∧ t.ports = s.ports)

/-- R22, R48, R68, R85, R102, R122, R135, R139, R155, R166, R167, R172, R183: power-on and hardware reset from any state: the
state that they make of every block, with the manual claim alone in force; what the PANEL request makes of it that the gap of R135
admits (log 32), if there is one; and where the enable is on and the time valid the re-evaluation that begins there (R153). The cursor
is 0 in NO-TIME too (log 29), and a TIME-INVALID waits where the command queue holds its admission (log 34). Loss of power, between
saves and inside one; and (the model's choices, logs 6, 7 and 12) what a part without power takes, and that `State.reset` is what
power-on makes of itself. -/
def Obligations.PowerUpAndLossOfPower : Prop :=
  (∀ (s : State) (good : Bool) (reset : Option (Byte × List Byte) → Instr),
    (reset = fun gap => .powerOnReset ⟨good, gap⟩) ∨ (reset = (fun gap => .hardwareReset ⟨good, gap⟩) ∧ s.powered = true) →
    let clock : WeekClock := if good then s.clock else ⟨0, 0, false⟩
    let enable : Bool := s.store.scheduleEnable.getD false
    let saved : SavedAccounts := s.store.accounts.getD ⟨⟨newAccount, newAccount⟩, ⟨10, 15⟩, [], 0⟩
    let params : LampParams := s.store.lampParams.getD ⟨120, 3⟩
    let settings : PowerSettings := s.store.powerSettings.getD ⟨.full, .alternate, 20, 10⟩
    let manual : Fin 4 := s.store.manualClaim.getD 0
    newAccount = ⟨0, 0, 0, 0, 0, 3000, 300, 100⟩ ∧
    ∃ t : State,
      (let ends (gap : Option (Byte × List Byte)) (before : State) : Prop :=
        (enable = false ∨ clock.valid = false → exec (reset gap) s = .next before) ∧
        (enable = true → clock.valid = true →
          ∃ u : State, exec (reset gap) s = .next u ∧ before.Reevaluates none none u)
       ends none t ∧
       ∀ (code : Byte) (d : List Byte), d.length ≤ 64 →
        ∃ before : State, exec (decodeFrame .panel code d) t = .next before ∧ ends (some (code, d)) before) ∧
      t.accounts = ⟨saved.lamps, ⟨saved.lamps.a.lifeState, saved.lamps.b.lifeState⟩, saved.weights, saved.history,
        saved.replacements, none, 0⟩ ∧
      t.lamps = ⟨⟨⟨.cooling params.coolDown false, 0⟩, ⟨.cooling params.coolDown false, 0⟩⟩, false, params⟩ ∧
      t.power =
        { demand := ⟨false, false, false⟩, state := .coolingDown, held := false, degraded := false
          session := ⟨false, false⟩, latched := none, level := settings.defaultLevel, blank := false, blankTimer := none
          blankSpent := false, settings := settings } ∧
      (∀ n : Fin 10, t.row n =
        ⟨(s.store.inputRows.getD (Vector.replicate 10 ⟨false, 0, 255, .auto, none⟩))[n], false, .idle⟩) ∧
      t.acq = ⟨none, 0, none, s.store.acqParams.getD ⟨1000, 4⟩, 0, 0⟩ ∧
      t.tilt =
        { count := 0, homed := false, armed := true, settle := none, settled := 0, trims := noTrims, bookingPreset := none
          rowPreset := none, index := 0, record := t.tilt.record
          calibration := s.store.calibration.getD ⟨0, 600, 0⟩
          presets := s.store.presets.getD (Vector.replicate 8 ⟨.autoTrim, noTrims⟩) } ∧
      t.tilt.record = t.tilt.form ∧ t.tilt.record.generation = 0 ∧
      t.lockout = ⟨manual, 0, 0, none, manual⟩ ∧ t.clock = clock ∧
      t.timetable = ⟨enable, (s.store.liveTable.getD []).map (fun x => ⟨x, 0, false⟩), 0,
        if enable then (if clock.valid then .idle else .noTime) else .disabled, none, none⟩ ∧
      t.staging = ⟨false, []⟩ ∧
      t.ports = ⟨⟨.hunt, [], none, []⟩, ⟨.hunt, [], none, []⟩, ⟨.hunt, [], none, []⟩⟩ ∧
      (let waits : Bool := s.pending.any (fun c => c == .noticeAdmission .facility .timeInvalid 0)
       let told : List Notice := if good then [] else [⟨.timeInvalid, 0, 0⟩]
       t.queues = ⟨⟨[], 0, 0⟩, ⟨if waits then [] else told, 0, 0⟩, ⟨[], 0, 0⟩⟩ ∧
       t.handed = ⟨[], if waits then told else [], []⟩) ∧
      t.store = s.store ∧ t.lines = { s.lines with backupGood := good } ∧ t.powered = true ∧ t.pending = s.pending) ∧
  (∀ (s : State) (done : List StoreUnit), s.powered = true →
    (∃ t : State, exec (.lossOfPower none done) s = .next t ∧ t.powered = false ∧ t.store = s.store ∧ t.clock = s.clock ∧
      t.lines = s.lines) ∧
    (∀ (code : Byte) (d : List Byte), s.Ready .facility → d.length ≤ 64 →
      ∃ t u : State, exec (decodeFrame .facility code d) s = .next u ∧
        exec (.lossOfPower (some (code, d)) done) s = .next t ∧ t.powered = false ∧ t.clock = s.clock ∧ t.lines = s.lines ∧
        let pick {α : Type} (x : StoreUnit) (f : Store → α) : α := if x ∈ done then f u.store else f s.store
        t.store = ⟨pick .accounts Store.accounts, pick .lampParams Store.lampParams, pick .powerSettings Store.powerSettings,
          pick .inputRows Store.inputRows, pick .acqParams Store.acqParams, pick .geometry Store.calibration,
          pick .geometry Store.presets, pick .manualClaim Store.manualClaim, pick .timetable Store.scheduleEnable,
          pick .timetable Store.liveTable⟩)) ∧
  (∀ (s : State) (c : Instr) (l : Lamp) (ta tb : Bool) (first : TickTaker), s.powered = false →
    ((∀ g, c ≠ .powerOnReset g) → (∀ m, c ≠ .litRise m ∧ c ≠ .litFall m) → (∀ x y, c ≠ .encoderStep x y) →
      (∀ f, c ≠ .minuteTick f) → exec c s = .next s) ∧
    exec (.litRise l) s = .next { s with lines.lit := s.lines.lit.set l true } ∧
    exec (.litFall l) s = .next { s with lines.lit := s.lines.lit.set l false } ∧
    exec (.encoderStep ta tb) s = .next { s with lines.ta := ta, lines.tb := tb } ∧
    exec (.minuteTick first) s = .next { s with clock := ⟨(s.clock.minute + 1) % 10080, 0, s.clock.valid⟩ }) ∧
  exec (.powerOnReset ⟨false, none⟩) State.reset = .next State.reset

/-! ### What every step keeps -/

/-- R180, R182: every queue keeps its limits and its distinct topics at every step. R178, log 34: and every notice that waits has a
NOTICE_ADMISSION of its own to come. -/
def Obligations.QueuesStayLegal : Prop :=
  (∀ s t : State, s.QueuesLegal → step s = .next t → t.QueuesLegal) ∧
  (∀ s t : State, s.HandedLegal → step s = .next t → t.HandedLegal)

/-- R1, R2, R7, R20, R21: the accounts, the weights, the history, the counts and what is saved of them stay in range. -/
def Obligations.AccountsStayInRange : Prop := ∀ s t : State, s.AccountsLegal → step s = .next t → t.AccountsLegal

/-- R125: the effective level is at every step the one that the claims and the window form. -/
def Obligations.LockoutStaysCurrent : Prop := ∀ s t : State, s.lockout.Current → step s = .next t → t.lockout.Current

/-- R104, R117, R119, R120: at every step the applied preset index is the one that the presets named give, and the geometry record
is the one that the settled tilt, the homing, the calibration, the preset and the trims form; separately, the record's corners and
generation stay in range, and so do the counts and the index offsets. -/
def Obligations.GeometryStaysCurrent : Prop :=
  (∀ s t : State, s.tilt.Current → step s = .next t → t.tilt.Current) ∧
  (∀ s t : State, s.tilt.record.Legal → step s = .next t → t.tilt.record.Legal) ∧
  (∀ s t : State, s.TiltLegal → step s = .next t → t.TiltLegal)

/-- R10: at every step each lamp's life state is the one that its account gives. -/
def Obligations.LifeStatesStayCurrent : Prop := ∀ s t : State, s.LifeCurrent → step s = .next t → t.LifeCurrent

/-- R71, R87, R89: at every step the selected input is an enabled row, it alone is not IDLE, and an attempt window runs exactly
while it is ACQUIRING. -/
def Obligations.SelectionStaysLegal : Prop :=
  ∀ s t : State, s.SelectionLegal ∧ s.WindowLegal → step s = .next t → t.SelectionLegal ∧ t.WindowLegal

/-- R46, R56, R60, R65: at every step STANDBY has both lamps at rest, an empty session and no latched policy; and, separately, the
blank timer stands as its four conditions require. -/
def Obligations.StandbyAndBlankTimerStayLegal : Prop :=
  (∀ s t : State, s.StandbyLegal → step s = .next t → t.StandbyLegal) ∧
  (∀ s t : State, s.BlankLegal → step s = .next t → t.BlankLegal)

/-- R137, R141, R142: at every step the clock is in range; the schedule state agrees with the enable, time-valid, the active booking
and the grace timer; the active booking is in the live table; the table is in order, distinct and free of overlaps; extensions and
dismissals outside the active booking are clear; the table in the store is legal; and, with all that, the SCHEDULE claim is the one
of the schedule state. -/
def Obligations.ScheduleStaysLegal : Prop :=
  (∀ s t : State, s.clock.Legal → step s = .next t → t.clock.Legal) ∧
  (∀ s t : State, s.TimetableLegal → step s = .next t → t.TimetableLegal) ∧
  (∀ s t : State, s.TimetableLegal → s.ClaimLegal → step s = .next t → t.ClaimLegal)

/-- R7: no command but a reset, a loss of power or Lamp Replaced for lamp `l` lowers a counter of its account, in any receive state of
the ports; a FACILITY port in the middle of a frame is not sent the bytes that may complete it, since that frame may be Lamp
Replaced. -/
def Obligations.CountersNeverFall : Prop :=
  ∀ (s t : State) (c : Instr) (l : Lamp), s.AccountsLegal → c.wf = true → exec c s = .next t →
    (s.ports.facility.receive = .hunt ∨ s.ports.facility.receive = .replying ∨
      ((∀ code d, c.frame? ≠ some (.facility, code, d)) ∧
        (s.ports.facility.receive = .check → ∀ b, c ≠ .portByteReceived .facility b))) →
    (∀ g, c ≠ .powerOnReset g ∧ c ≠ .hardwareReset g) → (∀ cut done, c ≠ .lossOfPower cut done) →
    c ≠ .lampReplaced .facility [lampByte l] →
    (s.account l).wear ≤ (t.account l).wear ∧ (s.account l).fullMinutes ≤ (t.account l).fullMinutes ∧
    (s.account l).ecoMinutes ≤ (t.account l).ecoMinutes ∧ (s.account l).strikes ≤ (t.account l).strikes ∧
    (s.account l).dropouts ≤ (t.account l).dropouts

/-- The state after reset has every one of these properties. -/
def Obligations.ResetMeetsTheInvariants : Prop :=
  State.reset.QueuesLegal ∧ State.reset.HandedLegal ∧ State.reset.AccountsLegal ∧ State.reset.lockout.Current ∧ State.reset.tilt.Current ∧
  State.reset.tilt.record.Legal ∧ State.reset.TiltLegal ∧ State.reset.LifeCurrent ∧ State.reset.SelectionLegal ∧
  State.reset.WindowLegal ∧ State.reset.StandbyLegal ∧ State.reset.BlankLegal ∧ State.reset.clock.Legal ∧
  State.reset.TimetableLegal ∧ State.reset.ClaimLegal
end

