-- ==== Sys2Proof/Laws/Frames.lean ====
section
/-! SUPPORT. Frames and the request catalogue: the way from a request to its code and back (R171), the check byte (R168, R169),
and what a command that is a frame does (R170). -/

namespace Sys2Proof

/-- R171: the catalogue lists every request under its code, and nothing else under it. -/
theorem lookupCode_code (r : Request) : ∃ row : CatalogueRow, lookupCode r.code = some row ∧ row.request = r ∧ row.code = r.code := by
  cases r <;> exact ⟨_, rfl, rfl, rfl⟩

/-- R171: the code of a request spells that request, on any port and with any payload. -/
theorem decodeFrame_code (r : Request) (p : Port) (d : List Byte) : decodeFrame p r.code d = Instr.ofRequest r p d := by
  obtain ⟨row, h, hr, -⟩ := lookupCode_code r
  simp only [decodeFrame, h, hr]

/-- R170: a code outside the catalogue spells the unknown request. -/
theorem decodeFrame_unknown {code : Byte} (h : lookupCode code = none) (p : Port) (d : List Byte) :
    decodeFrame p code d = .unknownRequest p code d := by
  simp only [decodeFrame, h]

/-- The frame of a request carries its port, its code and its payload. -/
@[simp] theorem frame?_ofRequest (r : Request) (p : Port) (d : List Byte) :
    (Instr.ofRequest r p d).frame? = some (p, r.code, d) := by
  cases r <;> rfl

/-- R168: a request is well formed when its payload fits in a frame. -/
@[simp] theorem wf_ofRequest (r : Request) (p : Port) (d : List Byte) : (Instr.ofRequest r p d).wf = payloadOk d := by
  cases r <;> rfl

/-- A sum that starts from nothing. -/
@[simp] theorem Byte.zero_add (b : Byte) : 0 + b = b := BitVec.zero_add b

/-- The sum of the bytes of a frame, from any start. -/
theorem foldl_add_start (bytes : List Byte) (x : Byte) : bytes.foldl (· + ·) x = x + bytes.foldl (· + ·) 0 := by
  induction bytes generalizing x with
  | nil => simp
  | cons b rest ih => rw [List.foldl_cons, List.foldl_cons, ih (x + b), ih (0 + b), Byte.zero_add, BitVec.add_assoc]

/-- R168: the sum of a byte and what follows. -/
@[simp] theorem frameSum_cons (b : Byte) (rest : List Byte) : frameSum (b :: rest) = b + frameSum rest := by
  simp only [frameSum, List.foldl_cons]
  rw [foldl_add_start, Byte.zero_add]

/-- R168: the sum of two runs of bytes. -/
@[simp] theorem frameSum_append (a b : List Byte) : frameSum (a ++ b) = frameSum a + frameSum b := by
  simp only [frameSum, List.foldl_append]
  exact foldl_add_start b _

/-- R168, R169: a check byte that is the negated sum makes the whole sum 0. -/
theorem frameSum_check (body : List Byte) : frameSum (body ++ [0 - frameSum body]) = 0 := by
  have h : frameSum [0 - frameSum body] = 0 - frameSum body := by
    simp only [frameSum, List.foldl_cons, List.foldl_nil]; exact Byte.zero_add _
  rw [frameSum_append, h, BitVec.add_comm, BitVec.sub_add_cancel]

end Sys2Proof
end

