-- ==== Sys2Proof/Laws/State.lean ====
section
/-! SUPPORT. One lemma per field per named update of State: which fields an update leaves as they were. -/

namespace Sys2Proof.Machine

/-! ### Items per lamp and port -/

@[simp] theorem PerLamp.get_set_same {α : Type} (x : PerLamp α) (l : Lamp) (v : α) : (x.set l v).get l = v := by cases l <;> rfl

@[simp] theorem PerLamp.get_set_other {α : Type} (x : PerLamp α) (l : Lamp) (v : α) : (x.set l v).get l.other = x.get l.other := by
  cases l <;> rfl

theorem PerLamp.get_set_ne {α : Type} (x : PerLamp α) {l m : Lamp} (v : α) (h : m ≠ l) : (x.set l v).get m = x.get m := by
  cases l <;> cases m <;> first | rfl | exact absurd rfl h

@[simp] theorem PerLamp.set_get {α : Type} (x : PerLamp α) (l : Lamp) : x.set l (x.get l) = x := by cases l <;> rfl

@[simp] theorem PerLamp.get_map {α β : Type} (f : α → β) (x : PerLamp α) (l : Lamp) : (x.map f).get l = f (x.get l) := by
  cases l <;> rfl

@[simp] theorem PerPort.get_set_same {α : Type} (x : PerPort α) (p : Port) (v : α) : (x.set p v).get p = v := by cases p <;> rfl

theorem PerPort.get_set_ne {α : Type} (x : PerPort α) {p q : Port} (v : α) (h : q ≠ p) : (x.set p v).get q = x.get q := by
  cases p <;> cases q <;> first | rfl | exact absurd rfl h

@[simp] theorem PerPort.set_get {α : Type} (x : PerPort α) (p : Port) : x.set p (x.get p) = x := by cases p <;> rfl

@[simp] theorem PerPort.set_set {α : Type} (x : PerPort α) (p : Port) (v w : α) : (x.set p v).set p w = x.set p w := by cases p <;> rfl

/-! ### A queue takes a notice -/

@[simp] theorem State.admitAt_accounts (s : State) (p : Port) (n : Notice) : (s.admitAt p n).accounts = s.accounts := rfl
@[simp] theorem State.admitAt_lamps (s : State) (p : Port) (n : Notice) : (s.admitAt p n).lamps = s.lamps := rfl
@[simp] theorem State.admitAt_power (s : State) (p : Port) (n : Notice) : (s.admitAt p n).power = s.power := rfl
@[simp] theorem State.admitAt_inputs (s : State) (p : Port) (n : Notice) : (s.admitAt p n).inputs = s.inputs := rfl
@[simp] theorem State.admitAt_acq (s : State) (p : Port) (n : Notice) : (s.admitAt p n).acq = s.acq := rfl
@[simp] theorem State.admitAt_tilt (s : State) (p : Port) (n : Notice) : (s.admitAt p n).tilt = s.tilt := rfl
@[simp] theorem State.admitAt_lockout (s : State) (p : Port) (n : Notice) : (s.admitAt p n).lockout = s.lockout := rfl
@[simp] theorem State.admitAt_clock (s : State) (p : Port) (n : Notice) : (s.admitAt p n).clock = s.clock := rfl
@[simp] theorem State.admitAt_timetable (s : State) (p : Port) (n : Notice) : (s.admitAt p n).timetable = s.timetable := rfl
@[simp] theorem State.admitAt_staging (s : State) (p : Port) (n : Notice) : (s.admitAt p n).staging = s.staging := rfl
@[simp] theorem State.admitAt_ports (s : State) (p : Port) (n : Notice) : (s.admitAt p n).ports = s.ports := rfl
@[simp] theorem State.admitAt_handed (s : State) (p : Port) (n : Notice) : (s.admitAt p n).handed = s.handed := rfl
@[simp] theorem State.admitAt_store (s : State) (p : Port) (n : Notice) : (s.admitAt p n).store = s.store := rfl
@[simp] theorem State.admitAt_lines (s : State) (p : Port) (n : Notice) : (s.admitAt p n).lines = s.lines := rfl
@[simp] theorem State.admitAt_powered (s : State) (p : Port) (n : Notice) : (s.admitAt p n).powered = s.powered := rfl
@[simp] theorem State.admitAt_pending (s : State) (p : Port) (n : Notice) : (s.admitAt p n).pending = s.pending := rfl

/-! ### A notice taken -/

@[simp] theorem State.takeHanded_accounts (s : State) (p : Port) (t : Topic) (v : BitVec 16) : (s.takeHanded p t v).accounts = s.accounts := by
  unfold State.takeHanded; split <;> try split
  all_goals rfl
@[simp] theorem State.takeHanded_lamps (s : State) (p : Port) (t : Topic) (v : BitVec 16) : (s.takeHanded p t v).lamps = s.lamps := by
  unfold State.takeHanded; split <;> try split
  all_goals rfl
@[simp] theorem State.takeHanded_power (s : State) (p : Port) (t : Topic) (v : BitVec 16) : (s.takeHanded p t v).power = s.power := by
  unfold State.takeHanded; split <;> try split
  all_goals rfl
@[simp] theorem State.takeHanded_inputs (s : State) (p : Port) (t : Topic) (v : BitVec 16) : (s.takeHanded p t v).inputs = s.inputs := by
  unfold State.takeHanded; split <;> try split
  all_goals rfl
@[simp] theorem State.takeHanded_acq (s : State) (p : Port) (t : Topic) (v : BitVec 16) : (s.takeHanded p t v).acq = s.acq := by
  unfold State.takeHanded; split <;> try split
  all_goals rfl
@[simp] theorem State.takeHanded_tilt (s : State) (p : Port) (t : Topic) (v : BitVec 16) : (s.takeHanded p t v).tilt = s.tilt := by
  unfold State.takeHanded; split <;> try split
  all_goals rfl
@[simp] theorem State.takeHanded_lockout (s : State) (p : Port) (t : Topic) (v : BitVec 16) : (s.takeHanded p t v).lockout = s.lockout := by
  unfold State.takeHanded; split <;> try split
  all_goals rfl
@[simp] theorem State.takeHanded_clock (s : State) (p : Port) (t : Topic) (v : BitVec 16) : (s.takeHanded p t v).clock = s.clock := by
  unfold State.takeHanded; split <;> try split
  all_goals rfl
@[simp] theorem State.takeHanded_timetable (s : State) (p : Port) (t : Topic) (v : BitVec 16) : (s.takeHanded p t v).timetable = s.timetable := by
  unfold State.takeHanded; split <;> try split
  all_goals rfl
@[simp] theorem State.takeHanded_staging (s : State) (p : Port) (t : Topic) (v : BitVec 16) : (s.takeHanded p t v).staging = s.staging := by
  unfold State.takeHanded; split <;> try split
  all_goals rfl
@[simp] theorem State.takeHanded_ports (s : State) (p : Port) (t : Topic) (v : BitVec 16) : (s.takeHanded p t v).ports = s.ports := by
  unfold State.takeHanded; split <;> try split
  all_goals rfl
@[simp] theorem State.takeHanded_store (s : State) (p : Port) (t : Topic) (v : BitVec 16) : (s.takeHanded p t v).store = s.store := by
  unfold State.takeHanded; split <;> try split
  all_goals rfl
@[simp] theorem State.takeHanded_lines (s : State) (p : Port) (t : Topic) (v : BitVec 16) : (s.takeHanded p t v).lines = s.lines := by
  unfold State.takeHanded; split <;> try split
  all_goals rfl
@[simp] theorem State.takeHanded_powered (s : State) (p : Port) (t : Topic) (v : BitVec 16) : (s.takeHanded p t v).powered = s.powered := by
  unfold State.takeHanded; split <;> try split
  all_goals rfl
@[simp] theorem State.takeHanded_pending (s : State) (p : Port) (t : Topic) (v : BitVec 16) : (s.takeHanded p t v).pending = s.pending := by
  unfold State.takeHanded; split <;> try split
  all_goals rfl

/-! ### A notice posted -/

@[simp] theorem State.post_accounts (s : State) (t : Topic) (v : Nat) : (s.post t v).accounts = s.accounts := rfl
@[simp] theorem State.post_lamps (s : State) (t : Topic) (v : Nat) : (s.post t v).lamps = s.lamps := rfl
@[simp] theorem State.post_power (s : State) (t : Topic) (v : Nat) : (s.post t v).power = s.power := rfl
@[simp] theorem State.post_inputs (s : State) (t : Topic) (v : Nat) : (s.post t v).inputs = s.inputs := rfl
@[simp] theorem State.post_acq (s : State) (t : Topic) (v : Nat) : (s.post t v).acq = s.acq := rfl
@[simp] theorem State.post_tilt (s : State) (t : Topic) (v : Nat) : (s.post t v).tilt = s.tilt := rfl
@[simp] theorem State.post_lockout (s : State) (t : Topic) (v : Nat) : (s.post t v).lockout = s.lockout := rfl
@[simp] theorem State.post_clock (s : State) (t : Topic) (v : Nat) : (s.post t v).clock = s.clock := rfl
@[simp] theorem State.post_timetable (s : State) (t : Topic) (v : Nat) : (s.post t v).timetable = s.timetable := rfl
@[simp] theorem State.post_staging (s : State) (t : Topic) (v : Nat) : (s.post t v).staging = s.staging := rfl
@[simp] theorem State.post_ports (s : State) (t : Topic) (v : Nat) : (s.post t v).ports = s.ports := rfl
@[simp] theorem State.post_store (s : State) (t : Topic) (v : Nat) : (s.post t v).store = s.store := rfl
@[simp] theorem State.post_lines (s : State) (t : Topic) (v : Nat) : (s.post t v).lines = s.lines := rfl
@[simp] theorem State.post_powered (s : State) (t : Topic) (v : Nat) : (s.post t v).powered = s.powered := rfl
@[simp] theorem State.post_pending (s : State) (t : Topic) (v : Nat) : (s.post t v).pending = s.pending := rfl

/-! ### The queues emptied -/

@[simp] theorem State.clearQueues_accounts (s : State) : (s.clearQueues).accounts = s.accounts := rfl
@[simp] theorem State.clearQueues_lamps (s : State) : (s.clearQueues).lamps = s.lamps := rfl
@[simp] theorem State.clearQueues_power (s : State) : (s.clearQueues).power = s.power := rfl
@[simp] theorem State.clearQueues_inputs (s : State) : (s.clearQueues).inputs = s.inputs := rfl
@[simp] theorem State.clearQueues_acq (s : State) : (s.clearQueues).acq = s.acq := rfl
@[simp] theorem State.clearQueues_tilt (s : State) : (s.clearQueues).tilt = s.tilt := rfl
@[simp] theorem State.clearQueues_lockout (s : State) : (s.clearQueues).lockout = s.lockout := rfl
@[simp] theorem State.clearQueues_clock (s : State) : (s.clearQueues).clock = s.clock := rfl
@[simp] theorem State.clearQueues_timetable (s : State) : (s.clearQueues).timetable = s.timetable := rfl
@[simp] theorem State.clearQueues_staging (s : State) : (s.clearQueues).staging = s.staging := rfl
@[simp] theorem State.clearQueues_ports (s : State) : (s.clearQueues).ports = s.ports := rfl
@[simp] theorem State.clearQueues_handed (s : State) : (s.clearQueues).handed = s.handed := rfl
@[simp] theorem State.clearQueues_store (s : State) : (s.clearQueues).store = s.store := rfl
@[simp] theorem State.clearQueues_lines (s : State) : (s.clearQueues).lines = s.lines := rfl
@[simp] theorem State.clearQueues_powered (s : State) : (s.clearQueues).powered = s.powered := rfl
@[simp] theorem State.clearQueues_pending (s : State) : (s.clearQueues).pending = s.pending := rfl

/-! ### A save of the accounts -/

@[simp] theorem State.saveAccounts_lamps (s : State) : (s.saveAccounts).lamps = s.lamps := rfl
@[simp] theorem State.saveAccounts_power (s : State) : (s.saveAccounts).power = s.power := rfl
@[simp] theorem State.saveAccounts_inputs (s : State) : (s.saveAccounts).inputs = s.inputs := rfl
@[simp] theorem State.saveAccounts_acq (s : State) : (s.saveAccounts).acq = s.acq := rfl
@[simp] theorem State.saveAccounts_tilt (s : State) : (s.saveAccounts).tilt = s.tilt := rfl
@[simp] theorem State.saveAccounts_lockout (s : State) : (s.saveAccounts).lockout = s.lockout := rfl
@[simp] theorem State.saveAccounts_clock (s : State) : (s.saveAccounts).clock = s.clock := rfl
@[simp] theorem State.saveAccounts_timetable (s : State) : (s.saveAccounts).timetable = s.timetable := rfl
@[simp] theorem State.saveAccounts_staging (s : State) : (s.saveAccounts).staging = s.staging := rfl
@[simp] theorem State.saveAccounts_ports (s : State) : (s.saveAccounts).ports = s.ports := rfl
@[simp] theorem State.saveAccounts_queues (s : State) : (s.saveAccounts).queues = s.queues := rfl
@[simp] theorem State.saveAccounts_handed (s : State) : (s.saveAccounts).handed = s.handed := rfl
@[simp] theorem State.saveAccounts_lines (s : State) : (s.saveAccounts).lines = s.lines := rfl
@[simp] theorem State.saveAccounts_powered (s : State) : (s.saveAccounts).powered = s.powered := rfl
@[simp] theorem State.saveAccounts_pending (s : State) : (s.saveAccounts).pending = s.pending := rfl

/-! ### One account -/

@[simp] theorem State.setAccount_lamps (s : State) (l : Lamp) (x : LampAccount) : (s.setAccount l x).lamps = s.lamps := rfl
@[simp] theorem State.setAccount_power (s : State) (l : Lamp) (x : LampAccount) : (s.setAccount l x).power = s.power := rfl
@[simp] theorem State.setAccount_inputs (s : State) (l : Lamp) (x : LampAccount) : (s.setAccount l x).inputs = s.inputs := rfl
@[simp] theorem State.setAccount_acq (s : State) (l : Lamp) (x : LampAccount) : (s.setAccount l x).acq = s.acq := rfl
@[simp] theorem State.setAccount_tilt (s : State) (l : Lamp) (x : LampAccount) : (s.setAccount l x).tilt = s.tilt := rfl
@[simp] theorem State.setAccount_lockout (s : State) (l : Lamp) (x : LampAccount) : (s.setAccount l x).lockout = s.lockout := rfl
@[simp] theorem State.setAccount_clock (s : State) (l : Lamp) (x : LampAccount) : (s.setAccount l x).clock = s.clock := rfl
@[simp] theorem State.setAccount_timetable (s : State) (l : Lamp) (x : LampAccount) : (s.setAccount l x).timetable = s.timetable := rfl
@[simp] theorem State.setAccount_staging (s : State) (l : Lamp) (x : LampAccount) : (s.setAccount l x).staging = s.staging := rfl
@[simp] theorem State.setAccount_ports (s : State) (l : Lamp) (x : LampAccount) : (s.setAccount l x).ports = s.ports := rfl
@[simp] theorem State.setAccount_queues (s : State) (l : Lamp) (x : LampAccount) : (s.setAccount l x).queues = s.queues := rfl
@[simp] theorem State.setAccount_handed (s : State) (l : Lamp) (x : LampAccount) : (s.setAccount l x).handed = s.handed := rfl
@[simp] theorem State.setAccount_store (s : State) (l : Lamp) (x : LampAccount) : (s.setAccount l x).store = s.store := rfl
@[simp] theorem State.setAccount_lines (s : State) (l : Lamp) (x : LampAccount) : (s.setAccount l x).lines = s.lines := rfl
@[simp] theorem State.setAccount_powered (s : State) (l : Lamp) (x : LampAccount) : (s.setAccount l x).powered = s.powered := rfl
@[simp] theorem State.setAccount_pending (s : State) (l : Lamp) (x : LampAccount) : (s.setAccount l x).pending = s.pending := rfl

/-! ### One lamp condition -/

@[simp] theorem State.setCondition_accounts (s : State) (l : Lamp) (c : LampCondition) : (s.setCondition l c).accounts = s.accounts := rfl
@[simp] theorem State.setCondition_power (s : State) (l : Lamp) (c : LampCondition) : (s.setCondition l c).power = s.power := rfl
@[simp] theorem State.setCondition_inputs (s : State) (l : Lamp) (c : LampCondition) : (s.setCondition l c).inputs = s.inputs := rfl
@[simp] theorem State.setCondition_acq (s : State) (l : Lamp) (c : LampCondition) : (s.setCondition l c).acq = s.acq := rfl
@[simp] theorem State.setCondition_tilt (s : State) (l : Lamp) (c : LampCondition) : (s.setCondition l c).tilt = s.tilt := rfl
@[simp] theorem State.setCondition_lockout (s : State) (l : Lamp) (c : LampCondition) : (s.setCondition l c).lockout = s.lockout := rfl
@[simp] theorem State.setCondition_clock (s : State) (l : Lamp) (c : LampCondition) : (s.setCondition l c).clock = s.clock := rfl
@[simp] theorem State.setCondition_timetable (s : State) (l : Lamp) (c : LampCondition) : (s.setCondition l c).timetable = s.timetable := rfl
@[simp] theorem State.setCondition_staging (s : State) (l : Lamp) (c : LampCondition) : (s.setCondition l c).staging = s.staging := rfl
@[simp] theorem State.setCondition_ports (s : State) (l : Lamp) (c : LampCondition) : (s.setCondition l c).ports = s.ports := rfl
@[simp] theorem State.setCondition_queues (s : State) (l : Lamp) (c : LampCondition) : (s.setCondition l c).queues = s.queues := rfl
@[simp] theorem State.setCondition_handed (s : State) (l : Lamp) (c : LampCondition) : (s.setCondition l c).handed = s.handed := rfl
@[simp] theorem State.setCondition_store (s : State) (l : Lamp) (c : LampCondition) : (s.setCondition l c).store = s.store := rfl
@[simp] theorem State.setCondition_lines (s : State) (l : Lamp) (c : LampCondition) : (s.setCondition l c).lines = s.lines := rfl
@[simp] theorem State.setCondition_powered (s : State) (l : Lamp) (c : LampCondition) : (s.setCondition l c).powered = s.powered := rfl
@[simp] theorem State.setCondition_pending (s : State) (l : Lamp) (c : LampCondition) : (s.setCondition l c).pending = s.pending := rfl

/-! ### One session dropout count -/

@[simp] theorem State.setSessionDropouts_accounts (s : State) (l : Lamp) (n : Nat) : (s.setSessionDropouts l n).accounts = s.accounts := rfl
@[simp] theorem State.setSessionDropouts_power (s : State) (l : Lamp) (n : Nat) : (s.setSessionDropouts l n).power = s.power := rfl
@[simp] theorem State.setSessionDropouts_inputs (s : State) (l : Lamp) (n : Nat) : (s.setSessionDropouts l n).inputs = s.inputs := rfl
@[simp] theorem State.setSessionDropouts_acq (s : State) (l : Lamp) (n : Nat) : (s.setSessionDropouts l n).acq = s.acq := rfl
@[simp] theorem State.setSessionDropouts_tilt (s : State) (l : Lamp) (n : Nat) : (s.setSessionDropouts l n).tilt = s.tilt := rfl
@[simp] theorem State.setSessionDropouts_lockout (s : State) (l : Lamp) (n : Nat) : (s.setSessionDropouts l n).lockout = s.lockout := rfl
@[simp] theorem State.setSessionDropouts_clock (s : State) (l : Lamp) (n : Nat) : (s.setSessionDropouts l n).clock = s.clock := rfl
@[simp] theorem State.setSessionDropouts_timetable (s : State) (l : Lamp) (n : Nat) : (s.setSessionDropouts l n).timetable = s.timetable := rfl
@[simp] theorem State.setSessionDropouts_staging (s : State) (l : Lamp) (n : Nat) : (s.setSessionDropouts l n).staging = s.staging := rfl
@[simp] theorem State.setSessionDropouts_ports (s : State) (l : Lamp) (n : Nat) : (s.setSessionDropouts l n).ports = s.ports := rfl
@[simp] theorem State.setSessionDropouts_queues (s : State) (l : Lamp) (n : Nat) : (s.setSessionDropouts l n).queues = s.queues := rfl
@[simp] theorem State.setSessionDropouts_handed (s : State) (l : Lamp) (n : Nat) : (s.setSessionDropouts l n).handed = s.handed := rfl
@[simp] theorem State.setSessionDropouts_store (s : State) (l : Lamp) (n : Nat) : (s.setSessionDropouts l n).store = s.store := rfl
@[simp] theorem State.setSessionDropouts_lines (s : State) (l : Lamp) (n : Nat) : (s.setSessionDropouts l n).lines = s.lines := rfl
@[simp] theorem State.setSessionDropouts_powered (s : State) (l : Lamp) (n : Nat) : (s.setSessionDropouts l n).powered = s.powered := rfl
@[simp] theorem State.setSessionDropouts_pending (s : State) (l : Lamp) (n : Nat) : (s.setSessionDropouts l n).pending = s.pending := rfl

/-! ### Both lamp conditions -/

@[simp] theorem State.mapConditions_accounts (s : State) (f : LampCondition → LampCondition) : (s.mapConditions f).accounts = s.accounts := rfl
@[simp] theorem State.mapConditions_power (s : State) (f : LampCondition → LampCondition) : (s.mapConditions f).power = s.power := rfl
@[simp] theorem State.mapConditions_inputs (s : State) (f : LampCondition → LampCondition) : (s.mapConditions f).inputs = s.inputs := rfl
@[simp] theorem State.mapConditions_acq (s : State) (f : LampCondition → LampCondition) : (s.mapConditions f).acq = s.acq := rfl
@[simp] theorem State.mapConditions_tilt (s : State) (f : LampCondition → LampCondition) : (s.mapConditions f).tilt = s.tilt := rfl
@[simp] theorem State.mapConditions_lockout (s : State) (f : LampCondition → LampCondition) : (s.mapConditions f).lockout = s.lockout := rfl
@[simp] theorem State.mapConditions_clock (s : State) (f : LampCondition → LampCondition) : (s.mapConditions f).clock = s.clock := rfl
@[simp] theorem State.mapConditions_timetable (s : State) (f : LampCondition → LampCondition) : (s.mapConditions f).timetable = s.timetable := rfl
@[simp] theorem State.mapConditions_staging (s : State) (f : LampCondition → LampCondition) : (s.mapConditions f).staging = s.staging := rfl
@[simp] theorem State.mapConditions_ports (s : State) (f : LampCondition → LampCondition) : (s.mapConditions f).ports = s.ports := rfl
@[simp] theorem State.mapConditions_queues (s : State) (f : LampCondition → LampCondition) : (s.mapConditions f).queues = s.queues := rfl
@[simp] theorem State.mapConditions_handed (s : State) (f : LampCondition → LampCondition) : (s.mapConditions f).handed = s.handed := rfl
@[simp] theorem State.mapConditions_store (s : State) (f : LampCondition → LampCondition) : (s.mapConditions f).store = s.store := rfl
@[simp] theorem State.mapConditions_lines (s : State) (f : LampCondition → LampCondition) : (s.mapConditions f).lines = s.lines := rfl
@[simp] theorem State.mapConditions_powered (s : State) (f : LampCondition → LampCondition) : (s.mapConditions f).powered = s.powered := rfl
@[simp] theorem State.mapConditions_pending (s : State) (f : LampCondition → LampCondition) : (s.mapConditions f).pending = s.pending := rfl

/-! ### The power level -/

@[simp] theorem State.setLevel_accounts (s : State) (x : PowerLevel) : (s.setLevel x).accounts = s.accounts := rfl
@[simp] theorem State.setLevel_lamps (s : State) (x : PowerLevel) : (s.setLevel x).lamps = s.lamps := rfl
@[simp] theorem State.setLevel_inputs (s : State) (x : PowerLevel) : (s.setLevel x).inputs = s.inputs := rfl
@[simp] theorem State.setLevel_acq (s : State) (x : PowerLevel) : (s.setLevel x).acq = s.acq := rfl
@[simp] theorem State.setLevel_tilt (s : State) (x : PowerLevel) : (s.setLevel x).tilt = s.tilt := rfl
@[simp] theorem State.setLevel_lockout (s : State) (x : PowerLevel) : (s.setLevel x).lockout = s.lockout := rfl
@[simp] theorem State.setLevel_clock (s : State) (x : PowerLevel) : (s.setLevel x).clock = s.clock := rfl
@[simp] theorem State.setLevel_timetable (s : State) (x : PowerLevel) : (s.setLevel x).timetable = s.timetable := rfl
@[simp] theorem State.setLevel_staging (s : State) (x : PowerLevel) : (s.setLevel x).staging = s.staging := rfl
@[simp] theorem State.setLevel_ports (s : State) (x : PowerLevel) : (s.setLevel x).ports = s.ports := rfl
@[simp] theorem State.setLevel_queues (s : State) (x : PowerLevel) : (s.setLevel x).queues = s.queues := rfl
@[simp] theorem State.setLevel_handed (s : State) (x : PowerLevel) : (s.setLevel x).handed = s.handed := rfl
@[simp] theorem State.setLevel_store (s : State) (x : PowerLevel) : (s.setLevel x).store = s.store := rfl
@[simp] theorem State.setLevel_lines (s : State) (x : PowerLevel) : (s.setLevel x).lines = s.lines := rfl
@[simp] theorem State.setLevel_powered (s : State) (x : PowerLevel) : (s.setLevel x).powered = s.powered := rfl
@[simp] theorem State.setLevel_pending (s : State) (x : PowerLevel) : (s.setLevel x).pending = s.pending := rfl

/-! ### One input row -/

@[simp] theorem State.editRow_accounts (s : State) (n : Fin 10) (f : InputRow → InputRow) : (s.editRow n f).accounts = s.accounts := rfl
@[simp] theorem State.editRow_lamps (s : State) (n : Fin 10) (f : InputRow → InputRow) : (s.editRow n f).lamps = s.lamps := rfl
@[simp] theorem State.editRow_power (s : State) (n : Fin 10) (f : InputRow → InputRow) : (s.editRow n f).power = s.power := rfl
@[simp] theorem State.editRow_acq (s : State) (n : Fin 10) (f : InputRow → InputRow) : (s.editRow n f).acq = s.acq := rfl
@[simp] theorem State.editRow_tilt (s : State) (n : Fin 10) (f : InputRow → InputRow) : (s.editRow n f).tilt = s.tilt := rfl
@[simp] theorem State.editRow_lockout (s : State) (n : Fin 10) (f : InputRow → InputRow) : (s.editRow n f).lockout = s.lockout := rfl
@[simp] theorem State.editRow_clock (s : State) (n : Fin 10) (f : InputRow → InputRow) : (s.editRow n f).clock = s.clock := rfl
@[simp] theorem State.editRow_timetable (s : State) (n : Fin 10) (f : InputRow → InputRow) : (s.editRow n f).timetable = s.timetable := rfl
@[simp] theorem State.editRow_staging (s : State) (n : Fin 10) (f : InputRow → InputRow) : (s.editRow n f).staging = s.staging := rfl
@[simp] theorem State.editRow_ports (s : State) (n : Fin 10) (f : InputRow → InputRow) : (s.editRow n f).ports = s.ports := rfl
@[simp] theorem State.editRow_queues (s : State) (n : Fin 10) (f : InputRow → InputRow) : (s.editRow n f).queues = s.queues := rfl
@[simp] theorem State.editRow_handed (s : State) (n : Fin 10) (f : InputRow → InputRow) : (s.editRow n f).handed = s.handed := rfl
@[simp] theorem State.editRow_store (s : State) (n : Fin 10) (f : InputRow → InputRow) : (s.editRow n f).store = s.store := rfl
@[simp] theorem State.editRow_lines (s : State) (n : Fin 10) (f : InputRow → InputRow) : (s.editRow n f).lines = s.lines := rfl
@[simp] theorem State.editRow_powered (s : State) (n : Fin 10) (f : InputRow → InputRow) : (s.editRow n f).powered = s.powered := rfl
@[simp] theorem State.editRow_pending (s : State) (n : Fin 10) (f : InputRow → InputRow) : (s.editRow n f).pending = s.pending := rfl

/-! ### One acquisition status -/

@[simp] theorem State.setStatus_accounts (s : State) (n : Fin 10) (x : AcqStatus) : (s.setStatus n x).accounts = s.accounts := rfl
@[simp] theorem State.setStatus_lamps (s : State) (n : Fin 10) (x : AcqStatus) : (s.setStatus n x).lamps = s.lamps := rfl
@[simp] theorem State.setStatus_power (s : State) (n : Fin 10) (x : AcqStatus) : (s.setStatus n x).power = s.power := rfl
@[simp] theorem State.setStatus_acq (s : State) (n : Fin 10) (x : AcqStatus) : (s.setStatus n x).acq = s.acq := rfl
@[simp] theorem State.setStatus_tilt (s : State) (n : Fin 10) (x : AcqStatus) : (s.setStatus n x).tilt = s.tilt := rfl
@[simp] theorem State.setStatus_lockout (s : State) (n : Fin 10) (x : AcqStatus) : (s.setStatus n x).lockout = s.lockout := rfl
@[simp] theorem State.setStatus_clock (s : State) (n : Fin 10) (x : AcqStatus) : (s.setStatus n x).clock = s.clock := rfl
@[simp] theorem State.setStatus_timetable (s : State) (n : Fin 10) (x : AcqStatus) : (s.setStatus n x).timetable = s.timetable := rfl
@[simp] theorem State.setStatus_staging (s : State) (n : Fin 10) (x : AcqStatus) : (s.setStatus n x).staging = s.staging := rfl
@[simp] theorem State.setStatus_ports (s : State) (n : Fin 10) (x : AcqStatus) : (s.setStatus n x).ports = s.ports := rfl
@[simp] theorem State.setStatus_queues (s : State) (n : Fin 10) (x : AcqStatus) : (s.setStatus n x).queues = s.queues := rfl
@[simp] theorem State.setStatus_handed (s : State) (n : Fin 10) (x : AcqStatus) : (s.setStatus n x).handed = s.handed := rfl
@[simp] theorem State.setStatus_store (s : State) (n : Fin 10) (x : AcqStatus) : (s.setStatus n x).store = s.store := rfl
@[simp] theorem State.setStatus_lines (s : State) (n : Fin 10) (x : AcqStatus) : (s.setStatus n x).lines = s.lines := rfl
@[simp] theorem State.setStatus_powered (s : State) (n : Fin 10) (x : AcqStatus) : (s.setStatus n x).powered = s.powered := rfl
@[simp] theorem State.setStatus_pending (s : State) (n : Fin 10) (x : AcqStatus) : (s.setStatus n x).pending = s.pending := rfl

/-! ### One present flag -/

@[simp] theorem State.setPresent_accounts (s : State) (n : Fin 10) (x : Bool) : (s.setPresent n x).accounts = s.accounts := rfl
@[simp] theorem State.setPresent_lamps (s : State) (n : Fin 10) (x : Bool) : (s.setPresent n x).lamps = s.lamps := rfl
@[simp] theorem State.setPresent_power (s : State) (n : Fin 10) (x : Bool) : (s.setPresent n x).power = s.power := rfl
@[simp] theorem State.setPresent_acq (s : State) (n : Fin 10) (x : Bool) : (s.setPresent n x).acq = s.acq := rfl
@[simp] theorem State.setPresent_tilt (s : State) (n : Fin 10) (x : Bool) : (s.setPresent n x).tilt = s.tilt := rfl
@[simp] theorem State.setPresent_lockout (s : State) (n : Fin 10) (x : Bool) : (s.setPresent n x).lockout = s.lockout := rfl
@[simp] theorem State.setPresent_clock (s : State) (n : Fin 10) (x : Bool) : (s.setPresent n x).clock = s.clock := rfl
@[simp] theorem State.setPresent_timetable (s : State) (n : Fin 10) (x : Bool) : (s.setPresent n x).timetable = s.timetable := rfl
@[simp] theorem State.setPresent_staging (s : State) (n : Fin 10) (x : Bool) : (s.setPresent n x).staging = s.staging := rfl
@[simp] theorem State.setPresent_ports (s : State) (n : Fin 10) (x : Bool) : (s.setPresent n x).ports = s.ports := rfl
@[simp] theorem State.setPresent_queues (s : State) (n : Fin 10) (x : Bool) : (s.setPresent n x).queues = s.queues := rfl
@[simp] theorem State.setPresent_handed (s : State) (n : Fin 10) (x : Bool) : (s.setPresent n x).handed = s.handed := rfl
@[simp] theorem State.setPresent_store (s : State) (n : Fin 10) (x : Bool) : (s.setPresent n x).store = s.store := rfl
@[simp] theorem State.setPresent_lines (s : State) (n : Fin 10) (x : Bool) : (s.setPresent n x).lines = s.lines := rfl
@[simp] theorem State.setPresent_powered (s : State) (n : Fin 10) (x : Bool) : (s.setPresent n x).powered = s.powered := rfl
@[simp] theorem State.setPresent_pending (s : State) (n : Fin 10) (x : Bool) : (s.setPresent n x).pending = s.pending := rfl

/-! ### A strobe -/

@[simp] theorem State.strobe_accounts (s : State) : (s.strobe).accounts = s.accounts := rfl
@[simp] theorem State.strobe_lamps (s : State) : (s.strobe).lamps = s.lamps := rfl
@[simp] theorem State.strobe_power (s : State) : (s.strobe).power = s.power := rfl
@[simp] theorem State.strobe_inputs (s : State) : (s.strobe).inputs = s.inputs := rfl
@[simp] theorem State.strobe_tilt (s : State) : (s.strobe).tilt = s.tilt := rfl
@[simp] theorem State.strobe_lockout (s : State) : (s.strobe).lockout = s.lockout := rfl
@[simp] theorem State.strobe_clock (s : State) : (s.strobe).clock = s.clock := rfl
@[simp] theorem State.strobe_timetable (s : State) : (s.strobe).timetable = s.timetable := rfl
@[simp] theorem State.strobe_staging (s : State) : (s.strobe).staging = s.staging := rfl
@[simp] theorem State.strobe_ports (s : State) : (s.strobe).ports = s.ports := rfl
@[simp] theorem State.strobe_queues (s : State) : (s.strobe).queues = s.queues := rfl
@[simp] theorem State.strobe_handed (s : State) : (s.strobe).handed = s.handed := rfl
@[simp] theorem State.strobe_store (s : State) : (s.strobe).store = s.store := rfl
@[simp] theorem State.strobe_lines (s : State) : (s.strobe).lines = s.lines := rfl
@[simp] theorem State.strobe_powered (s : State) : (s.strobe).powered = s.powered := rfl
@[simp] theorem State.strobe_pending (s : State) : (s.strobe).pending = s.pending := rfl

/-! ### The timetable -/

@[simp] theorem State.editTimetable_accounts (s : State) (f : Timetable → Timetable) : (s.editTimetable f).accounts = s.accounts := rfl
@[simp] theorem State.editTimetable_lamps (s : State) (f : Timetable → Timetable) : (s.editTimetable f).lamps = s.lamps := rfl
@[simp] theorem State.editTimetable_power (s : State) (f : Timetable → Timetable) : (s.editTimetable f).power = s.power := rfl
@[simp] theorem State.editTimetable_inputs (s : State) (f : Timetable → Timetable) : (s.editTimetable f).inputs = s.inputs := rfl
@[simp] theorem State.editTimetable_acq (s : State) (f : Timetable → Timetable) : (s.editTimetable f).acq = s.acq := rfl
@[simp] theorem State.editTimetable_tilt (s : State) (f : Timetable → Timetable) : (s.editTimetable f).tilt = s.tilt := rfl
@[simp] theorem State.editTimetable_lockout (s : State) (f : Timetable → Timetable) : (s.editTimetable f).lockout = s.lockout := rfl
@[simp] theorem State.editTimetable_clock (s : State) (f : Timetable → Timetable) : (s.editTimetable f).clock = s.clock := rfl
@[simp] theorem State.editTimetable_staging (s : State) (f : Timetable → Timetable) : (s.editTimetable f).staging = s.staging := rfl
@[simp] theorem State.editTimetable_ports (s : State) (f : Timetable → Timetable) : (s.editTimetable f).ports = s.ports := rfl
@[simp] theorem State.editTimetable_queues (s : State) (f : Timetable → Timetable) : (s.editTimetable f).queues = s.queues := rfl
@[simp] theorem State.editTimetable_handed (s : State) (f : Timetable → Timetable) : (s.editTimetable f).handed = s.handed := rfl
@[simp] theorem State.editTimetable_store (s : State) (f : Timetable → Timetable) : (s.editTimetable f).store = s.store := rfl
@[simp] theorem State.editTimetable_lines (s : State) (f : Timetable → Timetable) : (s.editTimetable f).lines = s.lines := rfl
@[simp] theorem State.editTimetable_powered (s : State) (f : Timetable → Timetable) : (s.editTimetable f).powered = s.powered := rfl
@[simp] theorem State.editTimetable_pending (s : State) (f : Timetable → Timetable) : (s.editTimetable f).pending = s.pending := rfl

/-! ### One Port Unit -/

@[simp] theorem State.setPort_accounts (s : State) (p : Port) (x : PortUnit) : (s.setPort p x).accounts = s.accounts := rfl
@[simp] theorem State.setPort_lamps (s : State) (p : Port) (x : PortUnit) : (s.setPort p x).lamps = s.lamps := rfl
@[simp] theorem State.setPort_power (s : State) (p : Port) (x : PortUnit) : (s.setPort p x).power = s.power := rfl
@[simp] theorem State.setPort_inputs (s : State) (p : Port) (x : PortUnit) : (s.setPort p x).inputs = s.inputs := rfl
@[simp] theorem State.setPort_acq (s : State) (p : Port) (x : PortUnit) : (s.setPort p x).acq = s.acq := rfl
@[simp] theorem State.setPort_tilt (s : State) (p : Port) (x : PortUnit) : (s.setPort p x).tilt = s.tilt := rfl
@[simp] theorem State.setPort_lockout (s : State) (p : Port) (x : PortUnit) : (s.setPort p x).lockout = s.lockout := rfl
@[simp] theorem State.setPort_clock (s : State) (p : Port) (x : PortUnit) : (s.setPort p x).clock = s.clock := rfl
@[simp] theorem State.setPort_timetable (s : State) (p : Port) (x : PortUnit) : (s.setPort p x).timetable = s.timetable := rfl
@[simp] theorem State.setPort_staging (s : State) (p : Port) (x : PortUnit) : (s.setPort p x).staging = s.staging := rfl
@[simp] theorem State.setPort_queues (s : State) (p : Port) (x : PortUnit) : (s.setPort p x).queues = s.queues := rfl
@[simp] theorem State.setPort_handed (s : State) (p : Port) (x : PortUnit) : (s.setPort p x).handed = s.handed := rfl
@[simp] theorem State.setPort_store (s : State) (p : Port) (x : PortUnit) : (s.setPort p x).store = s.store := rfl
@[simp] theorem State.setPort_lines (s : State) (p : Port) (x : PortUnit) : (s.setPort p x).lines = s.lines := rfl
@[simp] theorem State.setPort_powered (s : State) (p : Port) (x : PortUnit) : (s.setPort p x).powered = s.powered := rfl
@[simp] theorem State.setPort_pending (s : State) (p : Port) (x : PortUnit) : (s.setPort p x).pending = s.pending := rfl

/-! ### A reply -/

@[simp] theorem State.reply_accounts (s : State) (p : Port) (f : List Byte) (c : Byte) (x : Answer) : (s.reply p f c x).accounts = s.accounts := rfl
@[simp] theorem State.reply_lamps (s : State) (p : Port) (f : List Byte) (c : Byte) (x : Answer) : (s.reply p f c x).lamps = s.lamps := rfl
@[simp] theorem State.reply_power (s : State) (p : Port) (f : List Byte) (c : Byte) (x : Answer) : (s.reply p f c x).power = s.power := rfl
@[simp] theorem State.reply_inputs (s : State) (p : Port) (f : List Byte) (c : Byte) (x : Answer) : (s.reply p f c x).inputs = s.inputs := rfl
@[simp] theorem State.reply_acq (s : State) (p : Port) (f : List Byte) (c : Byte) (x : Answer) : (s.reply p f c x).acq = s.acq := rfl
@[simp] theorem State.reply_tilt (s : State) (p : Port) (f : List Byte) (c : Byte) (x : Answer) : (s.reply p f c x).tilt = s.tilt := rfl
@[simp] theorem State.reply_lockout (s : State) (p : Port) (f : List Byte) (c : Byte) (x : Answer) : (s.reply p f c x).lockout = s.lockout := rfl
@[simp] theorem State.reply_clock (s : State) (p : Port) (f : List Byte) (c : Byte) (x : Answer) : (s.reply p f c x).clock = s.clock := rfl
@[simp] theorem State.reply_timetable (s : State) (p : Port) (f : List Byte) (c : Byte) (x : Answer) : (s.reply p f c x).timetable = s.timetable := rfl
@[simp] theorem State.reply_staging (s : State) (p : Port) (f : List Byte) (c : Byte) (x : Answer) : (s.reply p f c x).staging = s.staging := rfl
@[simp] theorem State.reply_queues (s : State) (p : Port) (f : List Byte) (c : Byte) (x : Answer) : (s.reply p f c x).queues = s.queues := rfl
@[simp] theorem State.reply_handed (s : State) (p : Port) (f : List Byte) (c : Byte) (x : Answer) : (s.reply p f c x).handed = s.handed := rfl
@[simp] theorem State.reply_store (s : State) (p : Port) (f : List Byte) (c : Byte) (x : Answer) : (s.reply p f c x).store = s.store := rfl
@[simp] theorem State.reply_lines (s : State) (p : Port) (f : List Byte) (c : Byte) (x : Answer) : (s.reply p f c x).lines = s.lines := rfl
@[simp] theorem State.reply_powered (s : State) (p : Port) (f : List Byte) (c : Byte) (x : Answer) : (s.reply p f c x).powered = s.powered := rfl
@[simp] theorem State.reply_pending (s : State) (p : Port) (f : List Byte) (c : Byte) (x : Answer) : (s.reply p f c x).pending = s.pending := rfl

/-! ### The reply to a right frame -/

@[simp] theorem State.answer_accounts (s : State) (p : Port) (c : Byte) (d : List Byte) (x : Answer) : (s.answer p c d x).accounts = s.accounts := rfl
@[simp] theorem State.answer_lamps (s : State) (p : Port) (c : Byte) (d : List Byte) (x : Answer) : (s.answer p c d x).lamps = s.lamps := rfl
@[simp] theorem State.answer_power (s : State) (p : Port) (c : Byte) (d : List Byte) (x : Answer) : (s.answer p c d x).power = s.power := rfl
@[simp] theorem State.answer_inputs (s : State) (p : Port) (c : Byte) (d : List Byte) (x : Answer) : (s.answer p c d x).inputs = s.inputs := rfl
@[simp] theorem State.answer_acq (s : State) (p : Port) (c : Byte) (d : List Byte) (x : Answer) : (s.answer p c d x).acq = s.acq := rfl
@[simp] theorem State.answer_tilt (s : State) (p : Port) (c : Byte) (d : List Byte) (x : Answer) : (s.answer p c d x).tilt = s.tilt := rfl
@[simp] theorem State.answer_lockout (s : State) (p : Port) (c : Byte) (d : List Byte) (x : Answer) : (s.answer p c d x).lockout = s.lockout := rfl
@[simp] theorem State.answer_clock (s : State) (p : Port) (c : Byte) (d : List Byte) (x : Answer) : (s.answer p c d x).clock = s.clock := rfl
@[simp] theorem State.answer_timetable (s : State) (p : Port) (c : Byte) (d : List Byte) (x : Answer) : (s.answer p c d x).timetable = s.timetable := rfl
@[simp] theorem State.answer_staging (s : State) (p : Port) (c : Byte) (d : List Byte) (x : Answer) : (s.answer p c d x).staging = s.staging := rfl
@[simp] theorem State.answer_queues (s : State) (p : Port) (c : Byte) (d : List Byte) (x : Answer) : (s.answer p c d x).queues = s.queues := rfl
@[simp] theorem State.answer_handed (s : State) (p : Port) (c : Byte) (d : List Byte) (x : Answer) : (s.answer p c d x).handed = s.handed := rfl
@[simp] theorem State.answer_store (s : State) (p : Port) (c : Byte) (d : List Byte) (x : Answer) : (s.answer p c d x).store = s.store := rfl
@[simp] theorem State.answer_lines (s : State) (p : Port) (c : Byte) (d : List Byte) (x : Answer) : (s.answer p c d x).lines = s.lines := rfl
@[simp] theorem State.answer_powered (s : State) (p : Port) (c : Byte) (d : List Byte) (x : Answer) : (s.answer p c d x).powered = s.powered := rfl
@[simp] theorem State.answer_pending (s : State) (p : Port) (c : Byte) (d : List Byte) (x : Answer) : (s.answer p c d x).pending = s.pending := rfl

/-! ### The blank flag -/

@[simp] theorem State.setBlank_accounts (s : State) (b : Bool) : (s.setBlank b).accounts = s.accounts := by
  unfold State.setBlank; split <;> simp
@[simp] theorem State.setBlank_lamps (s : State) (b : Bool) : (s.setBlank b).lamps = s.lamps := by
  unfold State.setBlank; split <;> simp
@[simp] theorem State.setBlank_inputs (s : State) (b : Bool) : (s.setBlank b).inputs = s.inputs := by
  unfold State.setBlank; split <;> simp
@[simp] theorem State.setBlank_acq (s : State) (b : Bool) : (s.setBlank b).acq = s.acq := by
  unfold State.setBlank; split <;> simp
@[simp] theorem State.setBlank_tilt (s : State) (b : Bool) : (s.setBlank b).tilt = s.tilt := by
  unfold State.setBlank; split <;> simp
@[simp] theorem State.setBlank_lockout (s : State) (b : Bool) : (s.setBlank b).lockout = s.lockout := by
  unfold State.setBlank; split <;> simp
@[simp] theorem State.setBlank_clock (s : State) (b : Bool) : (s.setBlank b).clock = s.clock := by
  unfold State.setBlank; split <;> simp
@[simp] theorem State.setBlank_timetable (s : State) (b : Bool) : (s.setBlank b).timetable = s.timetable := by
  unfold State.setBlank; split <;> simp
@[simp] theorem State.setBlank_staging (s : State) (b : Bool) : (s.setBlank b).staging = s.staging := by
  unfold State.setBlank; split <;> simp
@[simp] theorem State.setBlank_ports (s : State) (b : Bool) : (s.setBlank b).ports = s.ports := by
  unfold State.setBlank; split <;> simp
@[simp] theorem State.setBlank_store (s : State) (b : Bool) : (s.setBlank b).store = s.store := by
  unfold State.setBlank; split <;> simp
@[simp] theorem State.setBlank_lines (s : State) (b : Bool) : (s.setBlank b).lines = s.lines := by
  unfold State.setBlank; split <;> simp
@[simp] theorem State.setBlank_powered (s : State) (b : Bool) : (s.setBlank b).powered = s.powered := by
  unfold State.setBlank; split <;> simp
@[simp] theorem State.setBlank_pending (s : State) (b : Bool) : (s.setBlank b).pending = s.pending := by
  unfold State.setBlank; split <;> simp

/-! ### The blank timer -/

@[simp] theorem State.followBlankTimer_accounts (s : State) : (s.followBlankTimer).accounts = s.accounts := by
  unfold State.followBlankTimer; split <;> try split
  all_goals rfl
@[simp] theorem State.followBlankTimer_lamps (s : State) : (s.followBlankTimer).lamps = s.lamps := by
  unfold State.followBlankTimer; split <;> try split
  all_goals rfl
@[simp] theorem State.followBlankTimer_inputs (s : State) : (s.followBlankTimer).inputs = s.inputs := by
  unfold State.followBlankTimer; split <;> try split
  all_goals rfl
@[simp] theorem State.followBlankTimer_acq (s : State) : (s.followBlankTimer).acq = s.acq := by
  unfold State.followBlankTimer; split <;> try split
  all_goals rfl
@[simp] theorem State.followBlankTimer_tilt (s : State) : (s.followBlankTimer).tilt = s.tilt := by
  unfold State.followBlankTimer; split <;> try split
  all_goals rfl
@[simp] theorem State.followBlankTimer_lockout (s : State) : (s.followBlankTimer).lockout = s.lockout := by
  unfold State.followBlankTimer; split <;> try split
  all_goals rfl
@[simp] theorem State.followBlankTimer_clock (s : State) : (s.followBlankTimer).clock = s.clock := by
  unfold State.followBlankTimer; split <;> try split
  all_goals rfl
@[simp] theorem State.followBlankTimer_timetable (s : State) : (s.followBlankTimer).timetable = s.timetable := by
  unfold State.followBlankTimer; split <;> try split
  all_goals rfl
@[simp] theorem State.followBlankTimer_staging (s : State) : (s.followBlankTimer).staging = s.staging := by
  unfold State.followBlankTimer; split <;> try split
  all_goals rfl
@[simp] theorem State.followBlankTimer_ports (s : State) : (s.followBlankTimer).ports = s.ports := by
  unfold State.followBlankTimer; split <;> try split
  all_goals rfl
@[simp] theorem State.followBlankTimer_queues (s : State) : (s.followBlankTimer).queues = s.queues := by
  unfold State.followBlankTimer; split <;> try split
  all_goals rfl
@[simp] theorem State.followBlankTimer_handed (s : State) : (s.followBlankTimer).handed = s.handed := by
  unfold State.followBlankTimer; split <;> try split
  all_goals rfl
@[simp] theorem State.followBlankTimer_store (s : State) : (s.followBlankTimer).store = s.store := by
  unfold State.followBlankTimer; split <;> try split
  all_goals rfl
@[simp] theorem State.followBlankTimer_lines (s : State) : (s.followBlankTimer).lines = s.lines := by
  unfold State.followBlankTimer; split <;> try split
  all_goals rfl
@[simp] theorem State.followBlankTimer_powered (s : State) : (s.followBlankTimer).powered = s.powered := by
  unfold State.followBlankTimer; split <;> try split
  all_goals rfl
@[simp] theorem State.followBlankTimer_pending (s : State) : (s.followBlankTimer).pending = s.pending := by
  unfold State.followBlankTimer; split <;> try split
  all_goals rfl

/-! ### The lockout registers -/

@[simp] theorem State.setLockout_accounts (s : State) (x : Lockout) : (s.setLockout x).accounts = s.accounts := by
  unfold State.setLockout; simp only; split <;> simp
@[simp] theorem State.setLockout_lamps (s : State) (x : Lockout) : (s.setLockout x).lamps = s.lamps := by
  unfold State.setLockout; simp only; split <;> simp
@[simp] theorem State.setLockout_power (s : State) (x : Lockout) : (s.setLockout x).power = s.power := by
  unfold State.setLockout; simp only; split <;> simp
@[simp] theorem State.setLockout_inputs (s : State) (x : Lockout) : (s.setLockout x).inputs = s.inputs := by
  unfold State.setLockout; simp only; split <;> simp
@[simp] theorem State.setLockout_acq (s : State) (x : Lockout) : (s.setLockout x).acq = s.acq := by
  unfold State.setLockout; simp only; split <;> simp
@[simp] theorem State.setLockout_tilt (s : State) (x : Lockout) : (s.setLockout x).tilt = s.tilt := by
  unfold State.setLockout; simp only; split <;> simp
@[simp] theorem State.setLockout_clock (s : State) (x : Lockout) : (s.setLockout x).clock = s.clock := by
  unfold State.setLockout; simp only; split <;> simp
@[simp] theorem State.setLockout_timetable (s : State) (x : Lockout) : (s.setLockout x).timetable = s.timetable := by
  unfold State.setLockout; simp only; split <;> simp
@[simp] theorem State.setLockout_staging (s : State) (x : Lockout) : (s.setLockout x).staging = s.staging := by
  unfold State.setLockout; simp only; split <;> simp
@[simp] theorem State.setLockout_ports (s : State) (x : Lockout) : (s.setLockout x).ports = s.ports := by
  unfold State.setLockout; simp only; split <;> simp
@[simp] theorem State.setLockout_store (s : State) (x : Lockout) : (s.setLockout x).store = s.store := by
  unfold State.setLockout; simp only; split <;> simp
@[simp] theorem State.setLockout_lines (s : State) (x : Lockout) : (s.setLockout x).lines = s.lines := by
  unfold State.setLockout; simp only; split <;> simp
@[simp] theorem State.setLockout_powered (s : State) (x : Lockout) : (s.setLockout x).powered = s.powered := by
  unfold State.setLockout; simp only; split <;> simp
@[simp] theorem State.setLockout_pending (s : State) (x : Lockout) : (s.setLockout x).pending = s.pending := by
  unfold State.setLockout; simp only; split <;> simp

/-! ### A recomputation of the geometry -/

@[simp] theorem State.recomputeGeometry_accounts (s : State) : (s.recomputeGeometry).accounts = s.accounts := by
  unfold State.recomputeGeometry; simp only; split <;> simp
@[simp] theorem State.recomputeGeometry_lamps (s : State) : (s.recomputeGeometry).lamps = s.lamps := by
  unfold State.recomputeGeometry; simp only; split <;> simp
@[simp] theorem State.recomputeGeometry_power (s : State) : (s.recomputeGeometry).power = s.power := by
  unfold State.recomputeGeometry; simp only; split <;> simp
@[simp] theorem State.recomputeGeometry_inputs (s : State) : (s.recomputeGeometry).inputs = s.inputs := by
  unfold State.recomputeGeometry; simp only; split <;> simp
@[simp] theorem State.recomputeGeometry_acq (s : State) : (s.recomputeGeometry).acq = s.acq := by
  unfold State.recomputeGeometry; simp only; split <;> simp
@[simp] theorem State.recomputeGeometry_lockout (s : State) : (s.recomputeGeometry).lockout = s.lockout := by
  unfold State.recomputeGeometry; simp only; split <;> simp
@[simp] theorem State.recomputeGeometry_clock (s : State) : (s.recomputeGeometry).clock = s.clock := by
  unfold State.recomputeGeometry; simp only; split <;> simp
@[simp] theorem State.recomputeGeometry_timetable (s : State) : (s.recomputeGeometry).timetable = s.timetable := by
  unfold State.recomputeGeometry; simp only; split <;> simp
@[simp] theorem State.recomputeGeometry_staging (s : State) : (s.recomputeGeometry).staging = s.staging := by
  unfold State.recomputeGeometry; simp only; split <;> simp
@[simp] theorem State.recomputeGeometry_ports (s : State) : (s.recomputeGeometry).ports = s.ports := by
  unfold State.recomputeGeometry; simp only; split <;> simp
@[simp] theorem State.recomputeGeometry_store (s : State) : (s.recomputeGeometry).store = s.store := by
  unfold State.recomputeGeometry; simp only; split <;> simp
@[simp] theorem State.recomputeGeometry_lines (s : State) : (s.recomputeGeometry).lines = s.lines := by
  unfold State.recomputeGeometry; simp only; split <;> simp
@[simp] theorem State.recomputeGeometry_powered (s : State) : (s.recomputeGeometry).powered = s.powered := by
  unfold State.recomputeGeometry; simp only; split <;> simp
@[simp] theorem State.recomputeGeometry_pending (s : State) : (s.recomputeGeometry).pending = s.pending := by
  unfold State.recomputeGeometry; simp only; split <;> simp

/-! ### A recomputation of a life state -/

@[simp] theorem State.recomputeLife_lamps (s : State) (l : Lamp) : (s.recomputeLife l).lamps = s.lamps := by
  unfold State.recomputeLife; simp only; split <;> simp
@[simp] theorem State.recomputeLife_power (s : State) (l : Lamp) : (s.recomputeLife l).power = s.power := by
  unfold State.recomputeLife; simp only; split <;> simp
@[simp] theorem State.recomputeLife_inputs (s : State) (l : Lamp) : (s.recomputeLife l).inputs = s.inputs := by
  unfold State.recomputeLife; simp only; split <;> simp
@[simp] theorem State.recomputeLife_acq (s : State) (l : Lamp) : (s.recomputeLife l).acq = s.acq := by
  unfold State.recomputeLife; simp only; split <;> simp
@[simp] theorem State.recomputeLife_tilt (s : State) (l : Lamp) : (s.recomputeLife l).tilt = s.tilt := by
  unfold State.recomputeLife; simp only; split <;> simp
@[simp] theorem State.recomputeLife_lockout (s : State) (l : Lamp) : (s.recomputeLife l).lockout = s.lockout := by
  unfold State.recomputeLife; simp only; split <;> simp
@[simp] theorem State.recomputeLife_clock (s : State) (l : Lamp) : (s.recomputeLife l).clock = s.clock := by
  unfold State.recomputeLife; simp only; split <;> simp
@[simp] theorem State.recomputeLife_timetable (s : State) (l : Lamp) : (s.recomputeLife l).timetable = s.timetable := by
  unfold State.recomputeLife; simp only; split <;> simp
@[simp] theorem State.recomputeLife_staging (s : State) (l : Lamp) : (s.recomputeLife l).staging = s.staging := by
  unfold State.recomputeLife; simp only; split <;> simp
@[simp] theorem State.recomputeLife_ports (s : State) (l : Lamp) : (s.recomputeLife l).ports = s.ports := by
  unfold State.recomputeLife; simp only; split <;> simp
@[simp] theorem State.recomputeLife_store (s : State) (l : Lamp) : (s.recomputeLife l).store = s.store := by
  unfold State.recomputeLife; simp only; split <;> simp
@[simp] theorem State.recomputeLife_lines (s : State) (l : Lamp) : (s.recomputeLife l).lines = s.lines := by
  unfold State.recomputeLife; simp only; split <;> simp
@[simp] theorem State.recomputeLife_powered (s : State) (l : Lamp) : (s.recomputeLife l).powered = s.powered := by
  unfold State.recomputeLife; simp only; split <;> simp
@[simp] theorem State.recomputeLife_pending (s : State) (l : Lamp) : (s.recomputeLife l).pending = s.pending := by
  unfold State.recomputeLife; simp only; split <;> simp

/-! ### A change of the presets named -/

@[simp] theorem State.handPresets_accounts (s : State) (b r : Option (Fin 8)) (c : Bool) : (s.handPresets b r c).accounts = s.accounts := by
  unfold State.handPresets; simp only; split <;> simp
@[simp] theorem State.handPresets_lamps (s : State) (b r : Option (Fin 8)) (c : Bool) : (s.handPresets b r c).lamps = s.lamps := by
  unfold State.handPresets; simp only; split <;> simp
@[simp] theorem State.handPresets_power (s : State) (b r : Option (Fin 8)) (c : Bool) : (s.handPresets b r c).power = s.power := by
  unfold State.handPresets; simp only; split <;> simp
@[simp] theorem State.handPresets_inputs (s : State) (b r : Option (Fin 8)) (c : Bool) : (s.handPresets b r c).inputs = s.inputs := by
  unfold State.handPresets; simp only; split <;> simp
@[simp] theorem State.handPresets_acq (s : State) (b r : Option (Fin 8)) (c : Bool) : (s.handPresets b r c).acq = s.acq := by
  unfold State.handPresets; simp only; split <;> simp
@[simp] theorem State.handPresets_lockout (s : State) (b r : Option (Fin 8)) (c : Bool) : (s.handPresets b r c).lockout = s.lockout := by
  unfold State.handPresets; simp only; split <;> simp
@[simp] theorem State.handPresets_clock (s : State) (b r : Option (Fin 8)) (c : Bool) : (s.handPresets b r c).clock = s.clock := by
  unfold State.handPresets; simp only; split <;> simp
@[simp] theorem State.handPresets_timetable (s : State) (b r : Option (Fin 8)) (c : Bool) : (s.handPresets b r c).timetable = s.timetable := by
  unfold State.handPresets; simp only; split <;> simp
@[simp] theorem State.handPresets_staging (s : State) (b r : Option (Fin 8)) (c : Bool) : (s.handPresets b r c).staging = s.staging := by
  unfold State.handPresets; simp only; split <;> simp
@[simp] theorem State.handPresets_ports (s : State) (b r : Option (Fin 8)) (c : Bool) : (s.handPresets b r c).ports = s.ports := by
  unfold State.handPresets; simp only; split <;> simp
@[simp] theorem State.handPresets_store (s : State) (b r : Option (Fin 8)) (c : Bool) : (s.handPresets b r c).store = s.store := by
  unfold State.handPresets; simp only; split <;> simp
@[simp] theorem State.handPresets_lines (s : State) (b r : Option (Fin 8)) (c : Bool) : (s.handPresets b r c).lines = s.lines := by
  unfold State.handPresets; simp only; split <;> simp
@[simp] theorem State.handPresets_powered (s : State) (b r : Option (Fin 8)) (c : Bool) : (s.handPresets b r c).powered = s.powered := by
  unfold State.handPresets; simp only; split <;> simp
@[simp] theorem State.handPresets_pending (s : State) (b r : Option (Fin 8)) (c : Bool) : (s.handPresets b r c).pending = s.pending := by
  unfold State.handPresets; simp only; split <;> simp

/-! ### The session trims cleared -/

@[simp] theorem State.clearTrims_accounts (s : State) : (s.clearTrims).accounts = s.accounts := by simp [State.clearTrims]
@[simp] theorem State.clearTrims_lamps (s : State) : (s.clearTrims).lamps = s.lamps := by simp [State.clearTrims]
@[simp] theorem State.clearTrims_power (s : State) : (s.clearTrims).power = s.power := by simp [State.clearTrims]
@[simp] theorem State.clearTrims_inputs (s : State) : (s.clearTrims).inputs = s.inputs := by simp [State.clearTrims]
@[simp] theorem State.clearTrims_acq (s : State) : (s.clearTrims).acq = s.acq := by simp [State.clearTrims]
@[simp] theorem State.clearTrims_lockout (s : State) : (s.clearTrims).lockout = s.lockout := by simp [State.clearTrims]
@[simp] theorem State.clearTrims_clock (s : State) : (s.clearTrims).clock = s.clock := by simp [State.clearTrims]
@[simp] theorem State.clearTrims_timetable (s : State) : (s.clearTrims).timetable = s.timetable := by simp [State.clearTrims]
@[simp] theorem State.clearTrims_staging (s : State) : (s.clearTrims).staging = s.staging := by simp [State.clearTrims]
@[simp] theorem State.clearTrims_ports (s : State) : (s.clearTrims).ports = s.ports := by simp [State.clearTrims]
@[simp] theorem State.clearTrims_store (s : State) : (s.clearTrims).store = s.store := by simp [State.clearTrims]
@[simp] theorem State.clearTrims_lines (s : State) : (s.clearTrims).lines = s.lines := by simp [State.clearTrims]
@[simp] theorem State.clearTrims_powered (s : State) : (s.clearTrims).powered = s.powered := by simp [State.clearTrims]
@[simp] theorem State.clearTrims_pending (s : State) : (s.clearTrims).pending = s.pending := by simp [State.clearTrims]

/-! ### POWER-STATE -/

@[simp] theorem State.reportPower_accounts (s : State) (n : Nat) : (s.reportPower n).accounts = s.accounts := by
  unfold State.reportPower; split <;> simp
@[simp] theorem State.reportPower_lamps (s : State) (n : Nat) : (s.reportPower n).lamps = s.lamps := by
  unfold State.reportPower; split <;> simp
@[simp] theorem State.reportPower_power (s : State) (n : Nat) : (s.reportPower n).power = s.power := by
  unfold State.reportPower; split <;> simp
@[simp] theorem State.reportPower_inputs (s : State) (n : Nat) : (s.reportPower n).inputs = s.inputs := by
  unfold State.reportPower; split <;> simp
@[simp] theorem State.reportPower_acq (s : State) (n : Nat) : (s.reportPower n).acq = s.acq := by
  unfold State.reportPower; split <;> simp
@[simp] theorem State.reportPower_tilt (s : State) (n : Nat) : (s.reportPower n).tilt = s.tilt := by
  unfold State.reportPower; split <;> simp
@[simp] theorem State.reportPower_lockout (s : State) (n : Nat) : (s.reportPower n).lockout = s.lockout := by
  unfold State.reportPower; split <;> simp
@[simp] theorem State.reportPower_clock (s : State) (n : Nat) : (s.reportPower n).clock = s.clock := by
  unfold State.reportPower; split <;> simp
@[simp] theorem State.reportPower_timetable (s : State) (n : Nat) : (s.reportPower n).timetable = s.timetable := by
  unfold State.reportPower; split <;> simp
@[simp] theorem State.reportPower_staging (s : State) (n : Nat) : (s.reportPower n).staging = s.staging := by
  unfold State.reportPower; split <;> simp
@[simp] theorem State.reportPower_ports (s : State) (n : Nat) : (s.reportPower n).ports = s.ports := by
  unfold State.reportPower; split <;> simp
@[simp] theorem State.reportPower_store (s : State) (n : Nat) : (s.reportPower n).store = s.store := by
  unfold State.reportPower; split <;> simp
@[simp] theorem State.reportPower_lines (s : State) (n : Nat) : (s.reportPower n).lines = s.lines := by
  unfold State.reportPower; split <;> simp
@[simp] theorem State.reportPower_powered (s : State) (n : Nat) : (s.reportPower n).powered = s.powered := by
  unfold State.reportPower; split <;> simp
@[simp] theorem State.reportPower_pending (s : State) (n : Nat) : (s.reportPower n).pending = s.pending := by
  unfold State.reportPower; split <;> simp

end Sys2Proof.Machine
end

