-- ==== Sys2Proof/Laws/Operations.lean ====
section
/-! SUPPORT. One lemma for each shared operation that says once what it can do. -/

namespace Sys2Proof.Machine

/-! ### Numbers -/

theorem satAdd_le (top a b : Nat) : satAdd top a b ≤ top := Nat.min_le_left _ _

/-- R7: a saturating addition never lowers a counter that is in range. -/
theorem le_satAdd {top a : Nat} (b : Nat) (h : a ≤ top) : a ≤ satAdd top a b := Nat.le_min.mpr ⟨h, Nat.le_add_right a b⟩

theorem clampNat_bounds {lo hi : Nat} (n : Nat) (h : lo ≤ hi) : lo ≤ clampNat lo hi n ∧ clampNat lo hi n ≤ hi :=
  ⟨Nat.le_max_left _ _, Nat.max_le.mpr ⟨h, Nat.min_le_left _ _⟩⟩

theorem clampNat_of_bounds {lo hi n : Nat} (h : lo ≤ n) (h' : n ≤ hi) : clampNat lo hi n = n := by
  simp only [clampNat]; omega

theorem clampInt_bounds {lo hi : Int} (x : Int) (h : lo ≤ hi) : lo ≤ clampInt lo hi x ∧ clampInt lo hi x ≤ hi := by
  simp only [clampInt]; omega

theorem clampInt_of_bounds {lo hi x : Int} (h : lo ≤ x) (h' : x ≤ hi) : clampInt lo hi x = x := by
  simp only [clampInt]; omega

theorem readU16_lt (lo hi : Byte) : readU16 lo hi < 65536 := by
  have := lo.isLt; have := hi.isLt; simp only [readU16]; omega

/-- A two-byte number is read back as it was written. -/
theorem readU16_byteOf {n : Nat} (h : n < 65536) : readU16 (byteOf n) (byteOf (n / 256)) = n := by
  simp only [readU16, byteOf, BitVec.toNat_ofNat]; omega

/-- The numeric value of a byte written as a number is the number. -/
theorem byteOf_toNat (x : Byte) : byteOf x.toNat = x := by simp [byteOf]

/-! ### Codes (R175) -/

@[simp] theorem readLamp_lampByte (l : Lamp) : readLamp (lampByte l) = some l := by cases l <;> rfl
@[simp] theorem readFlag_flagByte (b : Bool) : readFlag (flagByte b) = some b := by cases b <;> rfl
@[simp] theorem readLevel_levelByte (x : PowerLevel) : readLevel (levelByte x) = some x := by cases x <;> rfl
@[simp] theorem readPresetMode_byte (x : PresetMode) : readPresetMode (presetModeByte x) = some x := by cases x <;> rfl
@[simp] theorem readBookingMode_byte (x : BookingMode) : readBookingMode (bookingModeByte x) = some x := by cases x <;> rfl
@[simp] theorem readPresetRef_byte (x : Option (Fin 8)) : readPresetRef (presetRefByte x) = some x := by
  revert x; decide

/-! ### Lamps one after the other -/

/-- `forLamps` serves exactly the lamps of the set, in one order or the other (log 5). -/
theorem forLamps_cases {α : Type} (sel : PerLamp Bool) (f : Lamp → α → α) (x : α) :
    forLamps sel f x = (if sel.a then (if sel.b then (if Config.lampBFirst then f .a (f .b x) else f .b (f .a x)) else f .a x)
      else if sel.b then f .b x else x) := by
  obtain ⟨a, b⟩ := sel
  cases a <;> cases b <;> rfl

/-- What every single service keeps, `forLamps` keeps. -/
theorem forLamps_keeps {α : Type} (P : α → Prop) (sel : PerLamp Bool) (f : Lamp → α → α) (x : α)
    (h : ∀ l y, P y → P (f l y)) (hx : P x) : P (forLamps sel f x) := by
  rw [forLamps_cases]
  repeat' split
  all_goals first | exact hx | exact h _ _ hx | exact h _ _ (h _ _ hx)

/-! ### Notices (R178, R180) -/

/-- R180: the four things a queue can do with a notice. -/
theorem NoticeQueue.enqueue_cases (q : NoticeQueue) (n : Notice) :
    (q.enqueue n).mask = q.mask ∧ ((q.enqueue n).notices = q.notices ++ [n] ∨
      (q.enqueue n).notices = q.notices.map (fun m => if m.topic == n.topic then n else m) ∨
      (q.enqueue n).notices = q.notices ∨
      ∃ low, (q.enqueue n).notices = q.notices.eraseP (fun m => m.topic.priority == low) ++ [n]) := by
  unfold NoticeQueue.enqueue
  split
  · exact ⟨rfl, .inr (.inl rfl)⟩
  · simp only [NoticeQueue.admitNew]
    split
    · exact ⟨rfl, .inl rfl⟩
    · split
      · split
        · exact ⟨rfl, .inr (.inr (.inr ⟨_, rfl⟩))⟩
        · exact ⟨rfl, .inr (.inr (.inl rfl))⟩
      · exact ⟨rfl, .inr (.inr (.inl rfl))⟩

/-- R178: what a posted notice does to the queue of one port. -/
theorem State.post_queue (s : State) (t : Topic) (v : Nat) (p : Port) :
    (s.post t v).queues.get p = s.queueAfter ⟨t, BitVec.ofNat 16 v, s.clock.minute⟩ p := by
  cases p <;> rfl

/-- R178: what a posted notice does to the notices that wait at one port. -/
theorem State.post_handed (s : State) (t : Topic) (v : Nat) (p : Port) :
    (s.post t v).handed.get p = s.handedAfter ⟨t, BitVec.ofNat 16 v, s.clock.minute⟩ p := by
  cases p <;> rfl

/-- R178, log 34: the three things a posted notice can do at one port. -/
theorem State.post_cases (s : State) (n : Notice) (p : Port) :
    (p ∉ n.topic.ports ∧ s.queueAfter n p = s.queues.get p ∧ s.handedAfter n p = s.handed.get p) ∨
    (p ∈ n.topic.ports ∧ s.waitsAt n p = false ∧ s.queueAfter n p = (s.queues.get p).enqueue n ∧
      s.handedAfter n p = s.handed.get p) ∨
    (p ∈ n.topic.ports ∧ s.waitsAt n p = true ∧ s.queueAfter n p = s.queues.get p ∧
      s.handedAfter n p = s.handed.get p ++ [n]) := by
  unfold State.queueAfter State.handedAfter
  by_cases h : p ∈ n.topic.ports <;> cases hw : s.waitsAt n p <;> simp [h]

/-- R178, R180: a NOTICE_ADMISSION takes the oldest waiting notice it names, or one handed to the queue now. -/
theorem State.takeHanded_cases (s : State) (p : Port) (t : Topic) (v : BitVec 16) :
    (p ∉ t.ports ∧ s.takeHanded p t v = s) ∨
    (p ∈ t.ports ∧ (∀ n ∈ s.handed.get p, n.says t v = false) ∧ s.takeHanded p t v = s.admitAt p ⟨t, v, s.clock.minute⟩) ∨
    (p ∈ t.ports ∧ ∃ (older newer : List Notice) (n : Notice), s.handed.get p = older ++ n :: newer ∧ n.says t v = true ∧
      (∀ m ∈ older, m.says t v = false) ∧
      s.takeHanded p t v = ({ s with handed := s.handed.set p (older ++ newer) } : State).admitAt p n) := by
  unfold State.takeHanded
  by_cases h : p ∈ t.ports
  · simp only [List.contains_iff_mem.mpr h, if_true]
    cases hf : (s.handed.get p).find? (fun n => n.says t v) with
    | none =>
      exact .inr (.inl ⟨h, fun n hn => by simpa using List.find?_eq_none.mp hf n hn, rfl⟩)
    | some n =>
      obtain ⟨hn, older, newer, he, ho⟩ := List.find?_eq_some_iff_append.mp hf
      refine .inr (.inr ⟨h, older, newer, n, he, hn, fun m hm => by simpa using ho m hm, ?_⟩)
      have : (s.handed.get p).eraseP (fun m => m.says t v) = older ++ newer := by
        rw [he, List.eraseP_append_right _ (fun m hm => by simpa using ho m hm), List.eraseP_cons, hn]; rfl
      simp only [this]
  · exact .inl ⟨h, by simp [h]⟩

/-! ### Power and ports -/

theorem carry_powered (f : State → State) {s : State} (h : s.powered = true) : carry f s = .next (f s) := by
  simp only [carry, whenPowered, h, if_true]

theorem carry_unpowered (f : State → State) {s : State} (h : s.powered = false) : carry f s = .next s := by
  simp only [carry, whenPowered, h]; rfl

/-- Log 1: a request command is its frame sent to its port. -/
theorem exec_ofRequest (r : Request) (p : Port) (d : List Byte) (s : State) :
    exec (Instr.ofRequest r p d) s = carry (fun s => s.sendFrame p r.code d) s := by
  cases r <;> rfl

/-- R170: a ready port takes a frame that fits. -/
theorem State.Ready.sendFrame {s : State} {p : Port} (h : s.Ready p) (code : Byte) {d : List Byte} (hd : d.length ≤ 64) :
    s.sendFrame p code d = s.takeFrame p (keptFrame code d) code d := by
  simp only [State.sendFrame, h.2, Config.payloadMax, hd, and_self, if_true]

/-- R170: the five outcomes of a frame with the right CHECK byte. -/
theorem dispatch_cases (p : Port) (code : Byte) (d : List Byte) (s : State) :
    (lookupCode code = none ∧ dispatch p code d s = (s, ⟨.unknownRequest, []⟩)) ∨
    ∃ row, lookupCode code = some row ∧
      ((p ∉ row.ports ∧ dispatch p code d s = (s, ⟨.notPermitted, []⟩)) ∨
       (p ∈ row.ports ∧ p = .panel ∧ ∃ x, s.panelFilter row.request d = some x ∧ dispatch p code d s = (s, x)) ∨
       (p ∈ row.ports ∧ (p = .panel → s.panelFilter row.request d = none) ∧
         ((d.length ≠ row.length ∧ dispatch p code d s = (s, badLength)) ∨
          (d.length = row.length ∧ dispatch p code d s = owner row.request p d s)))) := by
  unfold dispatch
  cases hc : lookupCode code with
  | none => exact .inl ⟨rfl, rfl⟩
  | some row =>
    refine .inr ⟨row, rfl, ?_⟩
    by_cases hp : p ∈ row.ports
    · simp only [List.contains_iff_mem.mpr hp, if_true, carryOut]
      by_cases h : p = .panel
      · cases hf : s.panelFilter row.request d with
        | some x => exact .inr (.inl ⟨hp, h, x, rfl, by simp only [h, if_true]⟩)
        | none =>
          refine .inr (.inr ⟨hp, fun _ => rfl, ?_⟩)
          simp only [h, if_true]
          by_cases hl : d.length = row.length
          · exact .inr ⟨hl, if_pos hl⟩
          · exact .inl ⟨hl, if_neg hl⟩
      · refine .inr (.inr ⟨hp, fun h' => absurd h' h, ?_⟩)
        simp only [h, if_false]
        by_cases hl : d.length = row.length
        · exact .inr ⟨hl, if_pos hl⟩
        · exact .inl ⟨hl, if_neg hl⟩
    · exact .inl ⟨hp, if_neg (by simpa using hp)⟩

/-! ### The run of the hand-offs -/

@[simp] theorem Work.run_empty (n : Nat) (s : State) : Work.run n ⟨s, []⟩ = s := by cases n <;> rfl

theorem Work.run_cons (n : Nat) (s : State) (h : Handoff) (rest : List Handoff) :
    Work.run (n + 1) ⟨s, h :: rest⟩ = Work.run n (Work.take h ⟨s, rest⟩) := rfl

/-- What every hand-off keeps, the whole run keeps. -/
theorem Work.run_keeps (P : State → Prop) (h : ∀ (x : Handoff) (w : Work), P w.s → P (Work.take x w).s) :
    ∀ (n : Nat) (w : Work), P w.s → P (Work.run n w)
  | 0, _, hw => hw
  | _ + 1, ⟨_, []⟩, hw => hw
  | n + 1, ⟨s, x :: rest⟩, hw => Work.run_keeps P h n _ (h x ⟨s, rest⟩ hw)

/-- What an operation and every hand-off keep, the operation with everything it leads to keeps. -/
theorem State.settle_keeps (P : State → Prop) (f : Work → Work) (s : State) (hf : P (f ⟨s, []⟩).s)
    (h : ∀ (x : Handoff) (w : Work), P w.s → P (Work.take x w).s) : P (s.settle f) := Work.run_keeps P h _ _ hf

/-! ### Blank timer, geometry and lockout -/

/-- R65: where the four conditions do not hold, the timer stops and the spent mark goes. -/
theorem State.followBlankTimer_off {s : State} (h : s.blankTiming = false) :
    s.followBlankTimer = { s with power.blankTimer := none, power.blankSpent := false } := by
  simp only [State.followBlankTimer, h]; rfl

/-- R65: where they hold and the timer runs or is spent, nothing changes. -/
theorem State.followBlankTimer_on {s : State} (h : s.blankTiming = true)
    (h' : (s.power.blankTimer.isSome || s.power.blankSpent) = true) : s.followBlankTimer = s := by
  simp only [State.followBlankTimer, h, h', if_true]

/-- R65: where they have come to hold, the timer starts. -/
theorem State.followBlankTimer_start {s : State} (h : s.blankTiming = true)
    (h' : (s.power.blankTimer.isSome || s.power.blankSpent) = false) :
    s.followBlankTimer = { s with power.blankTimer := some (60 * s.power.settings.blankTimeout) } := by
  simp only [State.followBlankTimer, h, h', if_true]; rfl

/-- R65: once the blank timer follows its conditions, it stands as they require. -/
theorem State.followBlankTimer_legal (s : State) : s.followBlankTimer.BlankLegal := by
  unfold State.BlankLegal
  cases h : s.blankTiming with
  | false => rw [State.followBlankTimer_off h]; exact State.followBlankTimer_off h
  | true =>
    cases h' : (s.power.blankTimer.isSome || s.power.blankSpent) with
    | true => rw [State.followBlankTimer_on h h']; exact State.followBlankTimer_on h h'
    | false => rw [State.followBlankTimer_start h h']; exact State.followBlankTimer_on h rfl

/-- R120: of the record held, only the generation is part of what is formed. -/
theorem Tilt.form_record (t : Tilt) (r : GeometryRecord) :
    ({ t with record := r } : Tilt).form = { t.form with generation := r.generation } := by
  by_cases h : t.preset.mode = .off
  · have h' : ({ t with record := r } : Tilt).preset.mode = .off := h
    rw [Tilt.form, if_pos h', Tilt.form, if_pos h]
  · have h' : ¬ ({ t with record := r } : Tilt).preset.mode = .off := h
    rw [Tilt.form, if_neg h', Tilt.form, if_neg h]
    rfl

/-- R120: a recomputation that finds no difference. -/
theorem State.recomputeGeometry_same {s : State} (h : s.tilt.form = s.tilt.record) : s.recomputeGeometry = s := if_pos h

/-- R120: a recomputation that finds a difference. -/
theorem State.recomputeGeometry_changed {s : State} (h : s.tilt.form ≠ s.tilt.record) :
    s.recomputeGeometry = ({ s with tilt.record := { s.tilt.form with
      generation := (s.tilt.record.generation + 1) % 256 } } : State).post .geometryChanged ((s.tilt.record.generation + 1) % 256) :=
  if_neg h

/-- R120: after a recomputation the record is the one that the present values form. -/
theorem State.recomputeGeometry_form (s : State) : s.recomputeGeometry.tilt.form = s.recomputeGeometry.tilt.record := by
  by_cases h : s.tilt.form = s.tilt.record
  · rw [State.recomputeGeometry_same h]; exact h
  · rw [State.recomputeGeometry_changed h, State.post_tilt]; exact Tilt.form_record _ _

/-- R120: a recomputation changes the record and nothing else of the TGU. -/
theorem State.recomputeGeometry_tilt (s : State) :
    s.recomputeGeometry.tilt = { s.tilt with record := s.recomputeGeometry.tilt.record } := by
  by_cases h : s.tilt.form = s.tilt.record
  · rw [State.recomputeGeometry_same h]
  · rw [State.recomputeGeometry_changed h, State.post_tilt]

/-- R117: a hand-off of presets leaves the index that they give. -/
theorem State.handPresets_index (s : State) (booking row : Option (Fin 8)) (clear : Bool) :
    (s.handPresets booking row clear).tilt.index = chooseIndex booking row := by
  unfold State.handPresets
  by_cases h : (chooseIndex booking row != s.tilt.index || clear) = true
  · simp only [h, if_true]; rw [State.recomputeGeometry_tilt]
  · simp only [h]; rfl

/-- R125: every change of an input leaves the effective level current. -/
theorem State.setLockout_current (s : State) (x : Lockout) : (s.setLockout x).lockout.Current := by
  unfold State.setLockout
  simp only
  split
  · rfl
  · rw [State.post_lockout]; rfl

/-- R21: a save leaves the store holding what the LAU holds. -/
theorem State.saveAccounts_store (s : State) :
    s.saveAccounts.store.accounts = some s.accounts.saved ∧ s.saveAccounts.accounts.saved = s.accounts.saved ∧
      s.saveAccounts.accounts.litTicks = 0 := ⟨rfl, rfl, rfl⟩

end Sys2Proof.Machine
end

