-- ==== Sys2Proof/Laws/PerInstr.lean ====
section
/-! SUPPORT. The statement that every command's frame spells it, and its lemma for each command. -/

/-- R168, R170, R171: the frame that a well-formed command stands for decodes to that command. -/
def Sys2Proof.Laws.FrameRoundTrip.Statement (i : Sys2Proof.Instr) : Prop :=
  ∀ (p : Sys2Proof.Port) (code : Sys2Proof.Byte) (d : List Sys2Proof.Byte),
    i.frame? = some (p, code, d) → i.wf = true → Sys2Proof.decodeFrame p code d = i

namespace Sys2Proof.Laws

/-- A request's frame spells it. -/
theorem frameRoundTrip_ofRequest (r : Request) (p : Port) (d : List Byte) : FrameRoundTrip.Statement (Instr.ofRequest r p d) := by
  intro p' code' d' h _
  rw [frame?_ofRequest] at h
  cases h
  exact decodeFrame_code r p d

/-- A command without a frame has nothing to spell. -/
theorem frameRoundTrip_noFrame {i : Instr} (h : i.frame? = none) : FrameRoundTrip.Statement i := by
  intro p code d hf
  rw [h] at hf
  cases hf

end Sys2Proof.Laws

namespace Sys2Proof.Laws.FrameRoundTrip

theorem readStatus (p : Port) (d : List Byte) : Statement (.readStatus p d) := frameRoundTrip_ofRequest .readStatus p d
theorem takeNotice (p : Port) (d : List Byte) : Statement (.takeNotice p d) := frameRoundTrip_ofRequest .takeNotice p d
theorem setNoticeMask (p : Port) (d : List Byte) : Statement (.setNoticeMask p d) := frameRoundTrip_ofRequest .setNoticeMask p d
theorem powerOn (p : Port) (d : List Byte) : Statement (.powerOn p d) := frameRoundTrip_ofRequest .powerOn p d
theorem powerOff (p : Port) (d : List Byte) : Statement (.powerOff p d) := frameRoundTrip_ofRequest .powerOff p d
theorem setLampPower (p : Port) (d : List Byte) : Statement (.setLampPower p d) := frameRoundTrip_ofRequest .setLampPower p d
theorem setBlank (p : Port) (d : List Byte) : Statement (.setBlank p d) := frameRoundTrip_ofRequest .setBlank p d
theorem facilityPowerClaim (p : Port) (d : List Byte) : Statement (.facilityPowerClaim p d) := frameRoundTrip_ofRequest .facilityPowerClaim p d
theorem setPowerDefaults (p : Port) (d : List Byte) : Statement (.setPowerDefaults p d) := frameRoundTrip_ofRequest .setPowerDefaults p d
theorem selectInput (p : Port) (d : List Byte) : Statement (.selectInput p d) := frameRoundTrip_ofRequest .selectInput p d
theorem selectClass (p : Port) (d : List Byte) : Statement (.selectClass p d) := frameRoundTrip_ofRequest .selectClass p d
theorem writeInputRow (p : Port) (d : List Byte) : Statement (.writeInputRow p d) := frameRoundTrip_ofRequest .writeInputRow p d
theorem readInputRow (p : Port) (d : List Byte) : Statement (.readInputRow p d) := frameRoundTrip_ofRequest .readInputRow p d
theorem setAcquisitionParameters (p : Port) (d : List Byte) : Statement (.setAcquisitionParameters p d) := frameRoundTrip_ofRequest .setAcquisitionParameters p d
theorem nudgeCorner (p : Port) (d : List Byte) : Statement (.nudgeCorner p d) := frameRoundTrip_ofRequest .nudgeCorner p d
theorem clearSessionTrims (p : Port) (d : List Byte) : Statement (.clearSessionTrims p d) := frameRoundTrip_ofRequest .clearSessionTrims p d
theorem writePreset (p : Port) (d : List Byte) : Statement (.writePreset p d) := frameRoundTrip_ofRequest .writePreset p d
theorem readPreset (p : Port) (d : List Byte) : Statement (.readPreset p d) := frameRoundTrip_ofRequest .readPreset p d
theorem storeSessionTrims (p : Port) (d : List Byte) : Statement (.storeSessionTrims p d) := frameRoundTrip_ofRequest .storeSessionTrims p d
theorem setKeystoneCalibration (p : Port) (d : List Byte) : Statement (.setKeystoneCalibration p d) := frameRoundTrip_ofRequest .setKeystoneCalibration p d
theorem armHoming (p : Port) (d : List Byte) : Statement (.armHoming p d) := frameRoundTrip_ofRequest .armHoming p d
theorem readGeometry (p : Port) (d : List Byte) : Statement (.readGeometry p d) := frameRoundTrip_ofRequest .readGeometry p d
theorem readCorners (p : Port) (d : List Byte) : Statement (.readCorners p d) := frameRoundTrip_ofRequest .readCorners p d
theorem readTilt (p : Port) (d : List Byte) : Statement (.readTilt p d) := frameRoundTrip_ofRequest .readTilt p d
theorem extendBooking (p : Port) (d : List Byte) : Statement (.extendBooking p d) := frameRoundTrip_ofRequest .extendBooking p d
theorem setTime (p : Port) (d : List Byte) : Statement (.setTime p d) := frameRoundTrip_ofRequest .setTime p d
theorem readScheduleState (p : Port) (d : List Byte) : Statement (.readScheduleState p d) := frameRoundTrip_ofRequest .readScheduleState p d
theorem readBookings (p : Port) (d : List Byte) : Statement (.readBookings p d) := frameRoundTrip_ofRequest .readBookings p d
theorem stageBegin (p : Port) (d : List Byte) : Statement (.stageBegin p d) := frameRoundTrip_ofRequest .stageBegin p d
theorem stageAppend (p : Port) (d : List Byte) : Statement (.stageAppend p d) := frameRoundTrip_ofRequest .stageAppend p d
theorem stageCommit (p : Port) (d : List Byte) : Statement (.stageCommit p d) := frameRoundTrip_ofRequest .stageCommit p d
theorem insertBooking (p : Port) (d : List Byte) : Statement (.insertBooking p d) := frameRoundTrip_ofRequest .insertBooking p d
theorem deleteBooking (p : Port) (d : List Byte) : Statement (.deleteBooking p d) := frameRoundTrip_ofRequest .deleteBooking p d
theorem setScheduleEnable (p : Port) (d : List Byte) : Statement (.setScheduleEnable p d) := frameRoundTrip_ofRequest .setScheduleEnable p d
theorem setManualLockout (p : Port) (d : List Byte) : Statement (.setManualLockout p d) := frameRoundTrip_ofRequest .setManualLockout p d
theorem openServiceWindow (p : Port) (d : List Byte) : Statement (.openServiceWindow p d) := frameRoundTrip_ofRequest .openServiceWindow p d
theorem closeServiceWindow (p : Port) (d : List Byte) : Statement (.closeServiceWindow p d) := frameRoundTrip_ofRequest .closeServiceWindow p d
theorem readLockout (p : Port) (d : List Byte) : Statement (.readLockout p d) := frameRoundTrip_ofRequest .readLockout p d
theorem readLampAccount (p : Port) (d : List Byte) : Statement (.readLampAccount p d) := frameRoundTrip_ofRequest .readLampAccount p d
theorem takeAccountSnapshot (p : Port) (d : List Byte) : Statement (.takeAccountSnapshot p d) := frameRoundTrip_ofRequest .takeAccountSnapshot p d
theorem readSnapshot (p : Port) (d : List Byte) : Statement (.readSnapshot p d) := frameRoundTrip_ofRequest .readSnapshot p d
theorem setLampThresholds (p : Port) (d : List Byte) : Statement (.setLampThresholds p d) := frameRoundTrip_ofRequest .setLampThresholds p d
theorem setLampParameters (p : Port) (d : List Byte) : Statement (.setLampParameters p d) := frameRoundTrip_ofRequest .setLampParameters p d
theorem lampReplaced (p : Port) (d : List Byte) : Statement (.lampReplaced p d) := frameRoundTrip_ofRequest .lampReplaced p d
theorem readReplacementHistory (p : Port) (d : List Byte) : Statement (.readReplacementHistory p d) := frameRoundTrip_ofRequest .readReplacementHistory p d
theorem clearLampFault (p : Port) (d : List Byte) : Statement (.clearLampFault p d) := frameRoundTrip_ofRequest .clearLampFault p d
theorem serviceReset (p : Port) (d : List Byte) : Statement (.serviceReset p d) := frameRoundTrip_ofRequest .serviceReset p d
theorem factoryReset (p : Port) (d : List Byte) : Statement (.factoryReset p d) := frameRoundTrip_ofRequest .factoryReset p d
theorem syncReport (p : Port) (d : List Byte) : Statement (.syncReport p d) := frameRoundTrip_ofRequest .syncReport p d
theorem presenceReport (p : Port) (d : List Byte) : Statement (.presenceReport p d) := frameRoundTrip_ofRequest .presenceReport p d
theorem thermalTrip (p : Port) (d : List Byte) : Statement (.thermalTrip p d) := frameRoundTrip_ofRequest .thermalTrip p d
theorem thermalClear (p : Port) (d : List Byte) : Statement (.thermalClear p d) := frameRoundTrip_ofRequest .thermalClear p d
theorem unknownRequest (p : Port) (code : Byte) (d : List Byte) : Statement (.unknownRequest p code d) := by
  intro p' code' d' h wf
  cases h
  exact decodeFrame_unknown (by simp_all [Instr.wf]) p d
theorem interByteTimeout (p : Port) : Statement (.interByteTimeout p) := frameRoundTrip_noFrame rfl
theorem replySent (p : Port) : Statement (.replySent p) := frameRoundTrip_noFrame rfl
theorem noticeAdmission (p : Port) (topic : Topic) (value : BitVec 16) : Statement (.noticeAdmission p topic value) := frameRoundTrip_noFrame rfl
theorem minuteTick (first : TickTaker) : Statement (.minuteTick first) := frameRoundTrip_noFrame rfl
theorem ignitionWindowExpiry (l : Lamp) : Statement (.ignitionWindowExpiry l) := frameRoundTrip_noFrame rfl
theorem retryWaitExpiry (l : Lamp) : Statement (.retryWaitExpiry l) := frameRoundTrip_noFrame rfl
theorem coolDownExpiry (l : Lamp) : Statement (.coolDownExpiry l) := frameRoundTrip_noFrame rfl
theorem fanTimeEnd (l : Lamp) : Statement (.fanTimeEnd l) := frameRoundTrip_noFrame rfl
theorem litRise (l : Lamp) : Statement (.litRise l) := frameRoundTrip_noFrame rfl
theorem litFall (l : Lamp) : Statement (.litFall l) := frameRoundTrip_noFrame rfl
theorem acquisitionWindowExpiry : Statement .acquisitionWindowExpiry := frameRoundTrip_noFrame rfl
theorem settleTimerExpiry : Statement .settleTimerExpiry := frameRoundTrip_noFrame rfl
theorem encoderStep (ta tb : Bool) : Statement (.encoderStep ta tb) := frameRoundTrip_noFrame rfl
theorem indexPulse : Statement .indexPulse := frameRoundTrip_noFrame rfl
theorem blankTimerExpiry : Statement .blankTimerExpiry := frameRoundTrip_noFrame rfl
theorem graceExpiry : Statement .graceExpiry := frameRoundTrip_noFrame rfl
theorem serviceWindowExpiry : Statement .serviceWindowExpiry := frameRoundTrip_noFrame rfl
theorem powerOnReset (x : Restart) : Statement (.powerOnReset x) := frameRoundTrip_noFrame rfl
theorem hardwareReset (x : Restart) : Statement (.hardwareReset x) := frameRoundTrip_noFrame rfl
theorem portByteReceived (p : Port) (b : Byte) : Statement (.portByteReceived p b) := frameRoundTrip_noFrame rfl
theorem lossOfPower (cut : Option (Byte × List Byte)) (done : List StoreUnit) : Statement (.lossOfPower cut done) := frameRoundTrip_noFrame rfl

end Sys2Proof.Laws.FrameRoundTrip
end

