-- ==== Sys2Proof/Tests/Slice0.lean ====
section
/-! SUPPORT. The author's own tests: ill-formed commands, single steps whose expected results come from the spec's worked cases or are
worked out by hand from its rules, and for every statement with hypotheses a witness that meets them. -/

namespace Sys2Proof.Tests

open Sys2Proof Sys2Proof.Machine

/-! ### Small states -/

/-- The state after a command that is carried out. -/
def after (c : Instr) (s : State) : State :=
  match exec c s with
  | .next t => t
  | .fault _ => s
  | .refused _ => s

/-- The status and the payload of the reply that a port is sending. -/
def answerOf (p : Port) (s : State) : List Byte := ((s.ports.get p).reply.drop 3).dropLast

/-- The topics in a port's queue, with their values, oldest first. -/
def told (p : Port) (s : State) : List (Topic × Nat) := (s.queues.get p).notices.map (fun n => (n.topic, n.value.toNat))

/-- A new part with its notices taken. -/
def base : State := { State.reset with queues := ⟨emptyQueue, emptyQueue, emptyQueue⟩ }

/-- Lamps A and B in given conditions. -/
def withLamps (a b : LampCondition) (s : State) : State := { s with lamps.lamp := ⟨⟨a, 0⟩, ⟨b, 0⟩⟩ }

/-- In STANDBY with both lamps DARK. -/
def standby : State := withLamps .dark .dark { base with power.state := .standby }

/-- ON with lamp A LIT in the session under the PANEL claim, lamp B DARK. -/
def onA : State := withLamps .lit .dark { base with
  lines.lit := ⟨true, false⟩
  power := { base.power with demand := ⟨true, false, false⟩, state := .on, session := ⟨true, false⟩, latched := some .alternate } }

/-- ON with both lamps LIT in a DUAL session under the PANEL claim. -/
def onDual : State := withLamps .lit .lit { base with
  lines.lit := ⟨true, true⟩
  power := { base.power with demand := ⟨true, false, false⟩, state := .on, session := ⟨true, true⟩, latched := some .dual } }

/-- WARMING with lamp A in a given condition in an ALTERNATE session, lamp B DARK. -/
def warmingA (c : LampCondition) : State := withLamps c .dark { base with
  power := { base.power with
    demand := ⟨true, false, false⟩, state := .warming, session := ⟨true, false⟩, latched := some .alternate } }

/-- COOLING-DOWN with lamp A in a given condition and lamp B DARK, without demand. -/
def coolingA (c : LampCondition) : State := withLamps c .dark base

/-- Lamp A's account with its life state. -/
def withAccountA (x : LampAccount) (s : State) : State :=
  { s with accounts := { s.accounts with lamps := ⟨x, s.accounts.lamps.b⟩, life := ⟨x.lifeState, s.accounts.life.b⟩ } }

/-- The hall's input table of ch. 4 with the presence of its first worked case. -/
def hall (s : State) : State := { s with
  inputs := #v[⟨⟨true, 0x11, 0xFF, .auto, none⟩, true, .idle⟩, ⟨⟨true, 0x12, 0xFF, .auto, none⟩, false, .idle⟩,
    ⟨⟨true, 0x20, 0xFF, .fixed 5, some 3⟩, true, .idle⟩, ⟨⟨true, 0x31, 0xF0, .auto, none⟩, false, .idle⟩,
    ⟨⟨true, 0x32, 0xF0, .auto, none⟩, true, .idle⟩, ⟨⟨true, 0x33, 0xF0, .auto, none⟩, false, .idle⟩,
    ⟨⟨true, 0x40, 0xFF, .fixed 9, some 1⟩, true, .idle⟩, ⟨factoryRow, false, .idle⟩, ⟨factoryRow, false, .idle⟩,
    ⟨factoryRow, false, .idle⟩] }

/-- Row `n` selected with a status, and the attempt window that goes with it. -/
def selecting (n : Fin 10) (m : SelectMethod) (st : AcqStatus) (attempts : Nat) (window : Option AttemptWindow) (s : State) : State :=
  { s with
    acq := { s.acq with selected := some ⟨n, m⟩, selLines := n, attempts := attempts, window := window }
    inputs := s.inputs.set n.val { s.row n with status := st } n.isLt }

/-- The bookings 410, 411 and 412 of ch. 8's Friday. -/
def friday : List BookingConfig :=
  [⟨410, 6240, 6350, 15, 0x11, none, 1, .default, false⟩, ⟨411, 6360, 6470, 10, 0x11, none, 1, .default, true⟩,
   ⟨412, 6600, 6780, 20, 0x11, some 2, 3, .eco, true⟩]

/-- A trusted time and an enabled schedule. -/
def scheduled (table : List BookingConfig) (minute : Nat) (s : State) : State := { s with
  clock := ⟨minute, 0, true⟩
  timetable := ⟨true, table.map (fun c => ⟨c, 0, false⟩), 0, .idle, none, none⟩ }

/-- Inside the booking at a place of the table, its claims in force. -/
def inBooking (id i : Nat) (level : Fin 4) (s : State) : State := { s with
  timetable := { s.timetable with state := .active, active := some id, cursor := i }
  power.demand := { s.power.demand with schedule := true }
  lockout := { s.lockout with bookingLevel := level, bookingClass := 0x11, effective := level } }

/-! ### Commands that no sender can send -/

theorem test_wf_unknown_code : (Instr.unknownRequest .panel 0x14 [7]).wf = true := by decide
theorem test_ill_formed_known_code : (Instr.unknownRequest .panel 0x10 []).wf = false := by decide
theorem test_ill_formed_payload : (Instr.readStatus .panel (List.replicate 65 0)).wf = false := by decide
theorem test_ill_formed_unknown_payload : (Instr.unknownRequest .panel 0x14 (List.replicate 65 0)).wf = false := by decide
theorem test_ill_formed_notice_port : (Instr.noticeAdmission .panel .timeInvalid 0).wf = false := by decide
theorem test_ill_formed_booking_id : (Instr.noticeAdmission .panel (.booking 0) 1).wf = false ∧
    (Instr.noticeAdmission .panel (.booking 65536) 1).wf = false := by decide
theorem test_ill_formed_cut : (Instr.lossOfPower (some (0x71, List.replicate 65 0)) []).wf = false := by decide

/-! ### Codes, frames and ports (10) -/

/-- R171: codes and the requests they name, two of each family; the byte forms are those of R175. -/
theorem test_codes :
    decodeFrame .panel 0x01 [] = .readStatus .panel [] ∧ decodeFrame .engine 0x02 [] = .takeNotice .engine [] ∧
    decodeFrame .panel 0x10 [] = .powerOn .panel [] ∧ decodeFrame .facility 0x15 [1] = .facilityPowerClaim .facility [1] ∧
    decodeFrame .facility 0x24 [0xE8, 3, 4] = .setAcquisitionParameters .facility [0xE8, 3, 4] ∧
    decodeFrame .panel 0x30 [0, 5, 0xFB] = .nudgeCorner .panel [0, 5, 0xFB] ∧
    decodeFrame .facility 0x41 [0x9F, 5, 30] = .setTime .facility [0x9F, 5, 30] ∧
    decodeFrame .facility 0x46 [] = .stageCommit .facility [] ∧
    decodeFrame .facility 0x50 [2] = .setManualLockout .facility [2] ∧
    decodeFrame .panel 0x60 [1] = .readLampAccount .panel [1] ∧
    decodeFrame .facility 0x67 [] = .readReplacementHistory .facility [] ∧
    decodeFrame .facility 0x71 [] = .factoryReset .facility [] ∧ decodeFrame .engine 0x82 [] = .thermalTrip .engine [] ∧
    decodeFrame .facility 0x14 [7] = .unknownRequest .facility 0x14 [7] := by decide

/-- The catalogue names no code twice and leaves no request out. -/
theorem test_catalogue : (catalogue.map CatalogueRow.code).Nodup ∧ (catalogue.map CatalogueRow.request).Nodup ∧
    catalogue.length = 52 := by decide

/-- The table gives no row bits. -/
theorem test_no_table_word : decodeTableWord 8 0x10 = none := by decide
theorem test_step_takes_front : (Sys2Proof.Machine.step { base with pending := [.armHoming .facility [], .indexPulse] }) =
    exec (.armHoming .facility []) { base with pending := [.indexPulse] } := rfl

/-- Ch. 10's noisy line: the CHECK byte 0xDC completes Select Input 3, which is answered 0x7E 03 20 01 03 01 00 D8. -/
theorem test_check_byte_right :
    (after (.portByteReceived .panel 0xDC)
      (hall { base with ports.panel := ⟨.check, [1, 0x20, 3], some 20, []⟩ })).ports.panel.reply =
    [0x7E, 3, 0x20, 1, 3, 1, 0, 0xD8] := by decide
/-- Ch. 10's noisy line: 0xDB is answered BAD-FRAME. -/
theorem test_check_byte_wrong :
    answerOf .panel (after (.portByteReceived .panel 0xDB)
      (hall { base with ports.panel := ⟨.check, [1, 0x20, 3], some 20, []⟩ })) = [0x10] := by decide
theorem test_inter_byte_timeout :
    (after (.interByteTimeout .panel) { base with ports.panel := ⟨.body, [1, 0x20], some 20, []⟩ }).ports.panel = idlePort := by decide
theorem test_reply_sent :
    (after (.replySent .panel) { base with ports.panel := ⟨.replying, [], none, [0x7E]⟩ }).ports.panel = idlePort := by decide
/-- The wrong length is looked at after the port. -/
theorem test_not_permitted_before_length : answerOf .panel (after (.setTime .panel []) base) = [0x12] := by decide
theorem test_wrong_length : answerOf .facility (after (.setTime .facility []) base) = [0x13, 0] := by decide
theorem test_unknown_request : answerOf .engine (after (.unknownRequest .engine 0x14 []) base) = [0x11] := by decide

/-! ### Notices (11) -/

/-- R181: ch. 11's Take Notice carries the lost count 2 and clears it. -/
theorem test_take_notice :
    let s : State := { base with queues.panel := ⟨[⟨.booking 412, 3, 6470⟩, ⟨.lampState .b, 3, 6471⟩], 2, 3⟩ }
    answerOf .panel (after (.takeNotice .panel []) s) = [0, 15, 3, 4, 0x9C, 1, 3, 0, 0x46, 0x19, 1, 2] ∧
    (after (.takeNotice .panel []) s).queues.panel.lost = 0 := by decide
theorem test_set_notice_mask : answerOf .engine (after (.setNoticeMask .engine [9]) base) = [2, 7] := by decide

/-- Twelve notices of priority 2 and 3. -/
def twelve : List Notice := [⟨.lampState .b, 2, 0⟩] ++ (List.range 10).map (fun i => ⟨.booking (i + 1), 1, 0⟩) ++ [⟨.lampState .a, 0, 0⟩]

/-- Ch. 11: priority 3 at count 12 is dropped, its twin is coalesced. -/
theorem test_notice_dropped_at_twelve :
    (after (.noticeAdmission .panel (.inputSelected (some 4)) 0) { base with queues.panel := ⟨twelve, 0, 3⟩ }).queues.panel =
      ⟨twelve, 1, 3⟩ := by decide
/-- Ch. 11: LAMP-FAILED at count 16 takes the place of the oldest notice of priority 2. -/
theorem test_notice_displaces :
    let full := twelve ++ [⟨.powerState, 2, 0⟩, ⟨.lockoutChanged, 3, 0⟩, ⟨.blank, 1, 0⟩, ⟨.noLamp, 1, 0⟩]
    (after (.noticeAdmission .panel (.lampFailed .a) 1) { base with queues.panel := ⟨full, 1, 3⟩ }).queues.panel =
      ⟨full.tail ++ [⟨.lampFailed .a, 1, 0⟩], 2, 3⟩ := by decide

/-! ### Lamp accounts (01) -/

/-- Lamp A as ch. 1's first worked case starts, in STANDBY. -/
def wornA : LampAccount := ⟨2879500, 0, 90130, 412, 7, 3000, 300, 100⟩

/-- Ch. 1: the ignition pulse charges 240 sixteenths and counts strike 413. -/
theorem test_pulse_charges :
    let t := after (.powerOn .panel []) (withAccountA wornA { standby with power.settings.policy := .fixedA })
    t.accounts.lamps.a.wear = 2879740 ∧ t.accounts.lamps.a.strikes = 413 := by decide
/-- Ch. 1, tick 26: at exactly 3,000 wear hours the lamp becomes DUE. -/
theorem test_tick_reaches_due :
    let t := after (.minuteTick .accounts)
      { withAccountA { wornA with wear := 2879990, ecoMinutes := 90155 } { onA with power.level := .eco } with accounts.litTicks := 1 }
    t.accounts.lamps.a = { wornA with wear := 2880000, ecoMinutes := 90156 } ∧ t.accounts.life.a = .due ∧ t.accounts.litTicks = 2 ∧
    told .facility t = [(.lampLife .a, 2)] := by decide
/-- Ch. 1: wear and minutes saturate separately. -/
theorem test_tick_saturates :
    (after (.minuteTick .accounts) (withAccountA ⟨4294967290, 0, 16777215, 0, 0, 3000, 300, 100⟩ onA)).accounts.lamps.a =
      ⟨4294967295, 0, 16777215, 0, 0, 3000, 300, 100⟩ := by decide
/-- Ch. 1: a rating of 3,200 hours makes the lamp WARN at 3,000 hours, one of 2,800 BLOCKED. -/
theorem test_thresholds :
    let s := withAccountA { wornA with wear := 2880000 } standby
    answerOf .facility (after (.setLampThresholds .facility [0, 0x80, 0x0C, 0x2C, 1, 100, 0]) s) = [0, 1] ∧
    answerOf .facility (after (.setLampThresholds .facility [0, 0xF0, 0x0A, 0x2C, 1, 100, 0]) s) = [0, 3] := by decide
/-- Ch. 1: Lamp Replaced pushes the record with serial 12 and zeroes the counters. -/
theorem test_lamp_replaced :
    let s := withAccountA { wornA with wear := 2880000, strikes := 413, ratedLife := 2800 } standby
    let h : List HistoryRecord := [⟨.b, 3108, 0, 0, 11⟩, ⟨.a, 2950, 0, 0, 10⟩, ⟨.b, 3061, 0, 0, 9⟩, ⟨.b, 1, 0, 0, 8⟩]
    let t := after (.lampReplaced .facility [0]) { s with accounts.history := h, accounts.replacements := 11 }
    t.accounts.history = ⟨.a, 3000, 413, 7, 12⟩ :: h.take 3 ∧ t.accounts.lamps.a = ⟨0, 0, 0, 0, 0, 2800, 300, 100⟩ ∧
    answerOf .facility t = [0, 12, 0] ∧ told .panel t = [(.lampLife .a, 0)] := by decide
theorem test_replacement_history :
    answerOf .facility (after (.readReplacementHistory .facility [])
      { base with accounts.history := [⟨.b, 3108, 388, 2, 11⟩], accounts.replacements := 11 }) =
    [0, 1, 1, 0x24, 0x0C, 0, 0, 0x84, 1, 2, 0, 11, 0, 11, 0] := by decide
/-- R176: 2,879,500 = 0x2BF00C of wear, 2,999 wear hours, 90,130 = 0x016012 minutes. -/
theorem test_read_lamp_account :
    answerOf .engine (after (.readLampAccount .engine [0]) (withAccountA wornA base)) =
    [0, 0, 0x0C, 0xF0, 0x2B, 0, 0xB7, 0x0B, 0, 0, 0, 0, 0, 0x12, 0x60, 1, 0x9C, 1, 7, 0, 0xB8, 0x0B, 0x2C, 1, 100, 0, 1] := by decide
theorem test_take_snapshot :
    (after (.takeAccountSnapshot .facility []) base).accounts.snapshot = some ⟨base.accounts.lamps, base.accounts.life, base.clock⟩ := by decide
theorem test_read_snapshot_empty : answerOf .facility (after (.readSnapshot .facility [1]) base) = [0x25] := by decide
/-- R14: the eco weight is clamped to 4, the cool-down to 600, the strike limit to 1. -/
theorem test_lamp_parameters :
    let t := after (.setLampParameters .facility [3, 15, 0xFF, 0xFF, 0]) base
    t.lamps.params = ⟨600, 1⟩ ∧ t.accounts.weights = ⟨4, 15⟩ ∧ answerOf .facility t = [2] := by decide

/-! ### Ignition and cooling (02) -/

/-- Ch. 2: after the first failed window the wait is 10 s, after the second 20 s. -/
theorem test_window_expires :
    (after (.ignitionWindowExpiry .a) (warmingA (.window 1 1 false))).condition .a = .retry 1 10 ∧
    (after (.ignitionWindowExpiry .a) (warmingA (.window 2 1 false))).condition .a = .retry 2 20 := by decide
/-- Ch. 2: at the limit lamp A is FAILED with the fan time 120 s, and B joins the session. -/
theorem test_window_at_limit :
    let t := after (.ignitionWindowExpiry .a) (warmingA (.window 3 1 false))
    t.condition .a = .failed 120 ∧ t.condition .b = .window 1 3 false ∧ t.power.session = ⟨false, true⟩ ∧
    told .panel t = [(.lampFailed .a, 1), (.lampState .a, 4), (.lampState .b, 1)] := by decide
theorem test_retry_expires : (after (.retryWaitExpiry .a) (warmingA (.retry 1 1))).condition .a = .window 2 3 false := by decide
/-- R47, R58: under DUAL no lamp joins, though lamp B is cleared and available: the demand is held. -/
theorem test_emptied_session_is_held :
    let s := withLamps (.retry 3 1) .dark { onDual with power := { onDual.power with state := .warming, session := ⟨true, false⟩ } }
    let t := after (.retryWaitExpiry .a) s
    t.power.state = .coolingDown ∧ t.power.held = true ∧ t.condition .b = .dark ∧
    told .panel t = [(.lampFailed .a, 1), (.lampState .a, 4), (.noLamp, 1), (.powerState, 19)] := by decide
/-- Ch. 3: the deferred strike at the end of the cool-down. -/
theorem test_deferred_strike :
    let t := after (.coolDownExpiry .a) { warmingA (.cooling 1 true) with power.state := .coolingDown }
    t.condition .a = .window 1 3 false ∧ told .engine t = [(.lampState .a, 1), (.powerState, 1)] := by decide
theorem test_cool_down_into_standby :
    let t := after (.coolDownExpiry .a) (coolingA (.cooling 1 false))
    t.condition .a = .dark ∧ t.power.state = .standby := by decide
theorem test_fan_time_end : (after (.fanTimeEnd .a) (coolingA (.failed 1))).power.state = .standby := by decide
theorem test_lit_rise :
    let t := after (.litRise .a) (warmingA (.window 1 2 false))
    t.condition .a = .lit ∧ t.power.state = .on ∧ t.store.accounts = some t.accounts.saved := by decide
/-- R40: a rise on a DARK lamp. -/
theorem test_sense_fault : told .facility (after (.litRise .b) onA) = [(.senseFault .b, 0)] := by decide
/-- Ch. 2: the first dropout under DUAL cools the lamp with a strike wanted, the third fails it. -/
theorem test_dropouts :
    (after (.litFall .a) onDual).condition .a = .cooling 120 true ∧
    (after (.litFall .a) { onDual with lamps.lamp := ⟨⟨.lit, 2⟩, ⟨.lit, 0⟩⟩ }).condition .a = .failed 120 := by decide
/-- Ch. 2: a fault cleared with 65 s of fan time left. -/
theorem test_clear_lamp_fault :
    let t := after (.clearLampFault .facility [0]) { onDual with lamps.lamp := ⟨⟨.failed 65, 3⟩, ⟨.lit, 0⟩⟩, power.session := ⟨false, true⟩ }
    t.lamps.lamp.a = ⟨.cooling 65 false, 0⟩ ∧ answerOf .facility t = [0, 3] := by decide
theorem test_thermal_trip :
    let t := after (.thermalTrip .engine []) onA
    t.condition .a = .cooling 120 false ∧ t.power.held = true ∧ (told .facility t).head? = some (.thermalTrip, 1) := by decide
theorem test_thermal_clear :
    (after (.thermalClear .engine []) { standby with lamps.thermalHold := true }).lamps.thermalHold = false := by decide

/-! ### Power (03) -/

/-- The first request of a new part: held back by no lamp, power state COOLING-DOWN, so the deferred strike waits. -/
theorem test_power_on_reply : answerOf .panel (after (.powerOn .panel []) State.reset) = [1, 1, 3] := by decide
/-- R46: under ALTERNATE the lamp of lower wear is struck. -/
theorem test_alternate_choice :
    (after (.powerOn .panel []) (withAccountA { newAccount with wear := 1 } standby)).power.session = ⟨false, true⟩ := by decide
theorem test_power_off :
    let t := after (.powerOff .panel []) onA
    t.condition .a = .cooling 120 false ∧ t.power.state = .coolingDown ∧ told .panel t = [(.lampState .a, 3), (.powerState, 3)] := by decide
/-- Ch. 3, 10:00:40: demand returns in COOLING-DOWN, and the cooling lamp A, of lower wear, becomes strike-pending. -/
theorem test_power_on_in_cool_down :
    let s : State := { withLamps (.cooling 80 false) .dark base with
      accounts.lamps := ⟨{ newAccount with wear := 1200000 }, { newAccount with wear := 1350000 }⟩, power.latched := some .alternate }
    let t := after (.powerOn .panel []) s
    t.condition .a = .cooling 80 true ∧ t.condition .b = .dark ∧ t.power.session = ⟨true, false⟩ ∧ t.power.state = .coolingDown ∧
    told .panel t = [] ∧ answerOf .panel t = [1, 1, 3] := by decide
theorem test_set_lamp_power : answerOf .facility (after (.setLampPower .facility [1]) base) = [0, 1] := by decide
theorem test_set_blank :
    let t := after (.setBlank .panel [1]) onA
    t.power.blank = true ∧ t.power.blankTimer = some 1200 ∧ told .engine t = [(.blank, 1)] := by decide
theorem test_facility_claim : answerOf .facility (after (.facilityPowerClaim .facility [1]) onA) = [0, 5] := by decide
theorem test_power_defaults :
    let t := after (.setPowerDefaults .facility [1, 3, 121, 30]) base
    t.power.settings = ⟨.eco, .fixedB, 120, 30⟩ ∧ answerOf .facility t = [2] := by decide
theorem test_blank_timer_expiry :
    (after .blankTimerExpiry { onA with power.blank := true, power.blankTimer := some 1 }).power.state = .coolingDown := by decide
theorem test_read_status :
    answerOf .panel (after (.readStatus .panel []) onA) = [0, 2, 1, 0, 0, 2, 0, 0xFF, 0, 0, 0, 0] := by decide

/-! ### Inputs and acquisition (04, 05) -/

/-- Ch. 4's resolutions against the hall's table: the class, the row, the matches, whether ambiguous. -/
theorem test_resolutions :
    [(0x11 : Byte), 0x13, 0x30, 0x33, 0x20].map (fun c =>
      let r := (hall base).resolve c
      (r.row, r.count, r.ambiguous)) =
    [(some 0, 1, false), (none, 0, false), (some 4, 3, true), (some 4, 3, true), (some 2, 1, false)] := by decide
theorem test_select_input_auto :
    let t := after (.selectInput .panel [3]) (hall base)
    answerOf .panel t = [1, 3, 1, 0] ∧ t.acq.window = some ⟨1000, 1000⟩ ∧ told .engine t = [(.inputSelected (some 3), 0)] := by decide
/-- R90: FIXED with index 5 selected by class carries 53; the preset of the row is applied. -/
theorem test_select_class_fixed :
    let t := after (.selectClass .facility [0x20]) (hall base)
    answerOf .facility t = [0, 0x20, 2, 1, 0, 1, 2, 2, 0x20] ∧ told .panel t = [(.inputSelected (some 2), 53)] ∧ t.tilt.index = 3 := by decide
/-- Ch. 5: the attempts 2 and NO-SIGNAL at the limit. -/
theorem test_attempt_window :
    (after .acquisitionWindowExpiry (selecting 3 .direct .acquiring 1 (some ⟨1, 1000⟩) (hall base))).acq.window = some ⟨2000, 2000⟩ ∧
    (after .acquisitionWindowExpiry (selecting 3 .direct .acquiring 3 (some ⟨1, 4000⟩) (hall base))).acq.window = some ⟨8000, 8000⟩ := by decide
theorem test_attempt_limit :
    let t := after .acquisitionWindowExpiry (selecting 3 .direct .acquiring 4 (some ⟨1, 8000⟩) (hall base))
    (t.row 3).status = .noSignal ∧ told .panel t = [(.acquisition 3, 3)] := by decide
theorem test_sync_report_locks :
    let t := after (.syncReport .engine [3, 1]) (selecting 3 .direct .acquiring 1 (some ⟨400, 1000⟩) (hall base))
    (t.row 3).status = .locked ∧ t.acq.window = none ∧ answerOf .engine t = [0, 1, 2] := by decide
/-- Ch. 5, step 3: a report on a row that is not selected moves its flag only. -/
theorem test_sync_report_flag :
    let t := after (.syncReport .engine [4, 0]) (selecting 0 (.byClass 0x11) .locked 0 none (hall base))
    (t.row 4).present = false ∧ t.queues = base.queues := by decide
/-- Ch. 5: row 3 becomes present while NO-SIGNAL and starts again. -/
theorem test_presence_restarts :
    let t := after (.presenceReport .engine [0x4D, 0]) (selecting 3 .direct .noSignal 4 none (hall base))
    (t.row 3).status = .acquiring ∧ t.acq.attempts = 1 ∧ (t.row 4).present = false ∧ told .engine t = [(.acquisition 3, 1)] := by decide
theorem test_acquisition_parameters :
    answerOf .facility (after (.setAcquisitionParameters .facility [0x01, 0x10, 9]) base) = [2, 0xA0, 0x0F, 8] := by decide
theorem test_read_input_row : answerOf .panel (after (.readInputRow .panel [2]) (hall base)) = [0, 2, 1, 0x20, 0xFF, 1, 5, 3, 1, 0, 0] := by decide
/-- R76: disabling the selected row clears the selection. -/
theorem test_write_disables_selected :
    let t := after (.writeInputRow .facility [2, 0, 0x20, 0xFF, 1, 5, 3]) (selecting 2 .direct .locked 0 none (hall base))
    t.acq.selected = none ∧ answerOf .facility t = [0, 2, 1, 0xFF] ∧ told .panel t = [(.inputSelected none, 1)] := by decide
/-- R77: the class of the selection is resolved again. -/
theorem test_write_moves_selection :
    let t := after (.writeInputRow .facility [4, 1, 0x42, 0xF0, 0, 0, 0xFF]) (selecting 4 (.byClass 0x30) .locked 0 none (hall base))
    t.selectedRow = some 3 ∧ answerOf .facility t = [0, 4, 2, 3, 0x30, 3, 2, 1, 0] := by decide

/-! ### Tilt and geometry (06) -/

/-- Ch. 6: the settled tilt 2,400 with the trims of the first worked case. -/
theorem test_keystone_steep :
    let trims : PerCorner Offset := ⟨⟨-20, 0⟩, ⟨150, 0⟩, ⟨0, 0⟩, ⟨0, -6⟩⟩
    let t : Tilt := { base.tilt with homed := true, settled := 2400, presets := base.tilt.presets.set 0 ⟨.autoTrim, trims⟩ }
    t.form = ⟨⟨⟨332, 0⟩, ⟨480, 0⟩, ⟨0, 0⟩, ⟨0, 0⟩⟩, false, false, true, .autoTrim, 0, 0⟩ := by decide
/-- Ch. 6: the inset at its cap with BR nudged by −30. -/
theorem test_keystone_cap :
    let t : Tilt := { base.tilt with
      homed := true, settled := -6000, calibration := ⟨3000, 600, 0⟩, trims := ⟨⟨0, 0⟩, ⟨0, 0⟩, ⟨-30, 0⟩, ⟨0, 0⟩⟩ }
    t.form.corners = ⟨⟨0, 0⟩, ⟨0, 0⟩, ⟨450, 0⟩, ⟨480, 0⟩⟩ ∧ t.form.limit = true ∧ t.form.clamped = false := by decide
/-- Ch. 6, step 2: the armed pulse sets the count and homes. -/
theorem test_index_homes :
    let t := after .indexPulse { base with tilt.count := 850, tilt.calibration := ⟨0, 600, 2000⟩ }
    t.tilt.count = 2000 ∧ t.tilt.homed = true ∧ t.tilt.armed = false ∧ told .engine t = [(.geometryChanged, 1)] := by decide
/-- Ch. 6, step 6: a difference of 6 is a slip. -/
theorem test_index_slip :
    let t := after .indexPulse
      { base with tilt.count := 2006, tilt.homed := true, tilt.armed := false, tilt.calibration := ⟨0, 600, 2000⟩, tilt.record.autoInactive := false }
    t.tilt.count = 2000 ∧ told .facility t = [(.tiltFault, 2)] ∧ told .engine t = [] := by decide
/-- Ch. 6, step 4. -/
theorem test_settle :
    let t := after .settleTimerExpiry { base with tilt.count := 2400, tilt.homed := true, tilt.settle := some 1 }
    t.tilt.record.corners.tl = ⟨352, 0⟩ ∧ t.tilt.record.corners.tr = ⟨352, 0⟩ ∧ t.tilt.settle = none := by decide
/-- R105: a step up, and a change of both lines. -/
theorem test_encoder :
    (after (.encoderStep true false) base).tilt.count = 1 ∧ told .facility (after (.encoderStep true true) base) = [(.tiltFault, 3)] := by decide
theorem test_nudge_clamps : answerOf .panel (after (.nudgeCorner .panel [1, 100, 0x9C]) base) = [2, 64, 0xC0, 1] := by decide
theorem test_clear_trims :
    (after (.clearSessionTrims .facility []) { base with tilt.trims := ⟨⟨1, 2⟩, ⟨0, 0⟩, ⟨0, 0⟩, ⟨0, 0⟩⟩ }).tilt.trims = noTrims := by decide
theorem test_write_preset :
    let t := after (.writePreset .facility [3, 1, 0xE1, 1, 0, 0, 0, 0, 0, 0, 0, 0, 0, 0, 0, 0, 0xFA, 0xFF]) base
    t.tilt.presets[3] = ⟨.trimOnly, ⟨⟨480, 0⟩, ⟨0, 0⟩, ⟨0, 0⟩, ⟨0, -6⟩⟩⟩ ∧ (answerOf .facility t).head? = some 2 := by decide
theorem test_read_preset : (answerOf .engine (after (.readPreset .engine [0]) base)) = [0, 0, 0] ++ List.replicate 16 0 ++ [1] := by decide
/-- Ch. 6: TR's preset trim 150 takes the session trim −30. -/
theorem test_store_trims :
    let s : State := { base with
      tilt.presets := base.tilt.presets.set 0 ⟨.autoTrim, ⟨⟨0, 0⟩, ⟨150, 0⟩, ⟨0, 0⟩, ⟨0, 0⟩⟩⟩
      tilt.trims := ⟨⟨0, 0⟩, ⟨-30, 0⟩, ⟨0, 0⟩, ⟨0, 0⟩⟩ }
    let t := after (.storeSessionTrims .facility []) s
    t.tilt.presets[0].trims.tr = ⟨120, 0⟩ ∧ t.tilt.trims = noTrims := by decide
/-- R111: a moved index offset clears homed and sets armed. -/
theorem test_calibration :
    let t := after (.setKeystoneCalibration .facility [0, 0, 0x58, 2, 0x41, 0x1F]) { base with tilt.homed := true, tilt.armed := false }
    t.tilt.calibration = ⟨0, 600, 8000⟩ ∧ t.tilt.homed = false ∧ t.tilt.armed = true ∧ (answerOf .facility t).head? = some 2 := by decide
theorem test_arm_homing : answerOf .facility (after (.armHoming .facility []) { base with tilt.armed := false }) = [0, 0, 1] := by decide
/-- Ch. 6: Read Corners from BR on. -/
theorem test_read_corners :
    let s : State := { base with tilt.record.corners := ⟨⟨332, 0⟩, ⟨480, 0⟩, ⟨0, 0⟩, ⟨0, 0⟩⟩ }
    answerOf .panel (after (.readCorners .panel [2]) s) =
      [0, 2, 0, 0, 0, 0, 0, 0, 0, 0, 0x4C, 1, 0, 0, 0xE0, 1, 0, 0, 0] := by decide
theorem test_read_geometry : answerOf .engine (after (.readGeometry .engine []) base) = [0] ++ List.replicate 16 0 ++ [1, 0, 0, 0] := by decide
theorem test_read_tilt :
    answerOf .engine (after (.readTilt .engine []) { base with tilt.count := -2, tilt.settled := 3 }) =
      [0, 0xFE, 0xFF, 3, 0, 0, 1, 0, 0, 0, 0, 0] := by decide

/-! ### Lockout (07) -/

/-- Ch. 7: Open Service Window 120 during the examination, and its close at 15:40. -/
theorem test_service_window :
    let exam : State := inBooking 302 1 3 base
    told .panel (after (.openServiceWindow .facility [120]) exam) = [(.lockoutChanged, 16)] ∧
    told .panel (after (.closeServiceWindow .facility [])
      { exam with lockout := { exam.lockout with manual := 1, window := some ⟨120, 7000⟩, effective := 0 } }) = [(.lockoutChanged, 3)] := by decide
theorem test_service_window_expiry :
    (after .serviceWindowExpiry { base with lockout := ⟨1, 0, 0, some ⟨1, 1⟩, 0⟩ }).lockout = ⟨1, 0, 0, none, 1⟩ := by decide
theorem test_manual_lockout : answerOf .facility (after (.setManualLockout .facility [2]) base) = [0, 2, 2] := by decide
/-- Ch. 7 at level 1: reason 3 for input 6, reason 1 for Set Lamp Power. -/
theorem test_refused_locked :
    let s := { hall base with lockout := ⟨0, 1, 0x30, none, 1⟩ }
    answerOf .panel (after (.selectInput .panel [6]) s) = [0x20, 1, 3] ∧
    answerOf .panel (after (.setLampPower .panel [1]) s) = [0x20, 1, 1] := by decide
/-- Ch. 7, 17:05: reason 2 without a booking class. -/
theorem test_refused_without_class :
    answerOf .panel (after (.selectInput .panel [0]) { hall base with lockout := ⟨1, 0, 0, none, 1⟩ }) = [0x20, 1, 2] := by decide
theorem test_read_lockout :
    answerOf .panel (after (.readLockout .panel []) { base with lockout := ⟨1, 3, 0x11, some ⟨120, 7200⟩, 0⟩ }) =
      [0, 0, 1, 3, 0x11, 1, 120, 0x20, 0x1C] := by decide

/-! ### The timetable (08) -/

/-- Ch. 8: the lead of 410 at 6,225, and its start at 6,240 while the PANEL claim lights lamp A. -/
theorem test_lead :
    let t := after (.minuteTick .timetable) (scheduled friday 6224 standby)
    t.timetable.state = .lead ∧ t.power.state = .warming ∧ (.booking 410, 1) ∈ told .facility t := by decide
theorem test_start :
    let t := after (.minuteTick .timetable) (scheduled friday 6239 (selecting 0 .direct .locked 0 none (hall onA)))
    t.timetable.state = .active ∧ t.timetable.active = some 410 ∧ t.lockout.effective = 1 ∧ t.power.demand = ⟨true, true, false⟩ := by decide
/-- Ch. 8, 6,345: the extension of 410 meets the start of 411. -/
theorem test_extend_conflict :
    answerOf .panel (after (.extendBooking .panel []) (inBooking 410 0 1 (scheduled friday 6345 onA))) =
      [0x22, 0x9A, 1, 0, 0xCE, 0x18] := by decide
/-- Ch. 8, 6,766: 412 is extended to 6,795. -/
theorem test_extend :
    let t := after (.extendBooking .facility []) (inBooking 412 2 3 (scheduled friday 6766 onA))
    answerOf .facility t = [0, 0x9C, 1, 15, 0x8B, 0x1A] ∧ told .panel t = [(.booking 412, 5)] := by decide
/-- Ch. 8, 17:25: the grace expires far from the next lead. -/
theorem test_grace_expiry :
    let s := scheduled friday 6805 onA
    let t := after .graceExpiry { s with
      timetable := { s.timetable with state := .grace, cursor := 3, grace := some 1 }, power.demand := ⟨true, true, false⟩ }
    t.timetable.state = .idle ∧ t.power.demand = ⟨true, false, false⟩ := by decide
/-- Ch. 8, correcting a fast clock, step 2: 412 is left, GRACE gives way to LEAD. -/
theorem test_set_time :
    let t := after (.setTime .facility [0xBE, 0x19, 0]) (inBooking 412 2 3 (scheduled friday 6630 onA))
    t.timetable.state = .lead ∧ t.timetable.cursor = 2 ∧ t.timetable.grace = none ∧ t.lockout.effective = 0 ∧
    answerOf .facility t = [0, 0xBE, 0x19, 0, 1, 3, 0, 0] := by decide
theorem test_schedule_enable : answerOf .facility (after (.setScheduleEnable .facility [1]) base) = [0, 1, 1] := by decide
theorem test_read_schedule_state :
    answerOf .engine (after (.readScheduleState .engine []) (inBooking 411 1 1 (scheduled friday 6380 onA))) =
      [0, 4, 0xEC, 0x18, 0, 1, 1, 0x9B, 1, 0, 0, 3, 0, 0] := by decide
/-- Ch. 9: Read Bookings with k = 2 gives 412, 410, 411; k = 3 is refused. -/
theorem test_read_bookings :
    let s := scheduled friday 0 base
    (answerOf .panel (after (.readBookings .panel [2]) s)).take 6 = [0, 3, 2, 3, 0x9C, 1] ∧
    answerOf .panel (after (.readBookings .panel [3]) s) = [0x13] := by decide

/-! ### Staging (09) -/

/-- Ch. 9's revised Friday in the order it is appended, with a given end of 411. -/
def upload (stop : Nat) : List RawBooking :=
  [⟨412, 6470, 6650, 20, 0x11, 0xFF, 3, 0, 1⟩, ⟨410, 6240, 6350, 15, 0x11, 0xFF, 1, 0, 0⟩,
   ⟨411, 6360, stop, 10, 0x30, 0xFF, 2, 0, 1⟩]

theorem test_stage_begin :
    (after (.stageBegin .facility []) { base with staging := ⟨true, upload 6480⟩ }).staging = ⟨true, []⟩ := by decide
theorem test_stage_append :
    (after (.stageAppend .facility [0x9C, 1, 0x46, 0x19, 0xFA, 0x19, 20, 0x11, 0xFF, 3, 0, 1, 0, 0])
      { base with staging := ⟨true, []⟩ }).staging.bookings = (upload 6480).take 1 := by decide
/-- Ch. 9: the first commit is refused with CONFLICT, kind 17, staged indices 0 and 2. -/
theorem test_commit_conflict :
    answerOf .facility (after (.stageCommit .facility []) { base with staging := ⟨true, upload 6480⟩ }) = [0x22, 17, 0, 2] := by decide
/-- Ch. 9: the second commit re-applies class and lockout to the running 411 and drops its extension. -/
theorem test_commit :
    let s := inBooking 411 1 1 (scheduled friday 6380 (selecting 0 (.byClass 0x11) .locked 0 none (hall onA)))
    let t := after (.stageCommit .facility []) { s with
      timetable.table := s.timetable.table.map (fun b => if b.config.id = 411 then { b with extension := 15 } else b)
      staging := ⟨true, upload 6460⟩ }
    t.timetable.table.map (fun b => (b.config.id, b.extension)) = [(410, 0), (411, 0), (412, 0)] ∧ t.selectedRow = some 4 ∧
    t.lockout.effective = 2 ∧ answerOf .facility t = [0, 3, 4, 0x9B, 1, 1] := by decide
theorem test_insert_conflict :
    answerOf .facility (after (.insertBooking .facility [7, 0, 0xDC, 0x18, 0xDD, 0x18, 0, 0, 0xFF, 0, 0, 0, 0, 0]) (scheduled friday 0 base)) =
      [0x22, 17, 0x9B, 1] := by decide
/-- Ch. 9: deleting the running 411 ends it; its auto-off starts the grace. -/
theorem test_delete_active :
    let t := after (.deleteBooking .facility [0x9B, 1]) (inBooking 411 1 1 (scheduled friday 6380 onA))
    t.timetable.state = .grace ∧ t.timetable.grace = some 600 ∧ t.timetable.table.length = 2 := by decide

/-- R178: a notice whose admission is to come waits for it, with the stamp of its posting. -/
theorem test_waiting_notice :
    let s : State := { base with pending := [.noticeAdmission .engine .thermalTrip 0] }
    let t := after (.thermalTrip .engine []) s
    t.queues.engine.notices = [] ∧ t.queues.panel.notices = [⟨.thermalTrip, 0, 0⟩] ∧
    (after (.noticeAdmission .engine .thermalTrip 0) { t with clock.minute := 9, pending := [] }).queues.engine.notices =
      [⟨.thermalTrip, 0, 0⟩] := by decide
/-- R168: the port that replies keeps the complete frame, its CHECK byte included. -/
theorem test_replying_port_keeps_the_frame :
    (after (.powerOn .panel []) standby).ports.panel.buffer = [0, 0x10, 0xF0] := by decide

/-! ### Resets and power -/

theorem test_reset_is_power_on : State.reset.powerUp ⟨false, none⟩ = State.reset := by decide
theorem test_service_reset : answerOf .facility (after (.serviceReset .facility []) onA) = [0, 3, 0] := by decide
theorem test_factory_reset :
    answerOf .facility (after (.factoryReset .facility []) onA) = [0x21, 2] ∧
    (after (.factoryReset .facility []) (hall standby)).row 4 = ⟨factoryRow, false, .idle⟩ := by decide
/-- Ch. 1: lamp A comes back with the wear of the last save. -/
theorem test_power_on_restores :
    let saved : SavedAccounts := ⟨⟨{ wornA with wear := 2879980 }, newAccount⟩, newWeights, [], 0⟩
    (after (.powerOnReset ⟨true, none⟩) { onA with store.accounts := some saved }).accounts.life.a = .warn := by decide
theorem test_hardware_reset : (after (.hardwareReset ⟨true, none⟩) (scheduled [] 77 onA)).clock = ⟨77, 0, true⟩ := by decide
/-- R135: in the gap a PANEL request meets the manual claim alone: Select Input passes although the examination 412 locks the panel after it. -/
theorem test_panel_request_in_the_gap :
    let s : State := { hall (scheduled [] 6650 base) with
      store.scheduleEnable := some true, store.liveTable := some friday, store.inputRows := some (mapVector InputRow.config (hall base).inputs) }
    let t := after (.hardwareReset ⟨true, some (0x20, [0])⟩) s
    answerOf .panel t = [1, 0, 1, 0] ∧ t.timetable.active = some 412 ∧ t.lockout.effective = 3 := by decide
theorem test_loss_of_power :
    let t := after (.lossOfPower (some (0x64, [10, 15, 60, 0, 6])) [.lampParams]) base
    t.powered = false ∧ t.store.lampParams = some ⟨60, 6⟩ ∧ t.store.accounts = none := by decide
/-- R172: a Factory Reset cut short leaves each block's store old or new as a whole. -/
theorem test_cut_factory_reset :
    let t := after (.lossOfPower (some (0x71, [])) [.geometry]) standby
    t.store.calibration = some ⟨0, 600, 0⟩ ∧ t.store.presets.isSome = true ∧ t.store.scheduleEnable = none ∧ t.store.liveTable = none := by decide


/-! ### Witnesses: states and operands that meet the hypotheses of a statement, clause by clause -/

theorem eachLamp {P : Lamp → Prop} (a : P .a) (b : P .b) : ∀ l, P l := fun l => by cases l <;> assumption

/-- Every effective level without a window. -/
def atLevel (n : Fin 4) (c : Byte) (s : State) : State := { s with lockout := ⟨0, n, c, none, n⟩ }

/-- The panel port replying. -/
def replying : State := { base with ports.panel := ⟨.replying, [], none, []⟩ }

theorem witness_EmptyQueueAndIdleTimers :
    (base.pending = [] ∧ base.powered = true) ∧
    (({ base with powered := false } : State).pending = [] ∧ ({ base with powered := false } : State).powered = false) ∧
    (replying.ports.panel.receive = .replying ∧ base.ports.engine.receive = .hunt) ∧
    (base.tilt.settle = none ∧ base.lockout.window = none ∧ base.acq.window = none ∧ base.power.blankTimer = none ∧
      base.timetable.state ≠ .grace) ∧
    (∀ k t b, standby.condition .a ≠ .window k t b) ∧ (∀ k t, standby.condition .a ≠ .retry k t) ∧
    (∀ t b, standby.condition .a ≠ .cooling t b) ∧ (∀ fan, 0 < fan → standby.condition .a ≠ .failed fan) ∧
    onA.lines.lit.get .a = true ∧ onA.lines.lit.get .b = false :=
  ⟨by decide, by decide, by decide, by decide, nofun, nofun, nofun, nofun, by decide, by decide⟩

theorem witness_FramesSpellTheirCommands :
    ((Instr.powerOn .panel []).wf = true ∧ (Instr.powerOn .panel []).frame? = some (.panel, 0x10, []) ∧ base.Ready .panel) ∧
    ((Instr.unknownRequest .engine 0x14 (List.replicate 64 0xFF)).wf = true ∧
      (Instr.unknownRequest .engine 0x14 (List.replicate 64 0xFF)).frame? = some (.engine, 0x14, List.replicate 64 0xFF) ∧
      base.Ready .engine) := by decide

theorem witness_RequestsAreCheckedInOrder :
    (base.Ready .engine ∧ (List.replicate 64 (0 : Byte)).length ≤ 64 ∧ ∀ row ∈ catalogue, row.code ≠ 0x14) ∧
    (((0x11 : Byte), Request.powerOff, [Port.panel], 0) ∈ [((0x11 : Byte), Request.powerOff, [Port.panel], 0)] ∧
      base.Ready .engine ∧ Port.engine ∉ [Port.panel] ∧ Port.panel ∈ [Port.panel]) ∧
    ((atLevel 2 0 base).Ready .panel ∧ ((atLevel 2 0 base).panelFilter .powerOff []).isSome = true) ∧
    ((atLevel 1 0 base).Ready .panel ∧ (atLevel 1 0 base).panelFilter .powerOff [1] = none ∧ [(1 : Byte)].length ≠ 0) ∧
    ((atLevel 1 0 base).panelFilter .powerOff [] = none ∧ ([] : List Byte).length = 0) := by decide

theorem witness_BytesMoveThePort :
    let at_ (x : ReceiveState) (b : List Byte) : State := { base with ports.panel := ⟨x, b, some 20, []⟩ }
    (base.powered = true ∧ base.ports.panel.receive = .hunt) ∧ (at_ .header []).ports.panel.buffer = [] ∧
    ((at_ .header [0]).ports.panel.receive = .header ∧ (at_ .header [0]).ports.panel.buffer = [0]) ∧
    ((at_ .body [1, 0x20]).ports.panel.receive = .body ∧ (at_ .body [1, 0x20]).ports.panel.buffer = 1 :: 0x20 :: []) ∧
    ((at_ .check [0, 0x10]).ports.panel.receive = .check ∧ (at_ .check [0, 0x10]).ports.panel.buffer = 0 :: 0x10 :: []) ∧
    replying.ports.panel.receive = .replying := by decide

theorem witness_RepliesAreSentAndEnd :
    (⟨.ok, List.replicate 64 0⟩ : Answer).payload.length ≤ 64 ∧ base.powered = true ∧
    ({ base with powered := false } : State).powered = false ∧ (replying.ports.get .panel).receive = .replying := by decide

theorem witness_PanelFilterByLevel :
    ((atLevel 0 0 base).Ready .panel ∧ (atLevel 0 0 base).lockout.effective = 0) ∧
    ((atLevel 1 0 base).Ready .panel ∧ 1 ≤ (atLevel 1 0 base).lockout.effective ∧ (atLevel 1 0 base).lockout.effective ≤ 1) ∧
    ((atLevel 2 0 base).Ready .panel ∧ 2 ≤ (atLevel 2 0 base).lockout.effective ∧ (atLevel 2 0 base).lockout.effective ≤ 2) ∧
    ((atLevel 3 0 base).Ready .panel ∧ (atLevel 3 0 base).lockout.effective = 3) ∧
    (List.replicate 64 (0 : Byte)).length ≤ 64 := by decide

theorem witness_PanelSelectionAtLevelOne :
    let s (c : Byte) : State := atLevel 1 c (hall base)
    ((s 0).Ready .panel ∧ (s 0).lockout.effective = 1 ∧ ([] : List Byte).length ≠ 1 ∧ 10 ≤ (10 : Byte).toNat) ∧
    ((6 : Fin 10).val = (6 : Byte).toNat ∧ (s 0).lockout.bookingClass = 0) ∧
    ((s 0x30).Ready .panel ∧ (s 0x30).lockout.effective = 1 ∧ (s 0x30).lockout.bookingClass ≠ 0 ∧
      ((s 0x30).row 6).config.answers 0x30 = false ∧ ((s 0x30).row 3).config.enabled = true ∧
      (0x30 : Byte) &&& ((s 0x30).row 3).config.classMask = ((s 0x30).row 3).config.classCode &&& ((s 0x30).row 3).config.classMask) ∧
    (((s 0x30).resolve 0x13).row = none ∧ ((s 0x30).resolve 0x11).row = some 0 ∧ ((s 0x30).row 0).config.answers 0x30 = false ∧
      ((s 0x30).resolve 0x33).row = some 4 ∧ ((s 0x30).row 4).config.answers 0x30 = true) := by decide

theorem witness_NoticeKinds :
    let awaited : State := { base with pending := [.noticeAdmission .panel .powerState 1] }
    ({ notices := twelve, lost := 255, mask := 7 } : NoticeQueue).Legal ∧ Port.panel ∉ Topic.blank.ports ∧
    Port.panel ∈ Topic.powerState.ports ∧ base.waitsAt ⟨.powerState, 1, 0⟩ .panel = false ∧
    awaited.waitsAt ⟨.powerState, 1, 0⟩ .panel = true ∧ awaited.waitsAt ⟨.powerState, 1, 0⟩ .facility = false := by decide

theorem witness_NoticeAdmission :
    let full := twelve ++ [⟨.powerState, 2, 0⟩, ⟨.lockoutChanged, 3, 0⟩, ⟨.noLamp, 1, 0⟩, ⟨.lampFailed .b, 1, 0⟩]
    let handed : List Notice := [⟨.powerState, 2, 5⟩, ⟨.powerState, 1, 6⟩, ⟨.powerState, 1, 7⟩]
    (base.powered = true ∧ Port.panel ∈ (Topic.lampState .b).ports ∧ (∀ m ∈ base.handed.panel, ¬ m.topic = .lampState .b) ∧
      ∃ m ∈ twelve, m.topic = .lampState .b) ∧
    (({ base with handed.panel := handed } : State).handed.panel =
        [⟨.powerState, 2, 5⟩] ++ ⟨.powerState, 1, 6⟩ :: [⟨.powerState, 1, 7⟩] ∧
      ∀ m ∈ [(⟨.powerState, 2, 5⟩ : Notice)], ¬ (m.topic = .powerState ∧ m.value = 1)) ∧
    ((∀ m ∈ twelve.take 11, m.topic ≠ .powerState) ∧ (twelve.take 11).length ≤ 11) ∧
    ((∀ m ∈ twelve, m.topic ≠ .powerState) ∧ 12 ≤ twelve.length ∧ 4 ≤ Topic.powerState.priority) ∧
    ((∀ m ∈ full.take 15, m.topic ≠ .booking 11) ∧ (full.take 15).length ≤ 15 ∧ (Topic.booking 11).priority ≤ 3) ∧
    ((∀ m ∈ full, m.topic ≠ .lampLife .a) ∧ full.length = 16 ∧ (Topic.lampLife .a).priority ≤ 6) ∧
    ((∀ m ∈ full, m.topic ≠ .thermalTrip) ∧ Topic.thermalTrip.priority = 7 ∧
      full = [] ++ ⟨.lampState .b, 2, 0⟩ :: full.tail ∧ (Topic.lampState .b).priority < 7 ∧
      ∀ x ∈ full.tail, (Topic.lampState .b).priority ≤ x.topic.priority) := by decide

theorem witness_TakeNoticeAndNoticeMask :
    (base.Ready .panel ∧ base.queues.panel.notices = []) ∧
    (State.reset.Ready .facility ∧ State.reset.queues.facility.notices = ⟨.timeInvalid, 0, 0⟩ :: []) ∧
    (∃ m ∈ State.reset.queues.facility.notices, m.topic = .timeInvalid) := by decide

theorem witness_LampAccountReads :
    (base.Ready .engine ∧ (1 : Byte).toNat ≤ 1 ∧ 1 < (2 : Byte).toNat ∧ base.accounts.snapshot = none) ∧
    (after (.takeAccountSnapshot .facility []) base).accounts.snapshot = some ⟨base.accounts.lamps, base.accounts.life, base.clock⟩ ∧
    ({ base with accounts.snapshot := some ⟨base.accounts.lamps, base.accounts.life, base.clock⟩ } : State).Ready .facility := by decide

theorem witness_LifeStatesAndLampLines : newAccount.wear ≤ 4294967295 ∧ base.powered = true := by decide

/-- A held demand of the panel in a given power state, with the lamps in given conditions and lamp A's account. -/
def held (x : PowerState) (a b : LampCondition) (account : LampAccount) : State :=
  withAccountA account (withLamps a b { base with power := { base.power with demand := ⟨true, false, false⟩, state := x, held := true } })

/-- `t` has a usable lamp, and those that it chooses in STANDBY and in COOLING-DOWN strike plainly. -/
abbrev Lets (t : State) : Prop :=
  t.Usable ∧ t.StrikesPlainly (t.sessionBy t.power.settings.policy) ∧ t.StrikesPlainly (t.sessionBy t.policyCooling)

/-- A lamp that is BLOCKED at a rated life of 3,000 h. -/
def blockedAccount : LampAccount := { newAccount with wear := 2976960 }

theorem witness_ThresholdsAndParameters :
    let hold : State := { onA with power.held := true, lamps.thermalHold := true }
    (standby.Ready .facility ∧ (1 : Byte) = lampByte .b ∧ standby.lampState .b ≠ .striking ∧ standby.power.held = false ∧
      standby.power.demand = ⟨false, false, false⟩ ∧ standby.BlankLegal) ∧
    (onA.Ready .facility ∧ (0 : Byte) = lampByte .a ∧ onA.lampState .a ≠ .striking ∧ onA.power.held = false ∧
      onA.power.state ≠ .standby ∧ onA.BlankLegal) ∧
    (hold.Ready .facility ∧ hold.BlankLegal ∧ hold.power.held = true ∧ hold.power.demand ≠ ⟨false, false, false⟩ ∧
      hold.lampState .a ≠ .striking ∧ hold.lamps.thermalHold = true) ∧ 1 < (2 : Byte).toNat := by decide

/-- A rated life of 3,200 h takes lamp A, at 3,101 h, out of BLOCKED and lets the held demand in; one of 3,000 h leaves it. -/
theorem witness_ThresholdsAndParameters_release :
    let s (x : PowerState) : State := held x .dark (.failed 5) blockedAccount
    let told (x : PowerState) : State := withAccountA { blockedAccount with ratedLife := 3200 } (s x)
    ((s .standby).Ready .facility ∧ (s .standby).Waits ∧ (s .coolingDown).Waits ∧ (s .standby).lampState .a = .dark ∧
      blockedAccount.lifeState = (s .standby).accounts.life.a ∧
      ({ blockedAccount with ratedLife := 3200 } : LampAccount).lifeState ≠ (s .standby).accounts.life.a) ∧
    Lets (told .standby) ∧ Lets (told .coolingDown) ∧
    (let still : State := { s .standby with lamps.thermalHold := true }
     still.Waits ∧ ¬ still.Usable) :=
  ⟨by decide, ⟨by decide, eachLamp (by decide) (by decide), eachLamp (by decide) (by decide)⟩,
    ⟨by decide, eachLamp (by decide) (by decide), eachLamp (by decide) (by decide)⟩, by decide⟩

theorem witness_LampReplacedAndHistory :
    let failed (s : State) (b : LampCondition) : State := withLamps (.failed 0) b s
    (onA.Ready .facility ∧ (1 : Byte) = lampByte .b ∧ onA.power.held = false ∧ onA.BlankLegal ∧ onA.condition .b = .dark ∧
      onA.power.state ≠ .standby) ∧
    ((failed standby .dark).Ready .facility ∧ (failed standby .dark).condition .a = .failed 0 ∧ (failed standby .dark).BlankLegal ∧
      (failed standby .dark).Unmoved .a) ∧
    ((failed onA .lit).condition .a = .failed 0 ∧ (failed onA .lit).BlankLegal ∧ (failed onA .lit).Unmoved .a) ∧
    ((failed (warmingA .dark) (.window 1 1 false)).Unmoved .a ∧ (failed base (.cooling 5 false)).Unmoved .a) ∧
    (onA.condition .a ≠ .dark ∧ onA.condition .a ≠ .failed 0) ∧ (coolingA (.failed 1)).condition .a ≠ .failed 0 ∧
    1 < (2 : Byte).toNat := ⟨by decide, by decide, by decide, by decide, by decide, by decide, by decide⟩

/-- The held demand let in by a new lamp in place of a FAILED and of a BLOCKED one, held on without one, and under a thermal hold. -/
theorem witness_LampReplacedAndHistory_release :
    let s (x : PowerState) : State := held x (.failed 0) (.failed 5) newAccount
    let told (x : PowerState) : State := held x .dark (.failed 5) newAccount
    let blocked : State := held .coolingDown .dark (.failed 5) blockedAccount
    let hold : State := { held .standby .dark (.failed 0) newAccount with lamps.thermalHold := true }
    ((s .standby).Ready .facility ∧ (s .standby).Waits ∧ (s .coolingDown).Waits ∧ (s .coolingDown).condition .a = .failed 0 ∧
      ((s .coolingDown).condition .b).resting = false ∧ blocked.Waits ∧ newAccount.lifeState ≠ blocked.accounts.life.a) ∧
    Lets (told .standby) ∧ Lets (told .coolingDown) ∧
    (hold.Waits ∧ hold.condition .a = .dark ∧ newAccount.lifeState = hold.accounts.life.a ∧ hold.lamps.thermalHold = true) :=
  ⟨by decide, ⟨by decide, eachLamp (by decide) (by decide), eachLamp (by decide) (by decide)⟩,
    ⟨by decide, eachLamp (by decide) (by decide), eachLamp (by decide) (by decide)⟩, by decide⟩

theorem witness_MinuteTickChargesLitLamps :
    let s : State := { onA with clock.minute := 10079, accounts.litTicks := 5 }
    let inside (m : Nat) : State := inBooking 410 0 1 (scheduled friday m onA)
    let waits (m : Nat) (x : ScheduleState) : State :=
      let y := scheduled friday m onA
      { y with timetable := { y.timetable with state := x, grace := if x = .grace then some 5 else none } }
    let worn : State := withAccountA { wornA with wear := 2879990 } onA
    let b : Booking := ⟨⟨410, 6240, 6350, 15, 0x11, none, 1, .default, false⟩, 0, false⟩
    (s.powered = true ∧ s.timetable.state = .disabled ∧ s.clock.minute < 10080 ∧ s.lampState .a = .lit ∧ s.ecoLine .a = false ∧
      ({ s.account .a with wear := 16, fullMinutes := 1 } : LampAccount).lifeState = s.accounts.life.a ∧ s.lampState .b ≠ .lit) ∧
    ((inside 6300).activeBooking = some b ∧ b.config.stop + b.extension ≠ 6301 ∧ (inside 6300).lampState .a = .lit) ∧
    ((waits 6300 .idle).timetable.active = none ∧ (waits 6300 .idle).timetable.table[0]? = some b ∧ b.config.start ≠ 6301 ∧
      (b.config.start + 10080 - b.config.lead) % 10080 ≠ 6301) ∧
    ((waits 6230 .lead).timetable.state = .lead ∧ (waits 6230 .grace).timetable.state = .grace ∧ b.config.start ≠ 6231 ∧
      (b.config.start + 10080 - b.config.lead) % 10080 ≠ 6231) ∧
    (worn.BlankLegal ∧ worn.power.held = false ∧ worn.power.state ≠ .standby ∧ worn.timetable.state = .disabled ∧
      worn.lampState .a = .lit ∧
      ({ wornA with wear := 2880006, fullMinutes := wornA.fullMinutes + 1 } : LampAccount).lifeState ≠ worn.accounts.life.a) := by decide

/-- Both lamps in given conditions in WARMING, with lamp A alone in an ALTERNATE session. -/
def warmingBoth (a b : LampCondition) : State := withLamps a b (warmingA a)

/-- WARMING under DUAL, both lamps in the session. -/
def warmingDual (a b : LampCondition) : State := withLamps a b { onDual with power.state := .warming }

/-- WARMING under DUAL with lamp A alone in the session, lamp B cleared of a fault and DARK. -/
def warmingCleared (a : LampCondition) : State :=
  let s := warmingDual a .dark
  { s with power.session := ⟨true, false⟩ }

/-- Lamp A of the session can be lost in WARMING. -/
abbrev InWarming (s : State) : Prop := s.powered = true ∧ s.power.session.get .a = true ∧
  s.power.demand ≠ ⟨false, false, false⟩ ∧ s.power.state = .warming ∧ s.power.held = false ∧ s.power.degraded = false

/-- A lamp one pulse short of BLOCKED, after 3,099 h of wear. -/
def almostBlocked : LampAccount := { newAccount with wear := 2975990 }

theorem witness_IgnitionWindowsAndRetries :
    let six (c : LampCondition) : State := { warmingA c with lamps := { (warmingA c).lamps with params := ⟨120, 6⟩ } }
    let old := withAccountA almostBlocked (warmingA (.retry 1 1))
    ((six (.window 5 1 false)).powered = true ∧ (six (.window 5 1 false)).condition .a = .window 5 1 false ∧
      5 < (six (.window 5 1 false)).lamps.params.strikeLimit ∧ (5, 80) ∈ [(1, 10), (2, 20), (3, 40), (4, 80), (5, 80)]) ∧
    ((six (.retry 5 1)).condition .a = .retry 5 1 ∧ 5 < (six (.retry 5 1)).lamps.params.strikeLimit ∧
      (six (.retry 5 1)).lines.lit.get .a = false ∧
      ({ newAccount with wear := 240, strikes := 1 } : LampAccount).lifeState = (six (.retry 5 1)).accounts.life.a) ∧
    (old.BlankLegal ∧ old.power.held = false ∧ old.accounts.life.a ≠ .blocked ∧ old.condition .a = .retry 1 1 ∧
      old.power.state ≠ .standby ∧ 1 < old.lamps.params.strikeLimit ∧ old.lines.lit.a = false ∧
      ({ almostBlocked with wear := 2976230, strikes := 1 } : LampAccount).lifeState = .blocked) := by decide

/-- The session's lamp lost beside a LIT lamp under DUAL, beside a DARK and a COOLING lamp, and beside none. -/
theorem witness_IgnitionWindowsAndRetries_loss :
    let dual := warmingDual (.window 3 1 false) .lit
    let dark := warmingBoth (.window 3 1 false) .dark
    let cooling := warmingBoth (.retry 3 1) (.cooling 5 false)
    let cleared := warmingCleared (.window 1 1 true)
    let alone := warmingBoth (.window 1 1 true) (.failed 0)
    (InWarming dual ∧ dual.power.latched = some .dual ∧ dual.power.session.get .b = true ∧ dual.lampState .b = .lit ∧
      dual.condition .a = .window 3 1 false ∧ dual.lamps.params.strikeLimit ≤ 3) ∧
    (InWarming dark ∧ dark.power.session.get .b = false ∧ dark.power.latched = some .alternate ∧
      LampPolicy.alternate ∈ [LampPolicy.alternate, .fixedA, .fixedB] ∧ dark.accounts.life.b ≠ .blocked ∧
      dark.lamps.thermalHold = false ∧ dark.condition .b = .dark ∧ dark.lines.lit.b = false ∧
      ({ newAccount with wear := 240, strikes := 1 } : LampAccount).lifeState = dark.accounts.life.b) ∧
    (InWarming cooling ∧ cooling.condition .a = .retry 3 1 ∧ cooling.condition .b = .cooling 5 false) ∧
    (InWarming cleared ∧ cleared.condition .a = .window 1 1 true ∧ cleared.power.latched = some .dual ∧
      cleared.power.session.get .b = false ∧ 0 < cleared.lamps.params.coolDown) ∧
    (InWarming alone ∧ alone.available .b = false) := by decide

/-- Set Lamp Thresholds with a rated life of 2,800 h makes a lamp of 3,099 h BLOCKED in its window and in its wait. -/
theorem witness_IgnitionWindowsAndRetries_thresholds :
    let s (c : LampCondition) : State := withAccountA almostBlocked (warmingA c)
    ((s (.retry 1 1)).Ready .facility ∧ (s (.retry 1 1)).BlankLegal ∧ (0 : Byte) = lampByte .a ∧
      (s (.retry 1 1)).accounts.life.a ≠ .blocked ∧ (s (.retry 1 1)).condition .a = .retry 1 1 ∧ InWarming (s (.retry 1 1))) ∧
    ((s (.window 1 1 false)).Ready .facility ∧ (s (.window 1 1 false)).BlankLegal ∧
      (s (.window 1 1 false)).condition .a = .window 1 1 false ∧ (s (.window 1 1 false)).power.state ≠ .standby) ∧
    ({ almostBlocked with
      ratedLife := max 500 (min 20000 (readU16 0xF0 0x0A))
      warnOffset := min 2000 (readU16 0x2C 1)
      grace := min 1000 (readU16 100 0) } : LampAccount).lifeState = .blocked := by decide

theorem witness_CoolDownsAndFanTimes :
    let beside (c : LampCondition) : State := withLamps .lit c onA
    let deferred (c : LampCondition) (x : LifeState) : State :=
      { withLamps (.cooling 1 true) c (warmingA .dark) with
        power.state := .coolingDown
        accounts.life := ⟨x, .fresh⟩ }
    let pulse : LampAccount := { newAccount with wear := 240, strikes := 1 }
    ((beside (.cooling 1 false)).powered = true ∧ (beside (.cooling 1 false)).BlankLegal ∧ (beside (.cooling 1 false)).power.held = false ∧
      (beside (.cooling 1 false)).power.state = .on ∧ (beside (.cooling 1 false)).lampState .a = .lit ∧
      (beside (.cooling 1 false)).power.degraded = ((beside (.cooling 1 false)).power.latched == some .dual) ∧
      (beside (.cooling 1 false)).condition .b = .cooling 1 false) ∧
    ((beside (.failed 1)).condition .b = .failed 1 ∧ 0 < 1) ∧
    (let s := deferred .dark .fresh
     s.BlankLegal ∧ s.power.held = false ∧ s.condition .a = .cooling 1 true ∧
      s.power.state = .coolingDown ∧ s.accounts.life.get .a ≠ .blocked ∧ s.lamps.thermalHold = false ∧
      s.power.session.get .a = true ∧ s.lines.lit.get .a = false ∧ pulse.lifeState = s.accounts.life.a) ∧
    (let s := deferred .dark .blocked
     s.powered = true ∧ s.BlankLegal ∧ s.power.held = false ∧ s.condition .a = .cooling 1 true ∧ s.power.state = .coolingDown ∧
      s.power.session = ⟨true, false⟩ ∧ s.lamps.thermalHold = false ∧ s.accounts.life.a = .blocked ∧
      s.power.demand ≠ ⟨false, false, false⟩ ∧ s.power.degraded = false ∧ s.power.latched = some .alternate ∧
      s.condition .b = .dark ∧ s.accounts.life.b ≠ .blocked ∧ s.lines.lit.b = false ∧ pulse.lifeState = s.accounts.life.b) ∧
    ((deferred (.failed 7) .blocked).BlankLegal ∧ (deferred (.failed 7) .blocked).condition .b = .failed 7 ∧ 0 < 7) := by decide

theorem witness_LitLinesRiseAndFall :
    let striking := warmingA (.window 1 3 false)
    (onA.powered = true ∧ onA.lines.lit.get .b = false ∧ onA.lampState .b = .dark) ∧
    (striking.lines.lit.get .a = false ∧ striking.lampState .a = .striking ∧ striking.power.state = .warming ∧
      striking.power.held = false ∧ striking.lampState .b ≠ .striking) ∧
    (({ standby with lines.lit := ⟨true, false⟩ } : State).lines.lit.get .a = true ∧ standby.lampState .a ≠ .lit) ∧
    (onA.lines.lit.get .a = true ∧ onA.lampState .a = .lit ∧ onA.power.state = .on ∧ onA.power.held = false ∧
      (onA.lamps.lamp.get .a).sessionDropouts + 1 ≤ 2 ∧ onA.lampState .b ≠ .lit ∧ onA.lampState .b ≠ .striking) := by decide

/-- Lamp A, LIT in the session, has had two dropouts; lamp B is in a given condition. -/
def third (b : LampCondition) (s : State) : State := { s with lamps.lamp := ⟨⟨.lit, 2⟩, ⟨b, 0⟩⟩ }

/-- ON under DUAL with lamp A alone in the session, lamp B cleared of a fault and DARK. -/
def onCleared : State := { onDual with
  power := { onDual.power with session := ⟨true, false⟩, degraded := true } }

abbrev ThirdDropout (s : State) : Prop := s.lines.lit.get .a = true ∧ s.lampState .a = .lit ∧ s.power.state = .on ∧
  s.power.held = false ∧ (s.lamps.lamp.get .a).sessionDropouts + 1 = 3 ∧ s.power.session.get .a = true ∧
  s.power.demand ≠ ⟨false, false, false⟩

/-- The third dropout with the other lamp LIT, DARK, COOLING, cleared beside a DUAL session, and unavailable. -/
theorem witness_LitLinesRiseAndFall_thirdDropout :
    (ThirdDropout (third .lit onDual) ∧ (third .lit onDual).lampState .b = .lit ∧ (third .lit onDual).power.latched = some .dual ∧
      (third .lit onDual).power.session.get .b = true ∧ (third .lit onDual).power.degraded = false) ∧
    (ThirdDropout (third .dark onA) ∧ (third .dark onA).power.session.get .b = false ∧
      (third .dark onA).power.latched = some .alternate ∧ LampPolicy.alternate ∈ [LampPolicy.alternate, .fixedA, .fixedB] ∧
      (third .dark onA).accounts.life.b ≠ .blocked ∧ (third .dark onA).lamps.thermalHold = false ∧
      (third .dark onA).condition .b = .dark ∧ (third .dark onA).lines.lit.b = false ∧
      ({ newAccount with wear := 240, strikes := 1 } : LampAccount).lifeState = (third .dark onA).accounts.life.b) ∧
    (ThirdDropout (third (.cooling 9 false) onA) ∧ (third (.cooling 9 false) onA).condition .b = .cooling 9 false) ∧
    (ThirdDropout (third .dark onCleared) ∧ (third .dark onCleared).power.session.get .b = false ∧
      (third .dark onCleared).power.latched = some .dual ∧ (third .dark onCleared).lampState .b ≠ .lit ∧
      (third .dark onCleared).lampState .b ≠ .striking) ∧
    (ThirdDropout (third (.failed 0) onA) ∧ (third (.failed 0) onA).available .b = false) := by decide

theorem witness_ThermalTrip : onA.Ready .engine ∧ onA.QueuesLegal := by decide

theorem witness_ThermalClearAndClearLampFault :
    let hold (s : State) : State := { s with lamps.thermalHold := true }
    let failed (fan : Nat) : State := withLamps (.failed fan) .lit { onDual with power.degraded := true }
    (base.Ready .engine ∧ base.BlankLegal ∧ base.lamps.thermalHold = false) ∧
    ((hold standby).BlankLegal ∧ (hold standby).lamps.thermalHold = true ∧ standby.power.held = false ∧
      standby.power.demand = ⟨false, false, false⟩) ∧
    ((failed 0).Ready .facility ∧ (0 : Byte) = lampByte .a ∧ (failed 0).condition .a = .failed 0 ∧ (failed 0).BlankLegal ∧
      (failed 0).Unmoved .a ∧ (failed 1).condition .a = .failed 1) ∧
    ((withLamps (.failed 0) .dark standby).Unmoved .a ∧ (withLamps (.failed 9) (.window 1 1 false) (warmingA .dark)).Unmoved .a ∧
      (coolingA (.failed 9)).power.state = .coolingDown ∧ (coolingA (.failed 9)).power.held = false ∧ 0 < 9) ∧
    1 < (2 : Byte).toNat := ⟨by decide, by decide, by decide, by decide, by decide⟩

/-- The held demand let in by a Thermal Clear and by a Clear Lamp Fault, and kept waiting by the thermal hold. -/
theorem witness_ThermalClearAndClearLampFault_release :
    let hold (s : State) : State := { s with lamps.thermalHold := true }
    let wanted : State :=
      let s := warmingA (.cooling 5 false)
      { s with power := { s.power with state := .coolingDown, held := true } }
    let lit (x : PowerState) : State := held x .dark (.failed 5) newAccount
    let faulty (x : PowerState) : State := held x (.failed 0) (.failed 5) newAccount
    ((hold (lit .standby)).Ready .engine ∧ (hold (lit .standby)).Waits ∧ (hold (lit .coolingDown)).Waits) ∧
    Lets (lit .standby) ∧ Lets (lit .coolingDown) ∧
    ((hold wanted).Ready .engine ∧ (hold wanted).BlankLegal ∧ wanted.power.held = true ∧ wanted.power.state = .coolingDown ∧
      wanted.power.degraded = false ∧ wanted.power.demand ≠ ⟨false, false, false⟩ ∧ wanted.power.session ≠ ⟨false, false⟩) ∧
    ((∀ l : Lamp, wanted.power.session.get l = true → wanted.available l = true) ∧ wanted.StrikesPlainly wanted.power.session) ∧
    ((faulty .standby).Ready .facility ∧ (faulty .standby).Waits ∧ (faulty .coolingDown).Waits ∧
      (faulty .coolingDown).condition .a = .failed 0 ∧ ((faulty .coolingDown).condition .b).resting = false) ∧
    ((hold (faulty .coolingDown)).BlankLegal ∧ (hold (faulty .coolingDown)).power.held = true) :=
  ⟨by decide, ⟨by decide, eachLamp (by decide) (by decide), eachLamp (by decide) (by decide)⟩,
    ⟨by decide, eachLamp (by decide) (by decide), eachLamp (by decide) (by decide)⟩, by decide,
    ⟨eachLamp (by decide) (by decide), eachLamp (by decide) (by decide)⟩, by decide, by decide⟩

theorem witness_ClearLampFault_refused : onA.Ready .facility ∧ ∀ fan, onA.condition .a ≠ .failed fan := ⟨by decide, nofun⟩

theorem witness_LevelBlankAndPowerDefaults :
    ((atLevel 0 0 base).Ready .panel ∧ (atLevel 0 0 base).lockout.effective = 0 ∧ (atLevel 3 0 base).Ready .facility) ∧
    (let s : State := { onA with power.blank := true }
     s.power.state = .on ∧ s.power.blank = true ∧ s.timetable.active = none ∧ s.power.settings.blankTimeout ≠ 0 ∧
      s.power.blankTimer = none ∧ s.power.blankSpent = false) ∧
    ({ onA with power.blank := true, power.blankSpent := true } : State).power.blankSpent = true ∧ standby.power.state ≠ .on ∧
    ((atLevel 2 0 base).Ready .panel ∧ (atLevel 2 0 base).lockout.effective ≤ 2 ∧ (1 : Byte) = flagByte true ∧ 1 < (2 : Byte).toNat) ∧
    (((0 : Byte), PowerLevel.full) ∈ [((0 : Byte), PowerLevel.full), (1, .eco)] ∧
      ((3 : Byte), LampPolicy.fixedB) ∈ [((0 : Byte), LampPolicy.alternate), (1, .dual), (2, .fixedA), (3, .fixedB)] ∧
      3 < (4 : Byte).toNat) := by decide

theorem witness_ClaimsBesideOtherClaims :
    let both : State := { onA with power.demand := ⟨true, false, true⟩ }
    let booked (dismissed : Bool) : State :=
      let s := inBooking 410 0 1 (scheduled friday 6250 both)
      { s with timetable.table := s.timetable.table.map (fun b => if b.config.id = 410 then { b with dismissed := dismissed } else b) }
    (onA.powered = true ∧ onA.BlankLegal ∧ onA.Admits .panel .powerOn [] ∧ onA.power.demand ≠ ⟨false, false, false⟩) ∧
    (both.BlankLegal ∧ both.Admits .panel .powerOff [] ∧ both.timetable.active = none ∧
      ({ both.power.demand with panel := false } : Demand) ≠ ⟨false, false, false⟩) ∧
    (standby.Admits .panel .powerOff [] ∧ standby.power.demand = ⟨false, false, false⟩) ∧
    (both.Ready .facility ∧ ({ both.power.demand with facility := false } : Demand) ≠ ⟨false, false, false⟩ ∧ 1 < (2 : Byte).toNat) ∧
    (let s : State := { both with power.blank := true, power.blankTimer := some 1 }
     s.BlankLegal ∧ s.power.blankTimer ≠ none ∧ ({ s.power.demand with panel := false } : Demand) ≠ ⟨false, false, false⟩) ∧
    ((booked false).Admits .panel .powerOff [] ∧ (booked false).BlankLegal ∧ (booked false).power.demand.facility = true ∧
      (booked false).activeBooking = some ⟨⟨410, 6240, 6350, 15, 0x11, none, 1, .default, false⟩, 0, false⟩ ∧
      (booked true).Admits .panel .powerOff [] ∧ (booked true).BlankLegal ∧
      (booked true).activeBooking = some ⟨⟨410, 6240, 6350, 15, 0x11, none, 1, .default, false⟩, 0, true⟩) := by decide

theorem witness_PowerOnIsHeldInStandby :
    let hold : State := { standby with lamps.thermalHold := true }
    let unusable : State := withLamps (.failed 0) (.failed 5) base
    (hold.Admits .panel .powerOn [] ∧ hold.BlankLegal ∧ hold.power.state = .standby ∧ hold.power.held = false ∧
      hold.power.degraded = false ∧ hold.power.demand = ⟨false, false, false⟩ ∧ ¬ hold.Usable) ∧
    (unusable.Ready .facility ∧ unusable.BlankLegal ∧ unusable.power.state = .coolingDown ∧ unusable.power.held = false ∧
      unusable.power.degraded = false ∧ unusable.power.demand = ⟨false, false, false⟩ ∧ ¬ unusable.Usable ∧
      unusable.power.session = ⟨false, false⟩) := by decide

/-- The demand set is empty and a lamp is usable. -/
abbrev Idle (s : State) : Prop := s.power.demand = ⟨false, false, false⟩ ∧ s.Usable ∧ s.power.degraded = false

theorem witness_PowerOnStrikesTheChosenLamps :
    let one : State := withLamps (.failed 0) .dark standby
    let dark : State := { coolingA (.cooling 5 false) with accounts.lamps.a.wear := 16 }
    let cooling : State := withLamps (.cooling 5 false) (.failed 0) { base with power.latched := some .fixedA }
    (Idle standby ∧ standby.Admits .panel .powerOn [] ∧ standby.Ready .facility ∧ standby.power.state = .standby) ∧
    standby.StrikesPlainly (standby.sessionBy .alternate) ∧
    (Idle one ∧ one.power.state = .standby) ∧ one.StrikesPlainly (one.sessionBy .alternate) ∧
    (Idle dark ∧ dark.Admits .panel .powerOn [] ∧ dark.power.state = .coolingDown ∧ dark.power.held = false ∧
      dark.power.session = ⟨false, false⟩ ∧ (dark.sessionBy dark.policyCooling).get .b = true ∧ dark.condition .b = .dark ∧
      dark.lines.lit.get .b = false) ∧ dark.StrikesPlainly (dark.sessionBy dark.policyCooling) ∧
    (Idle cooling ∧ cooling.Ready .facility ∧ cooling.power.state = .coolingDown ∧ cooling.power.held = false ∧
      cooling.power.session = ⟨false, false⟩) ∧ cooling.StrikesPlainly (cooling.sessionBy cooling.policyCooling) ∧
    ∀ l : Lamp, (cooling.sessionBy cooling.policyCooling).get l = true → cooling.condition l ≠ .dark :=
  ⟨by decide, eachLamp (by decide) (by decide), by decide, eachLamp (by decide) (by decide), by decide,
    eachLamp (by decide) (by decide), by decide, eachLamp (by decide) (by decide), eachLamp (by decide) (by decide)⟩

theorem witness_EmptiedDemandStopsTheSession :
    let by_ (d : Demand) (s : State) : State := { s with power.demand := d }
    let blanked : State := { onA with power.blank := true, power.blankTimer := some 1 }
    let grace : State :=
      let s := by_ ⟨false, true, false⟩ (scheduled [] 77 onA)
      { s with timetable := { s.timetable with state := .grace, grace := some 1 } }
    let enabled : State := by_ ⟨false, true, false⟩ (scheduled [] 77 onA)
    (onA.powered = true ∧ onA.Admits .panel .powerOff [] ∧ onA.activeBooking = none ∧ onA.power.demand = ⟨true, false, false⟩ ∧
      onA.power.state ≠ .standby ∧ onA.quiet = false) ∧
    ((by_ ⟨false, false, true⟩ onDual).Ready .facility ∧ onDual.power.state ≠ .standby ∧ onDual.quiet = false) ∧
    (blanked.BlankLegal ∧ blanked.power.blankTimer ≠ none ∧ blanked.power.demand = ⟨true, false, false⟩ ∧ blanked.quiet = false) ∧
    (grace.timetable.state = .grace ∧ grace.timetable.active = none ∧ grace.power.demand = ⟨false, true, false⟩ ∧
      grace.timetable.table = [] ∧ grace.quiet = false) ∧
    (enabled.Ready .facility ∧ enabled.timetable.enable = true ∧ enabled.power.demand = ⟨false, true, false⟩ ∧
      enabled.timetable.active = none ∧ enabled.power.state ≠ .standby ∧ enabled.quiet = false) := by decide

/-- Inside a booking, and in STANDBY with the demand held. -/
theorem witness_EmptiedDemandStopsTheSession_booking :
    let s : State :=
      let x := inBooking 410 0 1 (scheduled friday 6250 onA)
      { x with power.demand := ⟨true, true, false⟩ }
    let alone : State := { s with power.demand := ⟨false, true, false⟩ }
    let waiting : State := held .standby (.failed 0) (.failed 0) newAccount
    (s.Admits .panel .powerOff [] ∧ s.power.demand.schedule = true ∧ s.power.demand.facility = false ∧
      s.activeBooking = some ⟨⟨410, 6240, 6350, 15, 0x11, none, 1, .default, false⟩, 0, false⟩ ∧ s.power.state ≠ .standby ∧
      s.quiet = false) ∧
    (alone.Ready .facility ∧ alone.timetable.enable = true ∧ alone.activeBooking = s.activeBooking ∧ alone.quiet = false) ∧
    (waiting.Admits .panel .powerOff [] ∧ waiting.activeBooking = none ∧ waiting.power.demand = ⟨true, false, false⟩ ∧
      waiting.power.state = .standby ∧ waiting.power.held = true ∧ waiting.power.degraded = false ∧ waiting.BlankLegal) := by decide

theorem witness_EntryIntoStandby :
    let s (c : LampCondition) : State := withLamps c (.failed 0) base
    let blocked (c : LampCondition) : State := held .coolingDown c .dark newAccount
    ((s (.cooling 1 false)).powered = true ∧ (s (.cooling 1 false)).power.state = .coolingDown ∧
      (s (.cooling 1 false)).power.held = false ∧ (s (.cooling 1 false)).power.demand = ⟨false, false, false⟩ ∧
      (s (.cooling 1 false)).condition .b = .failed 0 ∧ (s (.cooling 1 false)).condition .a = .cooling 1 false) ∧
    ((coolingA (.failed 1)).power.state = .coolingDown ∧ (coolingA (.failed 1)).condition .b = .dark ∧
      (coolingA (.failed 1)).condition .a = .failed 1 ∧ 0 < 1) ∧
    ((blocked (.failed 1)).power.state = .coolingDown ∧ (blocked (.failed 1)).power.demand ≠ ⟨false, false, false⟩ ∧
      (blocked (.failed 1)).power.held = true ∧ (blocked (.failed 1)).condition .a = .failed 1 ∧
      (blocked (.failed 1)).condition .b = .dark ∧ (blocked (.cooling 1 false)).condition .a = .cooling 1 false) := by decide

/-- The lamps at rest with the demand held: with a lamp DARK the re-check lets it in. And the end of a cool-down and of a fan time
beside a lamp that still cools. -/
theorem witness_EntryIntoStandby_release :
    let s (a : LampCondition) : State := held .coolingDown a (.cooling 60 false) newAccount
    Lets (held .standby (.failed 0) .dark newAccount) ∧
    ((s (.failed 1)).powered = true ∧ (s (.failed 1)).Waits ∧ (s (.cooling 1 false)).Waits ∧
      ((s (.failed 1)).condition .b).resting = false ∧ (s (.failed 1)).condition .a = .failed 1 ∧
      (s (.cooling 1 false)).condition .a = .cooling 1 false) ∧
    Lets (s (.failed 0)) ∧ Lets (s .dark) :=
  ⟨⟨by decide, eachLamp (by decide) (by decide), eachLamp (by decide) (by decide)⟩, by decide,
    ⟨by decide, eachLamp (by decide) (by decide), eachLamp (by decide) (by decide)⟩,
    ⟨by decide, eachLamp (by decide) (by decide), eachLamp (by decide) (by decide)⟩⟩

theorem witness_ClassResolution :
    ((hall base).resolve 0x13).row = none ∧ ((hall base).resolve 0x30).row = some 4 ∧ ((hall base).row 4).present = true ∧
    ((hall base).resolve 0x12).row = some 1 ∧ ((hall base).row 1).present = false ∧
    (hall onA).inputs = (hall base).inputs := by decide

theorem witness_Selections :
    let on (st : AcqStatus) : State := selecting 3 .direct st 4 none (hall base)
    ((hall base).Admits .panel .selectInput [10] ∧ 10 ≤ (10 : Byte).toNat) ∧
    ((hall base).Admits .panel .selectInput [9] ∧ (9 : Fin 10).val = (9 : Byte).toNat ∧ ((hall base).row 9).config.enabled = false) ∧
    ((hall base).Admits .facility .selectClass [0x13] ∧ ((hall base).resolve 0x13).row = none) ∧
    ((hall base).Admits .panel .selectInput [3] ∧ (3 : Fin 10).val = (3 : Byte).toNat ∧ ((hall base).row 3).config.enabled = true ∧
      (hall base).selectedRow ≠ some 3) ∧
    ((hall base).Admits .facility .selectClass [0x20] ∧ ((hall base).resolve 0x20).row = some 2 ∧ (hall base).selectedRow ≠ some 2) ∧
    ((on .locked).Admits .panel .selectInput [3] ∧ (on .locked).selectedRow = some 3 ∧ ((on .locked).row 3).status ≠ .noSignal) ∧
    ((on .noSignal).Admits .panel .selectInput [3] ∧ (on .noSignal).selectedRow = some 3 ∧ ((on .noSignal).row 3).status = .noSignal ∧
      ((on .noSignal).row 3).config.enabled = true ∧ ((on .noSignal).row 3).config.timing = .auto) := by decide

theorem witness_AttemptWindowExpiry :
    let s (n : Nat) : State := selecting 3 .direct .acquiring n (some ⟨1, 8000⟩) (hall base)
    ((s 3).powered = true ∧ (s 3).acq.selected = some ⟨3, .direct⟩ ∧ (s 3).acq.window = some ⟨1, 8000⟩ ∧
      ((s 3).row 3).status = .acquiring ∧ (s 3).acq.attempts < (s 3).acq.params.attemptLimit) ∧
    (s 4).acq.params.attemptLimit ≤ (s 4).acq.attempts := by decide

theorem witness_SyncReport :
    let on (n : Fin 10) (st : AcqStatus) : State := selecting n (.byClass 0x20) st 0 none (hall base)
    (base.Ready .engine ∧ 10 ≤ (10 : Byte).toNat ∧ 1 < (2 : Byte).toNat) ∧
    ((9 : Fin 10).val = (9 : Byte).toNat ∧ base.selectedRow ≠ some 9 ∧ (1 : Byte) = flagByte true) ∧
    ((on 3 .acquiring).Ready .engine ∧ (on 3 .acquiring).selectedRow = some 3 ∧ ((on 3 .acquiring).row 3).status = .acquiring ∧
      ((on 3 .noSignal).row 3).status = .noSignal) ∧
    ((on 3 .locked).selectedRow = some 3 ∧ ((on 3 .locked).row 3).status = .locked ∧ ((on 3 .locked).row 3).config.timing = .auto) ∧
    ((on 2 .locked).acq.selected = some ⟨2, .byClass 0x20⟩ ∧ ((on 2 .locked).row 2).status = .locked ∧
      ((on 2 .locked).row 2).config.timing = .fixed 5) := by decide

theorem witness_PresenceAndParameters :
    let s := selecting 3 .direct .noSignal 4 none (hall base)
    (s.Ready .engine ∧ 1024 ≤ readU16 0 4 ∧ readU16 0xFF 3 < 1024) ∧
    (base.Ready .engine ∧ base.selectedRow = none) ∧
    (s.selectedRow = some 3 ∧ (s.row 3).status = .noSignal ∧ (s.row 3).present = false ∧ (readU16 0x4D 0).testBit 3 = true ∧
      (s.row 3).config.timing = .auto) ∧ s.Ready .facility := by decide

theorem witness_WriteInputRow :
    base.Ready .facility ∧ 9 < (10 : Byte).toNat ∧ 1 < (2 : Byte).toNat ∧ 15 < (16 : Byte).toNat ∧
    (7 < (8 : Byte).toNat ∧ (8 : Byte) ≠ 0xFF) ∧
    ((9 : Fin 10).val = (9 : Byte).toNat ∧ (15 : Fin 16).val = (15 : Byte).toNat ∧ (7 : Fin 8).val = (7 : Byte).toNat ∧
      base.selectedRow ≠ some 9) := by decide

theorem witness_RewriteOfTheSelectedRow :
    let s := selecting 4 (.byClass 0x30) .locked 0 none (hall base)
    let lone : State := { s with inputs := (s.inputs.set 3 ⟨factoryRow, false, .idle⟩).set 5 ⟨factoryRow, false, .idle⟩ }
    let matching (r : RowConfig) : Bool := 0x30 &&& r.classMask == r.classCode &&& r.classMask
    (s.Ready .facility ∧ s.acq.selected = some ⟨4, .byClass 0x30⟩) ∧
    (matching ⟨true, 0x3F, 0xF0, .auto, some 2⟩ = true ∧ Timing.auto = (s.row 4).config.timing ∧
      some 2 ≠ (s.row 4).config.preset ∧ none = (s.row 4).config.preset) ∧
    (matching ⟨true, 0x32, 0xF0, .fixed 15, none⟩ = true ∧ Timing.fixed 15 ≠ (s.row 4).config.timing) ∧
    (let f := selecting 2 .direct .locked 0 none (hall base)
     f.Ready .facility ∧ f.acq.selected = some ⟨2, .direct⟩ ∧ Timing.auto ≠ (f.row 2).config.timing) ∧
    ((⟨false, 0, 0xF0, .auto, none⟩ : RowConfig).enabled = false) ∧
    (matching ⟨true, 0x42, 0xF0, .auto, none⟩ = false ∧
      (({ s with inputs := s.inputs.set 4 ⟨⟨true, 0x42, 0xF0, .auto, none⟩, true, .locked⟩ } : State).resolve 0x30).row = some 3) ∧
    (lone.Ready .facility ∧ lone.acq.selected = some ⟨4, .byClass 0x30⟩ ∧
      (({ lone with inputs := lone.inputs.set 4 ⟨⟨true, 0x42, 0xF0, .auto, none⟩, true, .locked⟩ } : State).resolve 0x30).row = none) := by decide

theorem witness_TableReads :
    let s := scheduled friday 0 base
    s.Ready .panel ∧ 9 < (10 : Byte).toNat ∧ (9 : Fin 10).val = (9 : Byte).toNat ∧ 7 < (8 : Byte).toNat ∧
    (7 : Fin 8).val = (7 : Byte).toNat ∧ base.timetable.table = [] ∧ s.timetable.table ≠ [] ∧
    s.timetable.table.length ≤ (3 : Byte).toNat ∧ (2 : Byte).toNat < s.timetable.table.length := by decide

theorem witness_KeystoneArithmetic :
    base.tilt.presets[base.tilt.index].mode = .autoTrim ∧
    ({ base.tilt with presets := base.tilt.presets.set 0 ⟨.off, noTrims⟩ } : Tilt).presets[(0 : Fin 8)].mode = .off := by decide

theorem witness_TrimsAndRecomputation :
    base.tilt.form = base.tilt.record ∧ ({ base with tilt.homed := true } : State).tilt.form ≠ base.tilt.record ∧
    ((atLevel 1 0 base).Ready .panel ∧ (atLevel 1 0 base).lockout.effective ≤ 1 ∧ (atLevel 3 0 base).Ready .facility) ∧
    (3 : Fin 4).val = (3 : Byte).toNat ∧ 3 < (4 : Byte).toNat := by decide

theorem witness_PresetsAndCalibration :
    let trims : PerCorner Offset := ⟨⟨32767, -32768⟩, ⟨480, 300⟩, ⟨-481, -301⟩, ⟨0, 0⟩⟩
    base.Ready .facility ∧
    (∀ i : Fin 4, -32768 ≤ (trims.get i).dx ∧ (trims.get i).dx < 32768 ∧ -32768 ≤ (trims.get i).dy ∧ (trims.get i).dy < 32768) ∧
    7 < (8 : Byte).toNat ∧ ((7 : Byte).toNat ≤ 7 ∧ 2 < (3 : Byte).toNat) ∧ (7 : Fin 8).val = (7 : Byte).toNat ∧
    ((2 : Byte), PresetMode.off) ∈ [((0 : Byte), PresetMode.autoTrim), (1, .trimOnly), (2, .off)] := by decide

theorem witness_EncoderIndexAndSettling :
    let top : State := { base with tilt.count := 8000, lines.ta := true, lines.tb := true }
    let homed (n : Int) : State := { base with tilt.homed := true, tilt.armed := false, tilt.count := n }
    (base.powered = true ∧ ((base.lines.ta, base.lines.tb), (true, false), (1 : Int)) ∈ [((false, false), (true, false), (1 : Int))] ∧
      -8000 ≤ base.tilt.count + 1 ∧ base.tilt.count + 1 ≤ 8000) ∧
    (((top.lines.ta, top.lines.tb), (false, true), (1 : Int)) ∈ [((true, true), (false, true), (1 : Int))] ∧ 8000 < top.tilt.count + 1) ∧
    base.tilt.armed = true ∧
    ((homed 5).tilt.armed = false ∧ (homed 5).tilt.homed = true ∧ 4 < ((homed 5).tilt.count - (homed 5).tilt.calibration.indexOffset).natAbs) ∧
    ((homed 4).tilt.count - (homed 4).tilt.calibration.indexOffset).natAbs ≤ 4 ∧
    (({ base with tilt.armed := false } : State).tilt.armed = false ∧ base.tilt.homed = false) ∧
    ({ base with tilt.settle := some 1 } : State).tilt.settle ≠ none := by decide

theorem witness_StatusGeometryLockoutAndScheduleReads :
    let s := inBooking 411 1 1 (scheduled friday 6380 onA)
    base.Ready .engine ∧ 3 < (4 : Byte).toNat ∧ s.Ready .panel ∧
    ((3 : Byte), [(0 : Byte)]) ∈ [((0 : Byte), [(0 : Byte)]), (3, [0])] ∧
    ∀ i ∈ s.timetable.active, ∃ b ∈ s.timetable.table, b.config.id = i := by decide

theorem witness_LockoutRequests :
    base.Ready .facility ∧ (3 : Fin 4).val = (3 : Byte).toNat ∧ 3 < (4 : Byte).toNat ∧ base.lockout.Current ∧
    ({ base with lockout := ⟨1, 0, 0, some ⟨1, 1⟩, 0⟩ } : State).lockout.window ≠ none := by decide

theorem witness_TicksLeadAndStartBookings :
    let b : Booking := ⟨⟨410, 6240, 6350, 15, 0x11, none, 1, .default, false⟩, 0, false⟩
    let s (m : Nat) : State := scheduled friday m (hall { standby with power.demand := ⟨true, false, false⟩, power.held := true })
    ((s 6224).powered = true ∧ (s 6224).BlankLegal ∧ (s 6224).clock.minute < 10080 ∧ (∀ l : Lamp, (s 6224).lampState l ≠ .lit) ∧
      (s 6224).timetable.active = none ∧ b.config.Legal ∧ (s 6224).power.demand.panel = true ∧
      (s 6224).timetable.table[0]? = some b ∧ 0 < b.config.lead ∧ (b.config.start + 10080 - b.config.lead) % 10080 = 6225 ∧
      (s 6224).timetable.state = .idle) ∧
    ((s 6239).BlankLegal ∧ (s 6239).timetable.table[0]? = some b ∧ b.config.start = (s 6239).clock.minute + 1 ∧
      (s 6239).timetable.state = .idle ∧ (s 6239).queues.facility.notices.length ≤ 8 ∧
      ((s 6239).resolve 0x11).row = some 0 ∧ (base.resolve 0x11).row = none) :=
  ⟨⟨by decide, by decide, by decide, eachLamp (by decide) (by decide), by decide, by decide, by decide, by decide, by decide,
    by decide, by decide⟩, by decide⟩

theorem witness_TicksEndBookings :
    let b (autoOff dismissed : Bool) : Booking := ⟨⟨5, 100, 200, 0, 0, none, 1, .default, autoOff⟩, 0, dismissed⟩
    let c : Booking := ⟨⟨6, 201, 300, 30, 0, none, 0, .default, true⟩, 0, false⟩
    let s (x : Booking) (rest : List Booking) : State :=
      let y := inBooking 5 0 1 (scheduled [] 199 (withLamps (.window 1 3 false) .dark { onA with power.state := .warming }))
      { y with timetable.table := x :: rest, power.demand := ⟨true, !x.dismissed, false⟩ }
    ((s (b true false) []).powered = true ∧ (s (b true false) []).clock.minute < 10079 ∧
      (∀ l : Lamp, (s (b true false) []).lampState l ≠ .lit) ∧ (s (b true false) []).timetable.state = .active ∧
      (s (b true false) []).timetable.active = some 5 ∧ (s (b true false) []).timetable.cursor = 0 ∧
      (s (b true false) []).timetable.grace = none ∧ (b true false).config.stop + (b true false).extension = 200 ∧
      (s (b true false) []).power.state ≠ .standby ∧ (s (b true false) []).power.demand.schedule = !(b true false).dismissed ∧
      (s (b true false) []).power.demand.panel = true ∧ 0 < (s (b true false) []).power.settings.autoOffGrace) ∧
    ((s (b true true) []).power.demand.schedule = !(b true true).dismissed ∧ (b true true).dismissed = true ∧
      (s (b false false) []).power.demand.schedule = !(b false false).dismissed ∧ (b false false).config.autoOff = false) ∧
    ((s (b false false) [c]).timetable.table = b false false :: [c] ∧ c.config.id ≠ (b false false).config.id ∧
      200 < c.config.start ∧ c.config.start ≤ 200 + c.config.lead ∧ c.config.start < 10080 ∧ c.config.lead ≤ 30) :=
  ⟨⟨by decide, by decide, eachLamp (by decide) (by decide), by decide, by decide, by decide, by decide, by decide, by decide,
    by decide, by decide, by decide⟩, by decide, by decide⟩

theorem witness_GraceExpiryAndExtension :
    let grace (m : Nat) : State :=
      let s := scheduled friday m onA
      { s with timetable := { s.timetable with state := .grace, grace := some 1 }, power.demand := ⟨true, true, false⟩ }
    let s := inBooking 410 0 1 (scheduled friday 6300 onA)
    let b : Booking := ⟨⟨410, 6240, 6350, 15, 0x11, none, 1, .default, false⟩, 0, false⟩
    ((grace 6225).powered = true ∧ (grace 6225).BlankLegal ∧ (grace 6225).timetable.state = .grace ∧
      (grace 6225).timetable.active = none ∧ (grace 6225).power.demand.schedule = true ∧ (grace 6225).power.demand.panel = true ∧
      (grace 6225).timetable.table[0]? = some b ∧ 1 ≤ (b.config.start + 10080 - 6225) % 10080 ∧
      (b.config.start + 10080 - 6225) % 10080 ≤ b.config.lead) ∧
    ((grace 6224).BlankLegal ∧ (grace 6224).timetable.table[0]? = some b ∧ b.config.lead < (b.config.start + 10080 - 6224) % 10080) ∧
    (base.Ready .facility ∧ base.timetable.active = none) ∧
    (s.Ready .panel ∧ s.lockout.effective ≤ 2 ∧ s.timetable.table = [] ++ b :: s.timetable.table.tail ∧
      s.timetable.active = some b.config.id ∧ (∀ x ∈ s.timetable.table.tail, x.config.id ≠ b.config.id) ∧
      6360 < b.config.stop + b.extension + 15) ∧
    (let z := inBooking 412 2 3 (scheduled friday 6766 onA)
     z.Ready .facility ∧ z.timetable.active = some 412 ∧
      z.timetable.table = z.timetable.table.take 2 ++ ⟨⟨412, 6600, 6780, 20, 0x11, some 2, 3, .eco, true⟩, 0, false⟩ :: [] ∧
      (∀ x ∈ z.timetable.table.take 2, x.config.id ≠ 412) ∧ 6780 + 0 + 15 ≤ 10080) := by decide

/-- The premises of `State.Reevaluates`. -/
abbrev Reevaluable (s : State) (was : Option Booking) : Prop :=
  savedTableLegal (s.timetable.table.map (fun b => b.config)) ∧ s.BlankLegal ∧ (was = none → s.timetable.active = none)

/-- A booking of a table contains the present minute. -/
abbrev Inside (s : State) (b : Booking) : Prop := b.config.start ≤ s.clock.minute ∧ s.clock.minute < b.config.stop + b.extension

/-- No booking of the counted table contains the present minute, and the cursor belongs at `i`. -/
abbrev Outside (s : State) (was : Option Booking) (i : Nat) : Prop :=
  (∀ b ∈ s.countedTable was, ¬ Inside s b) ∧ i ≤ (s.countedTable was).length ∧
  (∀ b ∈ (s.countedTable was).take i, b.config.start ≤ s.clock.minute) ∧
  ∀ b ∈ (s.countedTable was).drop i, s.clock.minute < b.config.start

/-- The time set to a minute. -/
def setTo (m : Nat) (s : State) : State := { s with clock := ⟨m, 0, true⟩ }

/-- The awaited booking leads at a minute. -/
abbrev Leads (b : Booking) (m : Nat) : Prop :=
  0 < b.config.lead ∧ 1 ≤ (b.config.start + 10080 - m) % 10080 ∧ (b.config.start + 10080 - m) % 10080 ≤ b.config.lead

/-- Inside 411 of the Friday, which has an auto-off, and inside 410, which has none. -/
def in411 : State := inBooking 411 1 1 (scheduled friday 6380 (hall onA))
def in410 : State := inBooking 410 0 1 (scheduled friday 6300 (hall onA))
def graceAt (m : Nat) : State :=
  let s := scheduled friday m onA
  { s with timetable := { s.timetable with state := .grace, grace := some 5 }, power.demand := ⟨true, true, false⟩ }

/-- The bookings of the Friday. -/
def b410 : Booking := ⟨⟨410, 6240, 6350, 15, 0x11, none, 1, .default, false⟩, 0, false⟩
def b411 : Booking := ⟨⟨411, 6360, 6470, 10, 0x11, none, 1, .default, true⟩, 0, false⟩
def b412 : Booking := ⟨⟨412, 6600, 6780, 20, 0x11, some 2, 3, .eco, true⟩, 0, false⟩

/-- A re-evaluation keeps the active booking, starts another after it, or starts one after none. -/
theorem witness_TimeAndScheduleEnable_inside :
    (in411.Ready .facility ∧ in411.BlankLegal ∧ in411.timetable.state ≠ .disabled ∧ in411.activeBooking = some b411 ∧
      in410.activeBooking = some b410) ∧
    (Reevaluable (setTo 6400 in411) (some b411) ∧ ((setTo 6400 in411).countedTable (some b411))[1]? = some b411 ∧
      Inside (setTo 6400 in411) b411) ∧
    (Reevaluable (setTo 6600 in411) (some b411) ∧ ((setTo 6600 in411).countedTable (some b411))[2]? = some b412 ∧
      Inside (setTo 6600 in411) b412 ∧ b411.config.id ≠ b412.config.id) ∧
    (Reevaluable (scheduled friday 6600 onA) none ∧ ((scheduled friday 6600 onA).countedTable none)[2]? = some b412 ∧
      Inside (scheduled friday 6600 onA) b412) := by decide

/-- A re-evaluation ends the active booking: the next one leads, a grace runs, or the state is IDLE. -/
theorem witness_TimeAndScheduleEnable_ends :
    (in411.power.state ≠ .standby ∧ in411.power.demand.panel = true) ∧
    (Reevaluable (setTo 6580 in411) (some b411) ∧ Outside (setTo 6580 in411) (some b411) 2 ∧
      ((setTo 6580 in411).countedTable (some b411))[2]? = some b412 ∧ Leads b412 6580) ∧
    (Reevaluable (setTo 6470 in411) (some b411) ∧ Outside (setTo 6470 in411) (some b411) 2 ∧ ¬ Leads b412 6470 ∧
      b411.config.autoOff = true ∧ b411.dismissed = false ∧ some (60 * in411.power.settings.autoOffGrace) ≠ some 0) ∧
    (Reevaluable (setTo 6224 in410) (some b410) ∧ Outside (setTo 6224 in410) (some b410) 0 ∧ ¬ Leads b410 6224 ∧
      b410.config.autoOff = false) :=
  ⟨by decide, by decide, by decide, by decide⟩

/-- A re-evaluation with no active booking: a grace goes on, or the state is IDLE. -/
theorem witness_TimeAndScheduleEnable_none :
    (Reevaluable (graceAt 6480) none ∧ Outside (graceAt 6480) none 2 ∧ (graceAt 6480).timetable.state = .grace ∧
      (graceAt 6480).timetable.grace ≠ some 0 ∧ ¬ Leads b412 6480) ∧
    (Reevaluable (scheduled friday 6480 onA) none ∧ Outside (scheduled friday 6480 onA) none 2 ∧
      (scheduled friday 6480 onA).timetable.state ≠ .grace) := by decide

theorem witness_TimeAndScheduleEnable :
    let b : Booking := ⟨⟨412, 6600, 6780, 20, 0x11, some 2, 3, .eco, true⟩, 0, false⟩
    let s := scheduled friday 6600 onA
    let off : State := { s with timetable := { s.timetable with enable := false, state := .disabled } }
    (base.Ready .facility ∧ base.BlankLegal ∧ base.timetable.state = .disabled ∧ base.timetable.active = none) ∧
    ((scheduled [] 0 base).timetable.state = .idle ∧ (scheduled [] 0 base).timetable.table = [] ∧
      (scheduled [] 0 base).power.demand.schedule = false) ∧
    (s.Ready .facility ∧ s.BlankLegal ∧ s.timetable.state ≠ .disabled ∧ s.timetable.active = none ∧ tableLegal s.timetable.table ∧
      s.timetable.table[2]? = some b ∧ b.config.start ≤ min 10079 (readU16 0x7B 0x1A) ∧ min 10079 (readU16 0x7B 0x1A) < b.config.stop) ∧
    1 < (2 : Byte).toNat ∧ (base.timetable.enable = false ∧ base.clock.valid = false) ∧
    (off.Ready .facility ∧ off.BlankLegal ∧ off.timetable.enable = false ∧ off.clock.valid = true ∧ off.timetable.active = none ∧
      tableLegal off.timetable.table ∧ off.timetable.table[2]? = some b ∧ b.config.start ≤ off.clock.minute ∧
      off.clock.minute < b.config.stop ∧ Reevaluable off none) ∧
    (s.timetable.enable = true ∧ s.power.demand.schedule = false) ∧
    ((inBooking 412 2 3 s).BlankLegal ∧ (inBooking 412 2 3 s).timetable.enable = true ∧ (inBooking 412 2 3 s).activeBooking = some b) :=
  ⟨by decide, by decide, by decide, by decide, by decide, by decide, by decide, by decide⟩

theorem witness_StagingAndCommitChecks :
    let x : RawBooking := ⟨5, 100, 200, 0, 0, 0xFF, 0, 0, 0⟩
    let y : RawBooking := ⟨6, 200, 300, 0, 0, 0xFF, 0, 0, 0⟩
    let c : BookingConfig := ⟨5, 100, 200, 0, 0, none, 0, .default, false⟩
    let d : BookingConfig := ⟨6, 200, 300, 0, 0, none, 0, .default, false⟩
    base.Ready .facility ∧ base.staging.isOpen = false ∧
    ({ base with staging := ⟨true, List.replicate 48 x⟩ } : State).staging.isOpen = true ∧
    48 ≤ (List.replicate 48 x).length ∧ (List.replicate 47 x).length < 48 ∧
    ([x, { x with id := 0 }][1]? = some { x with id := 0 } ∧ ({ x with id := 0 } : RawBooking).check = .error 1 ∧
      [x, { x with id := 0 }][0]? = some x ∧ x.check = .ok c) ∧
    ([x, x][0]? = some x ∧ [x, x][1]? = some x ∧ x.id = x.id ∧ (([x, x].take 1).map RawBooking.id).Nodup) ∧
    (x.check = .ok c ∧ y.check = .ok d ∧ [x, y].length = [c, d].length ∧ ([x, y].map RawBooking.id).Nodup ∧
      [c, d].Pairwise (fun c d => c.stop ≤ d.start ∨ d.stop ≤ c.start)) ∧
    (({ y with start := 199 } : RawBooking).check = .ok { d with start := 199 } ∧
      ¬ [c, { d with start := 199 }].Pairwise (fun c d => c.stop ≤ d.start ∨ d.stop ≤ c.start)) := by decide

theorem witness_CommitInsertAndDelete :
    let s := scheduled friday 0 base
    let x (start stop : Byte) : List Byte := [7, 0, start, 0x18, stop, 0x18, 0, 0, 0xFF, 0, 0, 0, 0, 0]
    let c : BookingConfig := ⟨7, 6350, 6360, 0, 0, none, 0, .default, false⟩
    (s.Ready .facility ∧ ({ s with staging := ⟨true, upload 6480⟩ } : State).staging.isOpen = true ∧
      checkStaged (upload 6480) = .error ⟨.conflict, 17, 0, some 2⟩ ∧ checkStaged [] = .ok []) ∧
    base.timetable.state = .disabled ∧
    ((∃ r, readBooking (x 0xCE 0xCE) = some r ∧ r.check = .error 3) ∧ ∃ r, readBooking (x 0xCE 0xD8) = some r ∧ r.check = .ok c) ∧
    (s.timetable.table.length < 48 ∧ 410 ∈ friday.map BookingConfig.id ∧ c.id ∉ friday.map BookingConfig.id ∧
      (∃ b ∈ s.timetable.table, 6349 < b.config.stop + b.extension ∧ b.config.start < c.stop)) ∧
    (s.timetable.table = s.timetable.table.take 1 ++ s.timetable.table.drop 1 ∧
      (∀ b ∈ s.timetable.table.take 1, b.config.start < c.start) ∧ (∀ b ∈ s.timetable.table.drop 1, c.start < b.config.start) ∧
      (∀ b ∈ s.timetable.table, ¬ (c.start < b.config.stop + b.extension ∧ b.config.start < c.stop))) ∧
    48 ≤ ({ base with timetable.table := List.replicate 48 ⟨c, 0, false⟩ } : State).timetable.table.length :=
  ⟨by decide, by decide, ⟨⟨_, rfl, by decide⟩, ⟨_, rfl, by decide⟩⟩, by decide, by decide, by decide⟩

/-- The re-evaluations that a change of the table runs: inside 411, with its class moved to 0x30, to no match and to none. -/
theorem witness_CommitInsertAndDelete_reevaluation :
    let moved (c : Byte) : Booking := ⟨⟨411, 6360, 6460, 10, c, some 2, 2, .full, true⟩, 0, false⟩
    let amended (c : Byte) : State := { in411 with timetable.table := [moved c] }
    (in411.Ready .facility ∧ in411.timetable.state = .active ∧ in411.activeBooking = some b411) ∧
    (Reevaluable (amended 0x30) (some b411) ∧ ((amended 0x30).countedTable (some b411))[0]? = some (moved 0x30) ∧
      Inside (amended 0x30) (moved 0x30) ∧ (moved 0x30).config.sourceClass ≠ b411.config.sourceClass ∧
      (moved 0x30).config.sourceClass ≠ 0 ∧ ((amended 0x30).resolve 0x30).row = some 4) ∧
    (Reevaluable (amended 0x13) (some b411) ∧ ((amended 0x13).countedTable (some b411))[0]? = some (moved 0x13) ∧
      ((amended 0x13).resolve 0x13).row = none) ∧
    (Reevaluable (amended 0) (some b411) ∧ (moved 0).config.sourceClass = 0) ∧
    (Reevaluable { in411 with timetable.table := [] } (some b411) ∧ Outside { in411 with timetable.table := [] } (some b411) 0) ∧
    ((moved 0x30).config.mode = .full ∧ ((hall onA).resolve 0x30).row = some 4 ∧
      Reevaluable (scheduled [(moved 0x30).config] 6400 (hall onA)) none ∧
      Inside (scheduled [(moved 0x30).config] 6400 (hall onA)) (moved 0x30)) :=
  ⟨by decide, by decide, by decide, by decide, by decide, by decide⟩

theorem witness_ServiceReset : onA.Ready .facility ∧ onA.timetable.enable = false ∧ (scheduled [] 0 base).timetable.enable = true ∧
    ({ scheduled [] 0 base with clock.valid := false } : State).clock.valid = false ∧
    (in411.Ready .facility ∧ in411.timetable.enable = true ∧ in411.clock.valid = true ∧
      savedTableLegal (in411.timetable.table.map (fun b => b.config)) ∧
      Reevaluable (scheduled friday 6380 base) none ∧
      ((scheduled friday 6380 base).countedTable none)[1]? = in411.activeBooking ∧
      Outside (scheduled friday 6480 base) none 2) := by decide

theorem witness_FactoryReset :
    let waiting : State := { held .standby .dark .dark newAccount with lamps.thermalHold := true }
    (onA.Ready .facility ∧ onA.power.state ≠ .standby) ∧
    (standby.Ready .facility ∧ standby.power.state = .standby ∧ standby.power.degraded = false ∧
      standby.lamps.thermalHold = false) ∧
    (waiting.Ready .facility ∧ waiting.power.state = .standby ∧ waiting.power.degraded = false ∧ waiting.lamps.thermalHold = true ∧
      (held .standby .dark .dark newAccount).Waits) ∧
    Lets (held .standby .dark .dark newAccount) :=
  ⟨by decide, by decide, by decide, by decide, eachLamp (by decide) (by decide), eachLamp (by decide) (by decide)⟩

theorem witness_PowerUpAndLossOfPower :
    (onA.powered = true ∧ onA.store.scheduleEnable.getD false = false ∧ onA.Ready .facility ∧ ([] : List Byte).length ≤ 64 ∧ [(4 : Byte)].length ≤ 64) ∧
    (let s : State := { scheduled [] 6380 onA with store.scheduleEnable := some true, store.liveTable := some friday }
     s.store.scheduleEnable.getD false = true ∧ s.clock.valid = true ∧ savedTableLegal (s.store.liveTable.getD []) ∧
      Reevaluable (scheduled friday 6380 base) none) ∧
    ({ onA with powered := false } : State).powered = false ∧
    (∀ g, Instr.indexPulse ≠ .powerOnReset g) ∧ (∀ m, Instr.indexPulse ≠ .litRise m ∧ Instr.indexPulse ≠ .litFall m) ∧
    (∀ x y, Instr.indexPulse ≠ .encoderStep x y) ∧ (∀ f, Instr.indexPulse ≠ .minuteTick f) :=
  ⟨by decide, by decide, by decide, nofun, fun _ => ⟨nofun, nofun⟩, nofun, nofun⟩

/-- A state with a command waiting. -/
def waiting (c : Instr) (s : State) : State := { s with pending := [c] }

theorem witness_QueuesStayLegal : (waiting (.thermalTrip .engine []) base).QueuesLegal ∧
    Sys2Proof.Machine.step (waiting (.thermalTrip .engine []) base) = .next (after (.thermalTrip .engine []) base) := ⟨by decide, rfl⟩

/-- The trip's notice waits at the panel for the admission that is to come. -/
theorem witness_QueuesStayLegal_handed :
    let s : State := { base with pending := [.noticeAdmission .panel .thermalTrip 0] }
    s.HandedLegal ∧ (after (.thermalTrip .engine []) s).handed.panel = [⟨.thermalTrip, 0, 0⟩] :=
  ⟨⟨fun p => by cases p <;> intro _ _ <;> exact Nat.zero_le _, nofun⟩, by decide⟩

theorem witness_AccountsStayInRange : (waiting (.minuteTick .accounts) onA).AccountsLegal ∧
    Sys2Proof.Machine.step (waiting (.minuteTick .accounts) onA) = .next (after (.minuteTick .accounts) onA) :=
  ⟨⟨by decide, by decide, nofun⟩, rfl⟩

theorem witness_LockoutStaysCurrent : (waiting (.setManualLockout .facility [3]) base).lockout.Current ∧
    Sys2Proof.Machine.step (waiting (.setManualLockout .facility [3]) base) = .next (after (.setManualLockout .facility [3]) base) :=
  ⟨by decide, rfl⟩

theorem witness_GeometryStaysCurrent :
    ((waiting .indexPulse base).tilt.Current ∧ (waiting .indexPulse base).tilt.record.Legal ∧ (waiting .indexPulse base).TiltLegal) ∧
    Sys2Proof.Machine.step (waiting .indexPulse base) = .next (after .indexPulse base) :=
  ⟨⟨by decide, by decide, ⟨by decide, by decide, by decide, nofun⟩⟩, rfl⟩

theorem witness_LifeStatesStayCurrent : (waiting (.litFall .a) onA).LifeCurrent ∧
    Sys2Proof.Machine.step (waiting (.litFall .a) onA) = .next (after (.litFall .a) onA) := ⟨by decide, rfl⟩

theorem witness_SelectionStaysLegal :
    ((waiting (.selectInput .panel [3]) (hall base)).SelectionLegal ∧ (waiting (.selectInput .panel [3]) (hall base)).WindowLegal) ∧
    Sys2Proof.Machine.step (waiting (.selectInput .panel [3]) (hall base)) = .next (after (.selectInput .panel [3]) (hall base)) :=
  ⟨⟨by show ∀ n ∈ allRows, ((hall base).row n).status = .idle; decide, by decide⟩, rfl⟩

theorem witness_StandbyAndBlankTimerStayLegal :
    ((waiting (.powerOn .panel []) standby).StandbyLegal ∧ (waiting (.powerOn .panel []) standby).BlankLegal) ∧
    Sys2Proof.Machine.step (waiting (.powerOn .panel []) standby) = .next (after (.powerOn .panel []) standby) := ⟨by decide, rfl⟩

theorem witness_ScheduleStaysLegal :
    let s := scheduled friday 6224 onA
    ((waiting (.minuteTick .accounts) s).clock.Legal ∧ (waiting (.minuteTick .accounts) s).TimetableLegal ∧
      (waiting (.minuteTick .accounts) s).ClaimLegal) ∧
    Sys2Proof.Machine.step (waiting (.minuteTick .accounts) s) = .next (after (.minuteTick .accounts) s) :=
  ⟨⟨by decide, ⟨by decide, nofun, by decide, by decide, nofun, by decide⟩, by decide⟩, rfl⟩

theorem witness_CountersNeverFall :
    onA.AccountsLegal ∧ (Instr.litFall .a).wf = true ∧ exec (.litFall .a) onA = .next (after (.litFall .a) onA) ∧
    onA.ports.facility.receive = .hunt ∧
    (let at_ (x : ReceiveState) : State := { onA with ports.facility := ⟨x, [0, 0x65], some 20, []⟩ }
     (at_ .replying).ports.facility.receive = .replying ∧ (at_ .check).ports.facility.receive = .check ∧
      (∀ code d, (Instr.litFall .a).frame? ≠ some (.facility, code, d)) ∧ ∀ b, Instr.litFall .a ≠ .portByteReceived .facility b) ∧
    (∀ g, Instr.litFall .a ≠ .powerOnReset g ∧ Instr.litFall .a ≠ .hardwareReset g) ∧
    (∀ cut done, Instr.litFall .a ≠ .lossOfPower cut done) ∧ Instr.litFall .a ≠ .lampReplaced .facility [lampByte .a] :=
  ⟨⟨by decide, by decide, nofun⟩, by decide, rfl, by decide, ⟨by decide, by decide, nofun, nofun⟩, fun _ => ⟨nofun, nofun⟩, nofun, nofun⟩

end Sys2Proof.Tests
end

section
/-! PROOFS. What the PDU and the timetable do to the lamps and their accounts goes through the orders of the PDU to the LCU. -/

namespace Sys2Proof.Machine

/-! ### Work in progress -/

@[simp] theorem Work.edit_s (w : Work) (f : State → State) : (w.edit f).s = f w.s := rfl
@[simp] theorem Work.edit_out (w : Work) (f : State → State) : (w.edit f).out = w.out := rfl
@[simp] theorem Work.hand_s (w : Work) (x : Handoff) : (w.hand x).s = w.s := rfl
@[simp] theorem Work.hand_out (w : Work) (x : Handoff) : (w.hand x).out = w.out ++ [x] := rfl

/-- R52: the hand-offs that change the demand set. -/
def Handoff.claims : Handoff → Bool
  | .addClaim _ => true
  | .removeClaim _ => true
  | .convert => true
  | .changed _ _ => false
  | .abandoned _ => false
  | .declined _ => false
  | .declinedDark _ => false
  | .fanOver _ => false
  | .lifeChanged _ => false
  | .tripped => false
  | .holdCleared => false
  | .recheck => false
  | .opening _ => false

/-- A property of a step's work that each single act of the PDU keeps. -/
structure KeptByPdu (Q : Work → Prop) : Prop where
  power : ∀ {w : Work} {x : Power}, x.demand = w.s.power.demand → Q w → Q ⟨{ w.s with power := x }, w.out⟩
  post : ∀ {w : Work} (topic : Topic) (value : Nat), Q w → Q ⟨w.s.post topic value, w.out⟩
  hand : ∀ {w : Work} {x : Handoff}, x.claims = false → Q w → Q (w.hand x)
  trims : ∀ {w : Work}, Q w → Q ⟨w.s.clearTrims, w.out⟩
  zeroed : ∀ {w : Work}, Q w → Q ⟨w.s.zeroSessionDropouts, w.out⟩
  strike : ∀ (l : Lamp) {w : Work}, Q w → Q (w.strike l)
  stop : ∀ (l : Lamp) {w : Work}, Q w → Q (w.stop l)
  opening : ∀ (l : Lamp) {w : Work}, Q w → Q (w.lightAtOpening l)

namespace KeptByPdu

variable {Q : Work → Prop} (h : KeptByPdu Q)
include h

/-! ### Sessions -/

theorem strikeSession {w : Work} (hw : Q w) : Q w.strikeSession := forLamps_keeps Q _ _ _ (fun l _ => h.strike l) hw

theorem setHeld {w : Work} (hw : Q w) : Q w.setHeld := by
  unfold Work.setHeld
  split
  · exact hw
  · exact h.post _ _ (h.power (x := { w.s.power with held := true }) rfl hw)

theorem leaveStandby {w : Work} (hw : Q w) : Q w.leaveStandby := by
  have chosen := h.power (x := { w.s.power with
    latched := some w.s.power.settings.policy, level := w.s.startLevel
    session := w.s.chooseSession w.s.power.settings.policy }) rfl hw
  exact h.power rfl (h.strikeSession chosen)

theorem chooseCooling {w : Work} (hw : Q w) : Q w.chooseCooling := by
  have latched := h.power (x := { w.s.power with latched := some (w.s.power.latched.getD w.s.power.settings.policy) }) rfl hw
  unfold Work.chooseCooling
  simp only
  split
  · exact h.setHeld latched
  · exact h.strikeSession (h.power rfl latched)

theorem unhold {w : Work} (hw : Q w) : Q (w.edit fun s => { s with power.held := false }) := h.power rfl hw

theorem recheck {w : Work} (hw : Q w) : Q w.recheck := by
  unfold Work.recheck
  split
  · repeat' split
    exacts [h.unhold hw, h.leaveStandby hw, h.setHeld hw]
  · repeat' split
    exacts [h.unhold hw, hw, h.strikeSession (h.unhold hw), h.chooseCooling hw, hw, h.chooseCooling hw, hw]
  · exact hw
  · exact hw

theorem recheckIdle {w : Work} (hw : Q w) : Q w.recheckIdle := by
  unfold Work.recheckIdle
  split
  exacts [h.recheck hw, hw]

/-! ### STANDBY, loss and stop -/

theorem setBlank {w : Work} (on : Bool) (hw : Q w) : Q ⟨w.s.setBlank on, w.out⟩ := by
  unfold State.setBlank
  split
  · exact hw
  · exact h.post _ _ (h.power (x := { w.s.power with blank := on }) rfl hw)

theorem enterStandby {w : Work} (hw : Q w) : Q w.enterStandby := by
  have left := h.power (x := { w.s.power with state := .standby, session := ⟨false, false⟩, latched := none, degraded := false }) rfl hw
  have entered := h.trims (h.zeroed (h.setBlank false left))
  unfold Work.enterStandby
  simp only
  split
  · exact entered
  · exact h.hand rfl (h.setHeld entered)

theorem standbyTest {w : Work} (hw : Q w) : Q w.standbyTest := by
  unfold Work.standbyTest
  split
  exacts [h.enterStandby hw, hw]

theorem join {w : Work} (l : Lamp) (hw : Q w) : Q (w.join l) := by
  unfold Work.join
  split
  · exact h.strike _ (h.power rfl hw)
  · exact hw

theorem failover {w : Work} (l : Lamp) (hw : Q w) : Q (w.failover l) := by
  unfold Work.failover
  split
  exacts [hw, h.join _ hw, h.join _ hw, h.join _ hw]

theorem loseLamp {w : Work} (l : Lamp) (hw : Q w) : Q (w.loseLamp l) := by
  have left : Q (w.edit fun s => { s with power.session := s.power.session.set l false }) := h.power rfl hw
  have followed (v : Work) (hv : Q v) : Q (if v.s.sessionEmpty then
      let w := v.setHeld
      if w.s.power.state = .warming then w.edit fun s => { s with power.state := .coolingDown } else w
    else v) := by
    split
    · simp only
      split
      · exact h.power rfl (h.setHeld hv)
      · exact h.setHeld hv
    · exact hv
  unfold Work.loseLamp
  split
  · refine followed _ ?_
    split
    exacts [left, h.failover l left]
  · exact hw

theorem stopSession {w : Work} (hw : Q w) : Q w.stopSession :=
  h.standbyTest (h.power rfl (forLamps_keeps Q w.s.power.session _ _ (fun l _ => h.stop l) hw))

/-! ### Following the lamps -/

theorem setPowerState {w : Work} (x : PowerState) (hw : Q w) : Q (w.edit fun s => s.setPowerState x) := h.power rfl hw

theorem followLamp {w : Work} (l : Lamp) (began : Bool) (hw : Q w) : Q (w.followLamp l began) := by
  unfold Work.followLamp
  split
  · exact h.recheck hw
  · split
    exacts [h.setPowerState _ hw, hw]
  · repeat' split
    all_goals exact h.setPowerState _ hw
  · repeat' split
    exacts [h.setPowerState _ hw, h.enterStandby hw, h.recheck hw, hw]

theorem loseAndFollow {w : Work} (l : Lamp) (hw : Q w) : Q (w.loseAndFollow l) := by
  unfold Work.loseAndFollow
  simp only
  split
  exacts [h.standbyTest (h.loseLamp l hw), h.followLamp l _ (h.loseLamp l hw)]

theorem takeTrip {w : Work} (hw : Q w) : Q w.takeTrip := by
  have held : Q (if w.s.power.demand.isEmpty then w else w.setHeld) := by
    split
    exacts [hw, h.setHeld hw]
  unfold Work.takeTrip
  generalize (if w.s.power.demand.isEmpty then w else w.setHeld) = v at held
  simp only
  split
  exacts [h.setPowerState _ held, held]

/-- R52: what the passage of the demand set between empty and non-empty does keeps what the new set keeps. -/
theorem changeDemand {w : Work} {d : Demand} (changed : Q (w.edit fun s => { s with power.demand := d })) : Q (w.changeDemand d) := by
  unfold Work.changeDemand
  simp only
  repeat' split
  exacts [h.recheck changed, h.recheck changed, h.stopSession changed, changed]

theorem takeBare {x : Handoff} (hx : x.claims = false) {w : Work} (hw : Q w) : Q (w.takeBare x) := by
  cases x with
  | changed l c =>
    cases c with
    | failed => exact h.loseAndFollow l hw
    | striking => exact h.followLamp l true hw
    | dark => exact h.followLamp l false hw
    | lit => exact h.followLamp l false hw
    | cooling => exact h.followLamp l false hw
  | abandoned l => exact h.loseAndFollow l hw
  | declined l => exact h.loseLamp l hw
  | declinedDark l => exact h.loseAndFollow l hw
  | fanOver l =>
    simp only [Work.takeBare]
    split
    exacts [h.enterStandby hw, h.recheckIdle hw]
  | lifeChanged l => exact h.recheckIdle hw
  | tripped => exact h.takeTrip hw
  | holdCleared => exact h.recheckIdle hw
  | recheck => exact h.recheckIdle hw
  | addClaim c => cases hx
  | removeClaim c => cases hx
  | convert => cases hx
  | opening l => exact h.opening l hw

theorem follow {w : Work} (before : Nat) (hw : Q w) : Q (w.edit fun s => (s.reportPower before).followBlankTimer) := by
  have reported : Q ⟨w.s.reportPower before, w.out⟩ := by
    unfold State.reportPower
    split
    exacts [hw, h.post _ _ hw]
  have followed (v : Work) (hv : Q v) : Q ⟨v.s.followBlankTimer, v.out⟩ := by
    unfold State.followBlankTimer
    repeat' split
    exacts [hv, h.power (x := { v.s.power with blankTimer := some (60 * v.s.power.settings.blankTimeout) }) rfl hv,
      h.power (x := { v.s.power with blankTimer := none, blankSpent := false }) rfl hv]
  exact followed _ reported

end KeptByPdu

/-- A property of the state that rests on the LAU, its save and the LCU alone, and that the orders of the PDU to the LCU keep. -/
structure KeptByOrders (P : State → Prop) : Prop where
  frame : ∀ {s t : State}, t.accounts = s.accounts → t.store.accounts = s.store.accounts → t.lamps = s.lamps → P s → P t
  strike : ∀ (l : Lamp) (w : Work), P w.s → P (w.strike l).s
  stop : ∀ (l : Lamp) (w : Work), P w.s → P (w.stop l).s
  opening : ∀ (l : Lamp) (w : Work), P w.s → P (w.lightAtOpening l).s
  zeroed : ∀ s : State, P s → P s.zeroSessionDropouts

namespace KeptByOrders

variable {P : State → Prop} (h : KeptByOrders P)
include h

/-- The PDU keeps what its orders keep. -/
theorem pdu : KeptByPdu fun w => P w.s where
  power {w _} _ hw := h.frame (s := w.s) rfl rfl rfl hw
  post {w} _ _ hw := h.frame (s := w.s) rfl rfl rfl hw
  hand _ hw := hw
  trims hw := h.frame (by simp) (by simp) (by simp) hw
  zeroed hw := h.zeroed _ hw
  strike l _ hw := h.strike l _ hw
  stop l _ hw := h.stop l _ hw
  opening l _ hw := h.opening l _ hw

theorem changeDemand {w : Work} (d : Demand) (hw : P w.s) : P (w.changeDemand d).s :=
  h.pdu.changeDemand (h.frame (s := w.s) rfl rfl rfl hw)

theorem convertClaim {w : Work} (hw : P w.s) : P w.convertClaim.s := by
  unfold Work.convertClaim
  simp only
  repeat' split
  exacts [hw, h.changeDemand _ hw, h.changeDemand _ hw]

theorem takeBare (x : Handoff) {w : Work} (hw : P w.s) : P (w.takeBare x).s := by
  by_cases hx : x.claims = false
  · exact h.pdu.takeBare hx hw
  · cases x with
    | addClaim c => exact h.changeDemand _ hw
    | removeClaim c => exact h.changeDemand _ hw
    | convert => exact h.convertClaim hw
    | _ => exact absurd rfl hx

theorem take (x : Handoff) (w : Work) (hw : P w.s) : P (w.take x).s := h.pdu.follow _ (h.takeBare x hw)

theorem run (n : Nat) {w : Work} (hw : P w.s) : P (Work.run n w) := Work.run_keeps P h.take n w hw

theorem settle {f : Work → Work} {s : State} (hf : P (f ⟨s, []⟩).s) : P (s.settle f) := h.run _ hf

theorem handPower (x : Handoff) {s : State} (hs : P s) : P (s.handPower x) := h.settle (f := fun w => w.hand x) hs

end KeptByOrders

end Sys2Proof.Machine
end

section
/-! PROOFS. What leaves the lamps and their accounts alone, and what the timetable does to them. -/

namespace Sys2Proof.Machine

/-! ### What a selection and an acquisition may write (R89, R95) -/

/-- A property of the state that each write of a running acquisition keeps. -/
structure KeptByAcquisition (P : State → Prop) : Prop where
  acq : ∀ {s : State} (x : Acquisition), x.selected = s.acq.selected → P s → P { s with acq := x }
  status : ∀ {s : State} (n : Fin 10) (x : AcqStatus), P s → P (s.setStatus n x)
  post : ∀ {s : State} (topic : Topic) (value : Nat), P s → P (s.post topic value)

namespace KeptByAcquisition

variable {P : State → Prop} (h : KeptByAcquisition P)
include h

theorem strobe {s : State} (hs : P s) : P s.strobe := h.acq _ rfl hs

theorem beginAcquisition {s : State} (n : Fin 10) (hs : P s) : P (s.beginAcquisition n) := by
  unfold State.beginAcquisition
  split
  exacts [h.acq (s := s.setStatus n .acquiring) _ rfl (h.status n _ hs), h.acq (s := s.setStatus n .locked) _ rfl (h.status n _ hs)]

theorem restartRow {s : State} (n : Fin 10) (m : SelectMethod) (hs : P s) : P (s.restartRow n m) := by
  have begun : P (s.strobe.beginAcquisition n) := h.beginAcquisition n (h.strobe hs)
  unfold State.restartRow
  simp only
  repeat' split
  exacts [begun, h.post _ _ begun, h.post _ _ begun, h.post _ _ (h.post _ _ begun)]

theorem leaveRow {s : State} (hs : P s) : P s.leaveRow := by
  unfold State.leaveRow
  split
  · exact hs
  · next old _ => exact h.acq (s := s.setStatus old .idle) _ rfl (h.status old _ hs)

end KeptByAcquisition

/-- And each write of a selection. -/
structure KeptBySelection (P : State → Prop) : Prop extends KeptByAcquisition P where
  selected : ∀ {s : State} (x : Acquisition), P s → P { s with acq := x }
  presets : ∀ {s : State} (booking row : Option (Fin 8)) (clear : Bool), P s → P (s.handPresets booking row clear)

namespace KeptBySelection

variable {P : State → Prop} (h : KeptBySelection P)
include h

theorem selectNew {s : State} (n : Fin 10) (m : SelectMethod) (hs : P s) : P (s.selectNew n m) := by
  have left := h.leaveRow (h.strobe (h.selected { s.acq with selLines := n } hs))
  exact h.beginAcquisition n (h.post _ _ (h.presets _ _ _ (h.selected _ left)))

theorem selectAgain {s : State} (n : Fin 10) (m : SelectMethod) (hs : P s) : P (s.selectAgain n m) := by
  have chosen := h.selected { s.acq with selected := some ⟨n, m⟩ } hs
  unfold State.selectAgain
  simp only
  split
  exacts [h.restartRow n m chosen, chosen]

theorem selectRow {s : State} (n : Fin 10) (m : SelectMethod) (hs : P s) : P (s.selectRow n m) := by
  unfold State.selectRow
  split
  exacts [h.selectAgain n m hs, h.selectNew n m hs]

theorem clearSelection {s : State} (cause : Nat) (hs : P s) : P (s.clearSelection cause) :=
  h.presets _ _ _ (h.post _ _ (h.selected _ (h.leaveRow hs)))

theorem selectForBooking {s : State} (c : Byte) (hs : P s) : P (s.selectForBooking c).1 := by
  unfold State.selectForBooking
  split
  exacts [hs, h.selectRow _ _ hs]

end KeptBySelection

/-- `t` has the LAU, the save of the LAU and the LCU of `s`. -/
structure State.SameLamps (s t : State) : Prop where
  accounts : t.accounts = s.accounts
  saved : t.store.accounts = s.store.accounts
  lamps : t.lamps = s.lamps

theorem KeptByOrders.same {P : State → Prop} (h : KeptByOrders P) {s t : State} (st : s.SameLamps t) (hs : P s) : P t :=
  h.frame st.accounts st.saved st.lamps hs

namespace State.SameLamps

theorem refl (s : State) : s.SameLamps s := ⟨rfl, rfl, rfl⟩

theorem trans {s t u : State} (st : s.SameLamps t) (tu : t.SameLamps u) : s.SameLamps u :=
  ⟨tu.accounts.trans st.accounts, tu.saved.trans st.saved, tu.lamps.trans st.lamps⟩

/-! ### Shared operations -/

theorem post (s : State) (topic : Topic) (v : Nat) : s.SameLamps (s.post topic v) := ⟨rfl, rfl, rfl⟩
theorem strobe (s : State) : s.SameLamps s.strobe := ⟨rfl, rfl, rfl⟩
theorem setStatus (s : State) (n : Fin 10) (x : AcqStatus) : s.SameLamps (s.setStatus n x) := ⟨rfl, rfl, rfl⟩
theorem setPresent (s : State) (n : Fin 10) (x : Bool) : s.SameLamps (s.setPresent n x) := ⟨rfl, rfl, rfl⟩
theorem editTimetable (s : State) (f : Timetable → Timetable) : s.SameLamps (s.editTimetable f) := ⟨rfl, rfl, rfl⟩
theorem setLevel (s : State) (x : PowerLevel) : s.SameLamps (s.setLevel x) := ⟨rfl, rfl, rfl⟩
theorem setPort (s : State) (p : Port) (x : PortUnit) : s.SameLamps (s.setPort p x) := ⟨rfl, rfl, rfl⟩
theorem setBlank (s : State) (on : Bool) : s.SameLamps (s.setBlank on) := ⟨by simp, by simp, by simp⟩
theorem followBlankTimer (s : State) : s.SameLamps s.followBlankTimer := ⟨by simp, by simp, by simp⟩
theorem setLockout (s : State) (x : Lockout) : s.SameLamps (s.setLockout x) := ⟨by simp, by simp, by simp⟩
theorem recomputeGeometry (s : State) : s.SameLamps s.recomputeGeometry := ⟨by simp, by simp, by simp⟩
theorem handPresets (s : State) (b r : Option (Fin 8)) (clear : Bool) : s.SameLamps (s.handPresets b r clear) :=
  ⟨by simp, by simp, by simp⟩
theorem clearTrims (s : State) : s.SameLamps s.clearTrims := ⟨by simp, by simp, by simp⟩

/-! ### Selection and acquisition -/

theorem kept_by_selection (s : State) : KeptBySelection fun t => s.SameLamps t where
  acq _ _ st := st.trans ⟨rfl, rfl, rfl⟩
  status _ _ st := st.trans (setStatus _ _ _)
  post _ _ st := st.trans (post _ _ _)
  selected _ st := st.trans ⟨rfl, rfl, rfl⟩
  presets _ _ _ st := st.trans (handPresets _ _ _ _)

theorem restartRow (s : State) (n : Fin 10) (m : SelectMethod) : s.SameLamps (s.restartRow n m) :=
  (kept_by_selection s).toKeptByAcquisition.restartRow n m (refl s)
theorem selectRow (s : State) (n : Fin 10) (m : SelectMethod) : s.SameLamps (s.selectRow n m) :=
  (kept_by_selection s).selectRow n m (refl s)
theorem clearSelection (s : State) (cause : Nat) : s.SameLamps (s.clearSelection cause) :=
  (kept_by_selection s).clearSelection cause (refl s)
theorem selectForBooking (s : State) (c : Byte) : s.SameLamps (s.selectForBooking c).1 :=
  (kept_by_selection s).selectForBooking c (refl s)

/-! ### Bookings -/

theorem applyBooking (s : State) (b : Booking) : s.SameLamps (s.applyBooking b) := by
  have selected : s.SameLamps (if b.config.sourceClass = 0 then (s, false) else s.selectForBooking b.config.sourceClass).1 := by
    split
    exacts [refl s, selectForBooking s _]
  unfold State.applyBooking
  generalize (if b.config.sourceClass = 0 then (s, false) else s.selectForBooking b.config.sourceClass) = r at selected
  have claimed (t : State) (st : s.SameLamps t) :
      s.SameLamps ((t.handBookingPreset b.config.preset).handBookingClaim b.config.lockout b.config.sourceClass) :=
    (st.trans (handPresets _ _ _ _)).trans (setLockout _ _)
  have levelled (t : State) (st : s.SameLamps t) :
      s.SameLamps (match b.config.mode.level with | none => t | some x => t.setLevel x) := by
    split
    exacts [st, st.trans (setLevel _ _)]
  have told := ((levelled _ (claimed _ selected)).trans (followBlankTimer _)).trans (post _ (.booking b.config.id) 2)
  simp only
  split
  exacts [told.trans (post _ _ _), told]

theorem endBooking (s : State) (b : Booking) : s.SameLamps (s.endBooking b) :=
  ((((editTimetable s _).trans (setLockout _ _)).trans (handPresets _ _ _ _)).trans (followBlankTimer _)).trans (post _ _ _)

theorem tickRollover (s : State) : s.SameLamps s.tickRollover := by
  unfold State.tickRollover
  split
  exacts [editTimetable s _, refl s]

theorem reapply (s : State) (was now : BookingConfig) : s.SameLamps (s.reapply was now) := by
  have selected : s.SameLamps (if now.sourceClass ≠ was.sourceClass ∧ now.sourceClass ≠ 0 then s.selectForBooking now.sourceClass
      else (s, false)).1 := by
    split
    exacts [selectForBooking s _, refl s]
  unfold State.reapply
  generalize (if now.sourceClass ≠ was.sourceClass ∧ now.sourceClass ≠ 0 then s.selectForBooking now.sourceClass
      else (s, false)) = r at selected
  have told : s.SameLamps (if r.2 = true then r.1.post (.booking now.id) 4 else r.1) := by
    split
    exacts [selected.trans (post _ _ _), selected]
  have claimed (t : State) (st : s.SameLamps t) : s.SameLamps (if now.lockout ≠ was.lockout ∨ now.sourceClass ≠ was.sourceClass then
      t.handBookingClaim now.lockout now.sourceClass else t) := by
    split
    exacts [st.trans (setLockout _ _), st]
  simp only
  split
  exacts [(claimed _ told).trans (handPresets _ _ _ _), claimed _ told]

end State.SameLamps

/-! ### The timetable -/

namespace KeptByOrders

variable {P : State → Prop} (h : KeptByOrders P)
include h

theorem startBooking {s : State} (i : Nat) (b : Booking) (hs : P s) : P (s.startBooking i b) :=
  h.same (State.SameLamps.applyBooking _ b) (h.handPower _ (h.same (State.SameLamps.editTimetable s _) hs))

theorem enterLead {s : State} (b : Booking) (hs : P s) : P (s.enterLead b) :=
  h.same (State.SameLamps.post _ _ _) (h.handPower _ (h.same (State.SameLamps.editTimetable s _) hs))

theorem enterIdle {s : State} (hs : P s) : P s.enterIdle := h.handPower _ (h.same (State.SameLamps.editTimetable s _) hs)

theorem enterGrace {s : State} (hs : P s) : P s.enterGrace := h.same (State.SameLamps.editTimetable s _) hs

theorem leadWindowTest {s : State} (hs : P s) : P s.leadWindowTest := by
  unfold State.leadWindowTest
  split
  exacts [h.enterLead _ hs, h.same (State.SameLamps.editTimetable s _) hs]

theorem graceExpiry {s : State} (hs : P s) : P s.graceExpiry := by
  unfold State.graceExpiry
  split
  exacts [h.enterLead _ hs, h.enterIdle hs]

theorem expireEmptyGrace {s : State} (hs : P s) : P s.expireEmptyGrace := by
  unfold State.expireEmptyGrace
  split
  exacts [h.graceExpiry hs, hs]

theorem convertFor {s : State} (b : Booking) (hs : P s) : P (s.convertFor b) := by
  unfold State.convertFor
  split
  exacts [hs, h.handPower _ hs]

theorem followOn {s : State} (b : Booking) (hs : P s) : P (s.followOn b) := by
  unfold State.followOn
  split
  exacts [h.expireEmptyGrace (h.enterGrace hs), h.leadWindowTest (h.convertFor b hs)]

theorem tickEnd {s : State} (hs : P s) : P s.tickEnd := by
  unfold State.tickEnd
  split
  · split
    exacts [h.followOn _ (h.same (State.SameLamps.endBooking s _) hs), hs]
  · exact hs

theorem leadEvent {s : State} (b : Booking) (hs : P s) : P (s.leadEvent b) := by
  unfold State.leadEvent
  split
  exacts [h.enterLead b hs, h.enterLead b hs, hs, hs, hs, hs]

theorem tickLead {s : State} (hs : P s) : P s.tickLead := by
  unfold State.tickLead
  split
  · split
    exacts [h.leadEvent _ hs, hs]
  · exact hs

theorem tickStart {s : State} (hs : P s) : P s.tickStart := by
  unfold State.tickStart
  split
  · split
    exacts [h.startBooking _ _ hs, hs]
  · exact hs

theorem timetableTick {s : State} (hs : P s) : P s.timetableTick := by
  unfold State.timetableTick
  split
  · exact h.tickStart (h.tickLead (h.same (State.SameLamps.tickRollover _) (h.tickEnd hs)))
  · exact h.same (State.SameLamps.tickRollover s) hs

theorem endForReevaluation {s : State} (p : Booking) (hs : P s) : P (s.endForReevaluation p) := by
  have ended := h.same (State.SameLamps.endBooking s p) hs
  unfold State.endForReevaluation
  simp only
  split
  exacts [h.enterGrace ended, h.convertFor p ended]

theorem decideState {s : State} (ran : Option Nat) (hs : P s) : P (s.decideState ran) := by
  unfold State.decideState
  split
  · unfold State.leadOn
    split
    exacts [h.handPower _ (h.same (State.SameLamps.editTimetable s _) hs), h.enterLead _ hs]
  · split
    exacts [hs, h.enterIdle hs]

theorem reevaluateEmpty {s : State} (before : Before) (hs : P s) : P (s.reevaluateEmpty before) := by
  have ended : P (match before.active with | some p => s.endForReevaluation p | none => s) := by
    split
    exacts [h.endForReevaluation _ hs, hs]
  exact h.expireEmptyGrace (h.decideState _ (h.same (State.SameLamps.editTimetable _ _) ended))

theorem reevaluateWithin {s : State} (before : Before) (i : Nat) (b : Booking) (hs : P s) : P (s.reevaluateWithin before i b) := by
  unfold State.reevaluateWithin
  split
  · split
    · exact h.same (State.SameLamps.reapply _ _ _) (h.same (State.SameLamps.editTimetable s _) hs)
    · exact h.startBooking i b (h.endForReevaluation _ hs)
  · exact h.startBooking i b hs

theorem reevaluate {s : State} (before : Before) (hs : P s) : P (s.reevaluate before) := by
  have counted := h.same (State.SameLamps.editTimetable s fun t => { t with table := carryLive t.table before.active }) hs
  unfold State.reevaluate
  simp only
  repeat' split
  exacts [h.reevaluateWithin before _ _ counted, counted, h.reevaluateEmpty before counted, hs]

theorem dismiss {s : State} (hs : P s) : P s.dismiss := by
  unfold State.dismiss
  repeat' split
  exacts [hs, hs, h.handPower _ (h.same (State.SameLamps.editTimetable s _) hs)]

theorem disableSchedule {s : State} (hs : P s) : P s.disableSchedule := by
  have ended : P (match s.activeBooking with | some b => s.endBooking b | none => s) := by
    split
    exacts [h.same (State.SameLamps.endBooking s _) hs, hs]
  have removed := h.handPower (.removeClaim .schedule) (h.same (State.SameLamps.editTimetable _ fun t => { t with grace := none }) ended)
  unfold State.disableSchedule
  exact h.same (State.SameLamps.editTimetable _ _) removed

theorem enableSchedule {s : State} (hs : P s) : P s.enableSchedule :=
  h.reevaluate _ (h.same (State.SameLamps.editTimetable s _) hs)

theorem setEnable {s : State} (on : Bool) (hs : P s) : P (s.setEnable on) := by
  have enabled : P { s with timetable.enable := on, store.scheduleEnable := some on } :=
    h.same (s := s) ⟨rfl, rfl, rfl⟩ hs
  unfold State.setEnable
  simp only
  repeat' split
  exacts [enabled, h.enableSchedule enabled, h.disableSchedule enabled]

theorem setTable {s : State} (table : List Booking) (hs : P s) : P (s.setTable table) := h.same (s := s) ⟨rfl, rfl, rfl⟩ hs

theorem commit {s : State} (cs : List BookingConfig) (hs : P s) : P (s.commit cs) :=
  h.reevaluate _ (h.same (s := s) ⟨rfl, rfl, rfl⟩ hs)

theorem insertBooking {s : State} (c : BookingConfig) (hs : P s) : P (s.insertBooking c) := h.reevaluate _ (h.setTable _ hs)

theorem deleteBooking {s : State} (id : Nat) (hs : P s) : P (s.deleteBooking id) := h.reevaluate _ (h.setTable _ hs)

end KeptByOrders

end Sys2Proof.Machine
end

section
/-! PROOFS. The requests that leave the lamps and their accounts alone. -/

namespace Sys2Proof.Machine.State.SameLamps

/-- As `trans`, the last change first. -/
theorem after {s t u : State} (tu : t.SameLamps u) (st : s.SameLamps t) : s.SameLamps u := st.trans tu

/-! ### Power, notices and lockout -/

theorem takeNotice (s : State) (p : Port) (d : List Byte) : s.SameLamps (takeNotice p d s).1 := by
  unfold Machine.takeNotice
  simp only
  split <;> exact ⟨rfl, rfl, rfl⟩

theorem setNoticeMask (s : State) (p : Port) (d : List Byte) : s.SameLamps (setNoticeMask p d s).1 := by
  unfold Machine.setNoticeMask
  split <;> exact ⟨rfl, rfl, rfl⟩

theorem setLampPower (s : State) (d : List Byte) : s.SameLamps (setLampPower d s).1 := by
  unfold Machine.setLampPower
  repeat' split
  all_goals exact ⟨rfl, rfl, rfl⟩

theorem setBlankRequest (s : State) (d : List Byte) : s.SameLamps (Machine.setBlank d s).1 := by
  unfold Machine.setBlank
  repeat' split
  exacts [refl s, (setBlank s _).trans (followBlankTimer _), refl s]

theorem setPowerDefaults (s : State) (d : List Byte) : s.SameLamps (setPowerDefaults d s).1 := by
  unfold Machine.setPowerDefaults
  repeat' split
  · exact after (followBlankTimer _) ⟨rfl, rfl, rfl⟩
  · exact refl s
  · exact refl s

theorem setManualLockout (s : State) (d : List Byte) : s.SameLamps (setManualLockout d s).1 := by
  unfold Machine.setManualLockout
  repeat' split
  · exact refl s
  · exact after (setLockout _ _) ⟨rfl, rfl, rfl⟩
  · exact refl s

theorem openServiceWindow (s : State) (d : List Byte) : s.SameLamps (openServiceWindow d s).1 := by
  unfold Machine.openServiceWindow
  split
  exacts [setLockout s _, refl s]

theorem closeServiceWindow (s : State) (d : List Byte) : s.SameLamps (closeServiceWindow d s).1 := setLockout s _

/-! ### Selection and the input table -/

theorem selectInput (s : State) (d : List Byte) : s.SameLamps (selectInput d s).1 := by
  unfold Machine.selectInput
  repeat' split
  exacts [refl s, selectRow s _ _, refl s, refl s]

theorem selectClass (s : State) (d : List Byte) : s.SameLamps (selectClass d s).1 := by
  unfold Machine.selectClass
  simp only
  repeat' split
  exacts [refl s, refl s, selectRow s _ _, refl s]

theorem rewritePreset (s : State) (old new : RowConfig) : s.SameLamps (s.rewritePreset old new) := by
  unfold State.rewritePreset
  split
  exacts [refl s, handPresets s _ _ _]

theorem rewriteKept (s : State) (x : Selection) (old new : RowConfig) : s.SameLamps (s.rewriteKept x old new).1 := by
  unfold State.rewriteKept
  split
  exacts [rewritePreset s old new, (restartRow s _ _).trans (rewritePreset _ old new)]

theorem rewriteSelected (s : State) (x : Selection) (old new : RowConfig) : s.SameLamps (s.rewriteSelected x old new).1 := by
  unfold State.rewriteSelected
  simp only
  repeat' split
  exacts [clearSelection s _, rewriteKept s x old new, rewriteKept s x old new, selectRow s _ _, clearSelection s _]

theorem writeRow (s : State) (n : Fin 10) (new : RowConfig) : s.SameLamps (s.writeRow n new).1 := by
  have written : s.SameLamps (s.editRow n (fun r => { r with config := new })).saveRows := ⟨rfl, rfl, rfl⟩
  unfold State.writeRow
  simp only
  repeat' split
  exacts [written.trans (rewriteSelected _ _ _ _), written, written]

theorem writeInputRow (s : State) (d : List Byte) : s.SameLamps (writeInputRow d s).1 := by
  unfold Machine.writeInputRow
  repeat' split
  exacts [refl s, writeRow s _ _, refl s]

theorem readInputRow (s : State) (d : List Byte) : s.SameLamps (readInputRow d s).1 := by
  unfold Machine.readInputRow
  repeat' split
  all_goals exact refl s

theorem setAcquisitionParameters (s : State) (d : List Byte) : s.SameLamps (setAcquisitionParameters d s).1 := by
  unfold Machine.setAcquisitionParameters
  split <;> exact ⟨rfl, rfl, rfl⟩

theorem windowExpiry (s : State) : s.SameLamps s.windowExpiry := by
  unfold State.windowExpiry
  repeat' split
  all_goals exact ⟨rfl, rfl, rfl⟩

theorem lockRow (s : State) (n : Fin 10) : s.SameLamps (s.lockRow n) := ⟨rfl, rfl, rfl⟩

theorem syncSelected (s : State) (x : Selection) (locked : Bool) : s.SameLamps (s.syncSelected x locked) := by
  unfold State.syncSelected
  split
  exacts [lockRow s _, lockRow s _, restartRow s _ _, refl s, refl s, refl s, refl s]

theorem syncReportEffect (s : State) (n : Fin 10) (locked : Bool) : s.SameLamps (s.syncReport n locked) := by
  unfold State.syncReport
  simp only
  repeat' split
  exacts [(setPresent s _ _).trans (syncSelected _ _ _), syncSelected s _ _, setPresent s _ _, setPresent s _ _]

theorem syncReport (s : State) (d : List Byte) : s.SameLamps (Machine.syncReport d s).1 := by
  unfold Machine.syncReport
  repeat' split
  exacts [syncReportEffect s _ _, refl s, refl s]

theorem presenceReportEffect (s : State) (bits : Nat) : s.SameLamps (s.presenceReport bits) := by
  unfold State.presenceReport
  generalize mapVectorIdx (fun i (r : InputRow) => { r with present := bits.testBit i }) s.inputs = rows
  have seen : s.SameLamps { s with inputs := rows } := ⟨rfl, rfl, rfl⟩
  simp only
  repeat' split
  exacts [seen.trans (restartRow _ _ _), seen, seen]

theorem presenceReport (s : State) (d : List Byte) : s.SameLamps (Machine.presenceReport d s).1 := by
  unfold Machine.presenceReport
  repeat' split
  · simp only
    split
    exacts [presenceReportEffect s _, refl s]
  · exact refl s

/-! ### Tilt and geometry -/

theorem nudgeCorner (s : State) (d : List Byte) : s.SameLamps (nudgeCorner d s).1 := by
  unfold Machine.nudgeCorner
  repeat' split
  · exact refl s
  · exact after (recomputeGeometry _) ⟨rfl, rfl, rfl⟩
  · exact refl s

theorem clearSessionTrims (s : State) (d : List Byte) : s.SameLamps (clearSessionTrims d s).1 := clearTrims s

theorem writePreset (s : State) (d : List Byte) : s.SameLamps (writePreset d s).1 := by
  unfold Machine.writePreset
  repeat' split
  · exact refl s
  · exact refl s
  · simp only
    split
    · exact after (recomputeGeometry _) ⟨rfl, rfl, rfl⟩
    · exact ⟨rfl, rfl, rfl⟩
  · exact refl s

theorem readPreset (s : State) (d : List Byte) : s.SameLamps (readPreset d s).1 := by
  unfold Machine.readPreset
  repeat' split
  all_goals exact refl s

theorem storeSessionTrims (s : State) (d : List Byte) : s.SameLamps (storeSessionTrims d s).1 :=
  after (clearTrims _) ⟨rfl, rfl, rfl⟩

theorem setKeystoneCalibration (s : State) (d : List Byte) : s.SameLamps (setKeystoneCalibration d s).1 := by
  unfold Machine.setKeystoneCalibration
  split
  · exact after (recomputeGeometry _) ⟨rfl, rfl, rfl⟩
  · exact refl s

theorem readCorners (s : State) (d : List Byte) : s.SameLamps (readCorners d s).1 := by
  unfold Machine.readCorners
  repeat' split
  all_goals exact refl s

theorem stepCount (s : State) (n : Int) : s.SameLamps (s.stepCount n) := by
  unfold State.stepCount
  simp only
  split
  · exact after (recomputeGeometry _) ⟨rfl, rfl, rfl⟩
  · exact ⟨rfl, rfl, rfl⟩

theorem encoderPassage (s : State) (ta tb : Bool) : s.SameLamps (s.encoderPassage ta tb) := by
  have lines : s.SameLamps { s with lines.ta := ta, lines.tb := tb } := ⟨rfl, rfl, rfl⟩
  unfold State.encoderPassage
  simp only
  repeat' split
  exacts [lines.trans (stepCount _ _), lines.trans (stepCount _ _), lines.trans (post _ _ _), lines]

theorem countToOffset (s : State) : s.SameLamps s.countToOffset := by
  unfold State.countToOffset
  split <;> exact ⟨rfl, rfl, rfl⟩

theorem indexPulse (s : State) : s.SameLamps s.indexPulse := by
  have counted := countToOffset s
  unfold State.indexPulse
  simp only
  repeat' split
  · exact after (recomputeGeometry _) ⟨counted.accounts, counted.saved, counted.lamps⟩
  · exact (counted.trans (post _ _ _)).trans (recomputeGeometry _)
  · exact counted.trans (recomputeGeometry _)
  · exact refl s

theorem settleExpiry (s : State) : s.SameLamps s.settleExpiry := by
  unfold State.settleExpiry
  simp only
  repeat' split
  · exact refl s
  · exact ⟨rfl, rfl, rfl⟩
  · exact after (recomputeGeometry _) ⟨rfl, rfl, rfl⟩

/-! ### Timetable, staging list and account reads -/

theorem extendBooking (s : State) (d : List Byte) : s.SameLamps (extendBooking d s).1 := by
  unfold Machine.extendBooking
  repeat' split
  exacts [refl s, refl s, (editTimetable s _).trans (post _ _ _)]

theorem readBookings (s : State) (d : List Byte) : s.SameLamps (readBookings d s).1 := by
  unfold Machine.readBookings
  simp only
  repeat' split
  all_goals exact refl s

theorem stageAppend (s : State) (d : List Byte) : s.SameLamps (stageAppend d s).1 := by
  unfold Machine.stageAppend
  simp only
  repeat' split
  all_goals exact ⟨rfl, rfl, rfl⟩

theorem readLampAccount (s : State) (d : List Byte) : s.SameLamps (readLampAccount d s).1 := by
  unfold Machine.readLampAccount
  repeat' split
  all_goals exact refl s

theorem readSnapshot (s : State) (d : List Byte) : s.SameLamps (readSnapshot d s).1 := by
  unfold Machine.readSnapshot
  repeat' split
  all_goals exact refl s

theorem readReplacementHistory (s : State) (d : List Byte) : s.SameLamps (readReplacementHistory d s).1 := by
  unfold Machine.readReplacementHistory
  split <;> exact refl s

/-! ### Events -/

theorem takeHanded (s : State) (p : Port) (t : Topic) (v : BitVec 16) : s.SameLamps (s.takeHanded p t v) :=
  ⟨by simp, by simp, by simp⟩

theorem interByteExpiry (s : State) (p : Port) : s.SameLamps (s.interByteExpiry p) := by
  unfold State.interByteExpiry
  split
  exacts [refl s, setPort s _ _, setPort s _ _, setPort s _ _, refl s]

theorem replyEnd (s : State) (p : Port) : s.SameLamps (s.replyEnd p) := by
  unfold State.replyEnd
  split
  exacts [setPort s _ _, refl s]

theorem serviceWindowExpiry (s : State) : s.SameLamps s.serviceWindowExpiry := by
  unfold State.serviceWindowExpiry
  split
  exacts [setLockout s _, refl s]

end Sys2Proof.Machine.State.SameLamps
end

section
/-! PROOFS. What every command does to the lamp accounts: the few changes of the LAU, and the lamp events that lead to them. -/

namespace Sys2Proof.Machine

/-! ### Life states (R10) -/

/-- R10: a life state that the account moves is handed over. -/
def State.lifeNews (s : State) (l : Lamp) : List Handoff :=
  if (s.account l).lifeState = s.accounts.life.get l then [] else [.lifeChanged l]

/-- R10: after a recomputation the life state is the one that the account gives. -/
theorem State.recomputeLife_life (s : State) (l : Lamp) :
    (s.recomputeLife l).accounts.life = s.accounts.life.set l (s.account l).lifeState := by
  unfold State.recomputeLife
  simp only
  split
  · next h => rw [h, PerLamp.set_get]
  · rfl

/-- R10: a recomputation changes the life states and nothing else of the LAU. -/
theorem State.recomputeLife_accounts (s : State) (l : Lamp) :
    (s.recomputeLife l).accounts = { s.accounts with life := s.accounts.life.set l (s.account l).lifeState } := by
  have life := s.recomputeLife_life l
  unfold State.recomputeLife at life ⊢
  simp only at life ⊢
  split
  · next h => rw [if_pos h] at life; rw [← life]
  · rfl

@[simp] theorem State.recomputeLife_account (s : State) (l m : Lamp) : (s.recomputeLife l).account m = s.account m := by
  simp only [State.account, State.recomputeLife_accounts]

/-- R32: only a STRIKING lamp has a strike to abandon. -/
theorem Work.abandonStrike_of_not_striking {w : Work} {l : Lamp} (h : w.s.lampState l ≠ .striking) : w.abandonStrike l = w := by
  unfold Work.abandonStrike
  simp only [State.lampState] at h
  cases hc : w.s.condition l <;> simp_all [LampCondition.state]

/-- R10: a recomputation for a lamp that is not STRIKING. -/
theorem Work.recomputeLife_of_not_striking {w : Work} {l : Lamp} (h : w.s.lampState l ≠ .striking) :
    w.recomputeLife l = ⟨w.s.recomputeLife l, w.out ++ w.s.lifeNews l⟩ := by
  have still : (w.s.recomputeLife l).lampState l ≠ .striking := by
    simpa only [State.lampState, State.condition, State.recomputeLife_lamps] using h
  unfold Work.recomputeLife State.lifeNews
  simp only [Work.edit_s, State.recomputeLife_life, PerLamp.get_set_same]
  split
  · simp [Work.edit]
  · rw [Work.abandonStrike_of_not_striking (by simpa using still), ite_self]
    rfl

/-- R3, R10: the LAU at a minute tick: the lamps that are LIT are charged, then their life states recomputed. -/
def State.tickLit (s : State) : State := forLamps s.litLamps (fun l s => s.recomputeLife l) (s.chargeLit s.litLamps)

/-- A property of the state that rests on the LAU and its save alone, and that every change of the LAU keeps but a replacement and a
restore. -/
structure KeptByAccounts (P : State → Prop) : Prop where
  frame : ∀ {s t : State}, P s → t.accounts = s.accounts → t.store.accounts = s.store.accounts → P t
  save : ∀ {s : State}, P s → P s.saveAccounts
  pulse : ∀ {s : State} (l : Lamp), P s → P ((s.setAccount l ((s.account l).chargePulse s.accounts.weights)).recomputeLife l)
  dropout : ∀ {s : State} (l : Lamp), P s → P (s.setAccount l (s.account l).chargeDropout)
  tick : ∀ {s : State}, P s → P s.tickLit
  count : ∀ {s : State}, P s → P s.countLitTick
  thresholds : ∀ {s : State} (l : Lamp) {rated warn grace : Nat}, 500 ≤ rated → rated ≤ 20000 → warn ≤ 2000 → grace ≤ 1000 →
    P s → P ((s.setThresholds l rated warn grace).recomputeLife l)
  weights : ∀ {s : State} {x : WearWeights}, x.Legal → P s → P { s with accounts.weights := x }
  snapshot : ∀ {s : State} (x : AccountSnapshot), P s → P { s with accounts.snapshot := some x }

/-- R19: the LAU after the replacement of lamp `l`: the retired lamp's record, the counters at zero, the life state from them. -/
def State.renewed (s : State) (l : Lamp) : State :=
  let t := s.retireLamp l
  { t with accounts.life := t.accounts.life.set l (t.account l).lifeState }

namespace KeptByAccounts

variable {P : State → Prop} (h : KeptByAccounts P)
include h

/-! ### Lamp events -/

theorem moveLamp {w : Work} (l : Lamp) (c : LampCondition) (hw : P w.s) : P (w.moveLamp l c).s := by
  have moved : P ((w.s.setCondition l c).post (.lampState l) c.state.number) := h.frame hw rfl rfl
  simp only [Work.moveLamp, Work.edit_s]
  split
  exacts [h.save moved, moved]

theorem changeLamp {w : Work} (l : Lamp) (c : LampCondition) (hw : P w.s) : P (w.changeLamp l c).s := h.moveLamp l c hw

theorem setCondition {s : State} (l : Lamp) (c : LampCondition) (hs : P s) : P (s.setCondition l c) := h.frame hs rfl rfl

theorem abandonStrike {w : Work} (l : Lamp) (hw : P w.s) : P (w.abandonStrike l).s := by
  unfold Work.abandonStrike
  split
  exacts [h.setCondition l _ hw, h.moveLamp l _ hw, hw, hw, hw, hw]

theorem recomputeLife {w : Work} (l : Lamp) (hw : P (w.s.recomputeLife l)) : P (w.recomputeLife l).s := by
  unfold Work.recomputeLife
  simp only
  repeat' split
  exacts [hw, h.abandonStrike l hw, hw]

theorem pulseLamp {w : Work} (l : Lamp) (hw : P w.s) : P (w.pulse l).s := by
  have charged := h.recomputeLife (w := w.edit fun s => s.setAccount l ((s.account l).chargePulse s.accounts.weights)) l (h.pulse l hw)
  unfold Work.pulse
  simp only
  split
  exacts [charged, charged]

theorem beginStrike {w : Work} (l : Lamp) (hw : P w.s) : P (w.beginStrike l).s := h.pulseLamp l (h.changeLamp l _ hw)

theorem strike (l : Lamp) (w : Work) (hw : P w.s) : P (w.strike l).s := by
  unfold Work.strike
  split
  · split
    exacts [h.beginStrike l hw, hw]
  exacts [hw, hw, hw, h.setCondition l _ hw, hw]

theorem stop (l : Lamp) (w : Work) (hw : P w.s) : P (w.stop l).s := by
  unfold Work.stop
  split
  exacts [h.changeLamp l _ hw, h.changeLamp l _ hw, h.changeLamp l _ hw, h.setCondition l _ hw, hw, hw]

theorem lightAtOpening (l : Lamp) (w : Work) (hw : P w.s) : P (w.lightAtOpening l).s := by
  unfold Work.lightAtOpening
  split
  · split
    exacts [h.changeLamp l _ hw, hw]
  all_goals exact hw

/-- What the changes of the LAU keep, the PDU and the timetable keep. -/
theorem orders : KeptByOrders P where
  frame := fun accounts saved _ hs => h.frame hs accounts saved
  strike := h.strike
  stop := h.stop
  opening := h.lightAtOpening
  zeroed := fun _ hs => h.frame hs rfl rfl

theorem fail {w : Work} (l : Lamp) (cause : Nat) (hw : P w.s) : P (w.fail l cause).s :=
  h.changeLamp (w := w.edit fun s => s.post (.lampFailed l) cause) l _ (h.frame hw rfl rfl)

theorem windowExpiry {w : Work} (l : Lamp) (hw : P w.s) : P (w.windowExpiry l).s := by
  unfold Work.windowExpiry
  split
  · repeat' split
    exacts [h.moveLamp l _ hw, h.setCondition l _ hw, h.fail l 1 hw]
  all_goals exact hw

theorem retryExpiry {w : Work} (l : Lamp) (hw : P w.s) : P (w.retryExpiry l).s := by
  unfold Work.retryExpiry
  split
  · next attempts _ _ =>
    split
    · exact h.pulseLamp (w := w.edit fun s => s.setCondition l (.window (attempts + 1) Config.ignitionWindow false)) l
        (h.setCondition l _ hw)
    · exact h.fail l 1 hw
  all_goals exact hw

theorem coolDownExpiry {w : Work} (l : Lamp) (hw : P w.s) : P (w.coolDownExpiry l).s := by
  unfold Work.coolDownExpiry
  split
  · repeat' split
    exacts [h.beginStrike l hw, h.moveLamp l _ hw, h.changeLamp l _ hw]
  all_goals exact hw

theorem dropoutOf {w : Work} (l : Lamp) (hw : P w.s) : P (w.dropout l).s := by
  have charged (n : Nat) : P ((w.s.setSessionDropouts l n).setAccount l (w.s.account l).chargeDropout) :=
    h.frame (h.dropout l hw) rfl rfl
  unfold Work.dropout
  simp only
  split
  · exact h.changeLamp (w := w.edit fun s => (s.setSessionDropouts l _).setAccount l (s.account l).chargeDropout) l _ (charged _)
  · exact h.fail (w := w.edit fun s => (s.setSessionDropouts l _).setAccount l (s.account l).chargeDropout) l 2 (charged _)

theorem litRise {w : Work} (l : Lamp) (hw : P w.s) : P (w.litRise l).s := by
  have risen : P (w.edit fun s => { s with lines.lit := s.lines.lit.set l true }).s := h.frame hw rfl rfl
  unfold Work.litRise
  simp only
  split
  exacts [h.changeLamp l _ risen, risen, h.frame risen rfl rfl, h.frame risen rfl rfl, h.frame risen rfl rfl]

theorem litFall {w : Work} (l : Lamp) (hw : P w.s) : P (w.litFall l).s := by
  have fallen : P (w.edit fun s => { s with lines.lit := s.lines.lit.set l false }).s := h.frame hw rfl rfl
  unfold Work.litFall
  simp only
  split
  exacts [h.dropoutOf l fallen, fallen]

theorem fanTimeEnd {w : Work} (l : Lamp) (hw : P w.s) : P (w.fanTimeEnd l).s := by
  unfold Work.fanTimeEnd
  split
  · split
    exacts [hw, h.setCondition l _ hw]
  all_goals exact hw

theorem thermalTrip {w : Work} (hw : P w.s) : P w.thermalTrip.s := by
  have told (s : State) (hs : P s) : P (forLamps w.s.burning (fun l s => s.post (.lampState l) LampState.cooling.number) s) :=
    forLamps_keeps P _ _ _ (fun _ _ hs => h.frame hs rfl rfl) hs
  have tripped : P (State.post { w.s.mapConditions (·.tripped w.s.lamps.params.coolDown) with lamps.thermalHold := true }
      .thermalTrip w.s.burning.count) := h.frame hw rfl rfl
  simp only [Work.thermalTrip, Work.hand_s, Work.edit_s]
  split
  exacts [told _ tripped, h.save (told _ tripped)]

theorem thermalClear {w : Work} (hw : P w.s) : P w.thermalClear.s := by
  unfold Work.thermalClear
  split
  exacts [h.frame hw rfl rfl, hw]

theorem settle {f : Work → Work} {s : State} (hf : P (f ⟨s, []⟩).s) : P (s.settle f) := h.orders.settle hf

end KeptByAccounts

end Sys2Proof.Machine
end

section
/-! PROOFS. What every request, event and step does to the lamp accounts. -/

namespace Sys2Proof.Machine

/-! ### The minute tick (R3, R10) -/

theorem State.chargeLit_lamps (s : State) (lit : PerLamp Bool) : (s.chargeLit lit).lamps = s.lamps := by
  simp only [State.chargeLit]
  repeat' split
  all_goals rfl

theorem State.litLamps_iff (s : State) (l : Lamp) : s.litLamps.get l = true ↔ s.lampState l = .lit := by
  cases l <;> simp [State.litLamps, PerLamp.get]

/-- A lamp that is LIT has no strike to abandon, so its life state is recomputed and nothing else happens to it. -/
theorem State.recomputeLit_s {s t : State} (h : t.lamps = s.lamps) :
    (forLamps s.litLamps (fun l (w : Work) => w.recomputeLife l) ⟨t, []⟩).s = forLamps s.litLamps (fun l s => s.recomputeLife l) t := by
  have lit (w : Work) (l : Lamp) (hl : s.litLamps.get l = true) (hw : w.s.lamps = s.lamps) :
      w.recomputeLife l = ⟨w.s.recomputeLife l, w.out ++ w.s.lifeNews l⟩ := by
    refine Work.recomputeLife_of_not_striking ?_
    rw [State.lampState, State.condition, hw]
    exact fun hs => by simpa using ((s.litLamps_iff l).mp hl).symm.trans hs
  cases ha : s.litLamps.a <;> cases hb : s.litLamps.b
  · simp [forLamps, ha, hb]
  · simp [forLamps, ha, hb, lit ⟨t, []⟩ .b hb h]
  · simp [forLamps, ha, hb, lit ⟨t, []⟩ .a ha h]
  · have first (l : Lamp) : (t.recomputeLife l).lamps = s.lamps := by simpa using h
    simp only [forLamps, ha, hb]
    split
    · rw [lit ⟨t, []⟩ .b hb h, lit _ .a ha (first .b)]
    · rw [lit ⟨t, []⟩ .a ha h, lit _ .b hb (first .a)]

/-- R22, R172: a property of the state that a restore from the store keeps, a request's saves being complete or not. -/
structure KeptByRestore (P : State → Prop) : Prop where
  restored : ∀ {s : State}, P s → P s.restored
  merged : ∀ {s t : State} (done : List StoreUnit), P s → P t → P { s with store := s.store.merge t.store done }

namespace KeptByAccounts

variable {P : State → Prop} (h : KeptByAccounts P)
include h

theorem same {s t : State} (st : s.SameLamps t) (hs : P s) : P t := h.frame hs st.accounts st.saved

theorem accountsTick {s : State} (hs : P s) : P s.accountsTick := by
  have ticked : P (forLamps s.litLamps (fun l (w : Work) => w.recomputeLife l) ⟨s.chargeLit s.litLamps, []⟩).s := by
    rw [State.recomputeLit_s (s.chargeLit_lamps _)]
    exact h.tick hs
  unfold State.accountsTick
  refine h.orders.run _ ?_
  split
  exacts [h.count ticked, ticked]

theorem minuteTick {s : State} (first : TickTaker) (hs : P s) : P (s.minuteTick first) := by
  have clocked : P { s with clock := s.clock.tick } := h.frame hs rfl rfl
  unfold State.minuteTick
  simp only
  split
  · cases first with
    | accounts => exact h.orders.timetableTick (h.accountsTick clocked)
    | timetable => exact h.accountsTick (h.orders.timetableTick clocked)
  · exact clocked

/-! ### Requests -/

theorem powerOff {s : State} (d : List Byte) (hs : P s) : P (powerOff d s).1 := h.orders.dismiss (h.orders.handPower _ hs)

theorem facilityPowerClaim {s : State} (d : List Byte) (hs : P s) : P (facilityPowerClaim d s).1 := by
  unfold Machine.facilityPowerClaim
  repeat' split
  exacts [hs, h.orders.handPower _ hs, h.orders.handPower _ hs, hs]

theorem setTime {s : State} (d : List Byte) (hs : P s) : P (setTime d s).1 := by
  unfold Machine.setTime
  split
  exacts [h.orders.reevaluate _ (h.frame hs rfl rfl), hs]

theorem stageCommit {s : State} (d : List Byte) (hs : P s) : P (stageCommit d s).1 := by
  unfold Machine.stageCommit
  repeat' split
  exacts [hs, hs, h.orders.commit _ hs]

theorem insertBooking {s : State} (d : List Byte) (hs : P s) : P (insertBooking d s).1 := by
  unfold Machine.insertBooking
  repeat' split
  exacts [hs, hs, hs, hs, hs, h.orders.insertBooking _ hs]

theorem deleteBooking {s : State} (d : List Byte) (hs : P s) : P (deleteBooking d s).1 := by
  unfold Machine.deleteBooking
  simp only
  repeat' split
  exacts [h.orders.deleteBooking _ hs, hs, hs]

theorem setScheduleEnable {s : State} (d : List Byte) (hs : P s) : P (setScheduleEnable d s).1 := by
  unfold Machine.setScheduleEnable
  repeat' split
  exacts [hs, h.orders.setEnable _ hs, hs]

theorem setLampThresholds {s : State} (d : List Byte) (hs : P s) : P (setLampThresholds d s).1 := by
  unfold Machine.setLampThresholds
  split
  · split
    · exact hs
    · next l _ =>
      have rated (n : Nat) := clampNat_bounds (lo := 500) (hi := 20000) n (by omega)
      have warn (n : Nat) := clampNat_bounds (lo := 0) (hi := 2000) n (by omega)
      have grace (n : Nat) := clampNat_bounds (lo := 0) (hi := 1000) n (by omega)
      refine h.orders.run _ (h.save (h.recomputeLife l ?_))
      exact h.thresholds l (rated _).1 (rated _).2 (warn _).2 (grace _).2 hs
  · exact hs

theorem setLampParameters {s : State} (d : List Byte) (hs : P s) : P (setLampParameters d s).1 := by
  unfold Machine.setLampParameters
  split
  · next eco penalty _ _ _ =>
    have legal : WearWeights.Legal ⟨clampNat 4 16 eco.toNat, clampNat 0 240 penalty.toNat⟩ :=
      ⟨(clampNat_bounds _ (by omega)).1, (clampNat_bounds _ (by omega)).2, (clampNat_bounds _ (by omega)).2⟩
    exact h.save (h.frame (h.weights legal hs) rfl rfl)
  · exact hs

theorem clearLampFault {s : State} (d : List Byte) (hs : P s) : P (clearLampFault d s).1 := by
  unfold Machine.clearLampFault
  repeat' split
  · exact hs
  · exact hs
  · next l _ _ c _ => exact h.orders.run _ (h.changeLamp (w := ⟨s.setSessionDropouts l 0, []⟩) l c (h.frame hs rfl rfl))
  · exact hs

/-- R19: only the lamp that is replaced has its account renewed; a FAILED lamp that becomes DARK saves nothing (R21). -/
theorem replaceLamp {w : Work} (l : Lamp) (replaced : ∀ s, P s → P (s.renewed l)) (hw : P w.s) : P (w.replaceLamp l).s := by
  have dark : ∀ v : Work, (v.renewLamp l).s.accounts = v.s.accounts ∧ (v.renewLamp l).s.store = v.s.store := by
    intro v
    unfold Work.renewLamp
    simp only
    split
    · next failed =>
      have failed : v.s.lampState l = .failed := by
        simpa [State.lampState, State.condition, State.setSessionDropouts] using failed
      simp [Work.changeLamp, Work.moveLamp, State.lampState, State.condition, State.setSessionDropouts, LampState.savesOnLeaving,
        show (v.s.lamps.lamp.get l).condition.state = .failed from failed, State.setCondition]
    · exact ⟨rfl, rfl⟩
  obtain ⟨accounts, store⟩ := dark (w.edit fun s => s.retireLamp l)
  refine h.save (h.frame (s := w.s.renewed l) (replaced _ hw) ?_ ?_)
  · unfold Work.renewLife
    simp only
    split <;> simp [State.renewed, State.account, accounts]
  · unfold Work.renewLife
    simp only
    split <;> simp [State.renewed, store]

theorem lampReplaced {s : State} (d : List Byte) (replaced : ∀ l, d = [lampByte l] → ∀ s, P s → P (s.renewed l)) (hs : P s) :
    P (lampReplaced d s).1 := by
  unfold Machine.lampReplaced
  repeat' split
  · exact hs
  · next x _ l hx _ =>
    have named : [x] = [lampByte l] := by
      revert hx
      unfold readLamp
      repeat' split
      all_goals rintro ⟨⟩
      all_goals simp_all [lampByte]
    exact h.orders.run _ (h.replaceLamp l (replaced l named) hs)
  · exact hs
  · exact hs

theorem serviceBlocks {s : State} (hs : P s) : P s.serviceBlocks := by
  have lamps : P s.serviceLamps := by
    have cleared : P (State.zeroSessionDropouts { s.mapConditions (·.tripped s.lamps.params.coolDown) with lamps.thermalHold := false }) :=
      h.frame hs rfl rfl
    unfold State.serviceLamps
    simp only
    split
    exacts [cleared, h.save cleared]
  exact h.frame lamps rfl rfl

theorem factoryBlocks {s : State} (hs : P s) : P s.factoryBlocks := by
  have timetable : P s.factoryTimetable := h.orders.handPower _ (h.frame hs rfl rfl)
  have reset : P { s.factoryTimetable.factoryLamps.factorySelection.factoryGeometry.clearQueues with handed := s.handed } :=
    h.frame timetable rfl rfl
  unfold State.factoryBlocks
  simp only
  split
  exacts [h.orders.handPower _ reset, reset]

theorem factoryReset {s : State} (d : List Byte) (hs : P s) : P (factoryReset d s).1 := by
  unfold Machine.factoryReset
  split
  exacts [h.factoryBlocks hs, hs]

/-- Every request keeps what the changes of the LAU keep, Lamp Replaced what the renewal of its lamp's account keeps. -/
theorem owner (r : Request) (p : Port) (d : List Byte) {s : State}
    (replaced : r = .lampReplaced → ∀ l, d = [lampByte l] → ∀ s, P s → P (s.renewed l)) (hs : P s) : P (owner r p d s).1 := by
  cases r with
  | readStatus | readGeometry | readTilt | readScheduleState | readLockout => exact hs
  | stageBegin | armHoming => exact h.frame hs rfl rfl
  | takeNotice => exact h.same (.takeNotice s p d) hs
  | setNoticeMask => exact h.same (.setNoticeMask s p d) hs
  | powerOn => exact h.orders.handPower _ hs
  | powerOff => exact h.powerOff d hs
  | setLampPower => exact h.same (.setLampPower s d) hs
  | setBlank => exact h.same (.setBlankRequest s d) hs
  | facilityPowerClaim => exact h.facilityPowerClaim d hs
  | setPowerDefaults => exact h.same (.setPowerDefaults s d) hs
  | selectInput => exact h.same (.selectInput s d) hs
  | selectClass => exact h.same (.selectClass s d) hs
  | writeInputRow => exact h.same (.writeInputRow s d) hs
  | readInputRow => exact h.same (.readInputRow s d) hs
  | setAcquisitionParameters => exact h.same (.setAcquisitionParameters s d) hs
  | nudgeCorner => exact h.same (.nudgeCorner s d) hs
  | clearSessionTrims => exact h.same (.clearSessionTrims s d) hs
  | writePreset => exact h.same (.writePreset s d) hs
  | readPreset => exact h.same (.readPreset s d) hs
  | storeSessionTrims => exact h.same (.storeSessionTrims s d) hs
  | setKeystoneCalibration => exact h.same (.setKeystoneCalibration s d) hs
  | readCorners => exact h.same (.readCorners s d) hs
  | extendBooking => exact h.same (.extendBooking s d) hs
  | setTime => exact h.setTime d hs
  | readBookings => exact h.same (.readBookings s d) hs
  | stageAppend => exact h.same (.stageAppend s d) hs
  | stageCommit => exact h.stageCommit d hs
  | insertBooking => exact h.insertBooking d hs
  | deleteBooking => exact h.deleteBooking d hs
  | setScheduleEnable => exact h.setScheduleEnable d hs
  | setManualLockout => exact h.same (.setManualLockout s d) hs
  | openServiceWindow => exact h.same (.openServiceWindow s d) hs
  | closeServiceWindow => exact h.same (.closeServiceWindow s d) hs
  | readLampAccount => exact h.same (.readLampAccount s d) hs
  | takeAccountSnapshot => exact h.snapshot _ hs
  | readSnapshot => exact h.same (.readSnapshot s d) hs
  | setLampThresholds => exact h.setLampThresholds d hs
  | setLampParameters => exact h.setLampParameters d hs
  | lampReplaced => exact h.lampReplaced d (replaced rfl) hs
  | readReplacementHistory => exact h.same (.readReplacementHistory s d) hs
  | clearLampFault => exact h.clearLampFault d hs
  | serviceReset => exact h.orders.reevaluate _ (h.serviceBlocks hs)
  | factoryReset => exact h.factoryReset d hs
  | syncReport => exact h.same (.syncReport s d) hs
  | presenceReport => exact h.same (.presenceReport s d) hs
  | thermalTrip => exact h.settle (f := Work.thermalTrip) (h.thermalTrip (w := ⟨s, []⟩) hs)
  | thermalClear => exact h.settle (f := Work.thermalClear) (h.thermalClear (w := ⟨s, []⟩) hs)

end KeptByAccounts

end Sys2Proof.Machine
end

section
/-! PROOFS. What every command and every step does to the lamp accounts. -/

namespace Sys2Proof.Machine

/-- R171: Lamp Replaced has code 0x65 and is taken from the FACILITY port alone. -/
theorem lampReplaced_row {code : Byte} {row : CatalogueRow} (h : lookupCode code = some row) (hr : row.request = .lampReplaced) :
    code = 0x65 ∧ row.ports = [.facility] := by
  have listed : ∀ x ∈ catalogue, x.request = .lampReplaced → x.code = 0x65 ∧ x.ports = [.facility] := by decide
  obtain ⟨hc, hp⟩ := listed row (List.mem_of_find?_eq_some h) hr
  have found : row.code = code := by simpa using List.find?_some h
  exact ⟨found ▸ hc, hp⟩

/-- R171: a command that is a frame is that frame sent to its port. -/
theorem exec_of_frame {c : Instr} {p : Port} {code : Byte} {d : List Byte} (h : c.frame? = some (p, code, d)) (s : State) :
    exec c s = carry (fun s => s.sendFrame p code d) s := by
  cases c <;> cases h <;> rfl

/-- Bytes do not move a port that is REPLYING. -/
theorem State.receiveBytes_replying {s : State} {p : Port} (h : (s.ports.get p).receive = .replying) (bytes : List Byte) :
    s.receiveBytes p bytes = s := by
  induction bytes with
  | nil => rfl
  | cons b rest ih =>
    have still : s.receiveByte p b = s := by simp only [State.receiveByte, h]
    simpa only [State.receiveBytes, List.foldl_cons, still] using ih

/-- What the effect of a command on a part with power keeps, the command keeps. -/
theorem carry_keeps {P : State → Prop} {f : State → State} {s t : State} (hf : P (f s)) (hs : P s) (ht : carry f s = .next t) : P t := by
  cases hp : s.powered with
  | true => rw [carry_powered f hp] at ht; cases ht; exact hf
  | false => rw [carry_unpowered f hp] at ht; cases ht; exact hs

/-- The renewal of the account of each lamp that frame `code` with payload `d` on port `p` replaces keeps `P`. -/
def RenewalKeeps (P : State → Prop) (p : Port) (code : Byte) (d : List Byte) : Prop :=
  p = .facility → code = 0x65 → ∀ l, d = [lampByte l] → ∀ s, P s → P (s.renewed l)

namespace KeptByAccounts

variable {P : State → Prop} (h : KeptByAccounts P)
include h

/-! ### Frames -/

theorem setPort {s : State} (p : Port) (x : PortUnit) (hs : P s) : P (s.setPort p x) := h.frame hs rfl rfl

theorem dispatch {p : Port} {code : Byte} {d : List Byte} (renews : RenewalKeeps P p code d) {s : State} (hs : P s) :
    P (dispatch p code d s).1 := by
  obtain ⟨-, hd⟩ | ⟨row, hrow, ⟨-, hd⟩ | ⟨-, -, x, -, hd⟩ | ⟨hp, -, ⟨-, hd⟩ | ⟨-, hd⟩⟩⟩ := dispatch_cases p code d s
  case inr.inr.inr.inr =>
    rw [hd]
    refine h.owner row.request p d (fun hr => ?_) hs
    obtain ⟨hcode, hports⟩ := lampReplaced_row hrow hr
    exact renews (by simpa [hports] using hp) hcode
  all_goals rw [hd]; exact hs

theorem takeFrame {p : Port} {frame : List Byte} {code : Byte} {d : List Byte} (renews : RenewalKeeps P p code d) {s : State}
    (hs : P s) : P (s.takeFrame p frame code d) := h.setPort p _ (h.dispatch renews hs)

theorem receiveByte {s : State} {p : Port} (b : Byte)
    (renews : (s.ports.get p).receive = .check → ∀ code d, RenewalKeeps P p code d) (hs : P s) : P (s.receiveByte p b) := by
  unfold State.receiveByte
  simp only
  split
  · split
    exacts [h.setPort p _ hs, hs]
  · split <;> exact h.setPort p _ hs
  · split <;> exact h.setPort p _ hs
  · next checking =>
    unfold State.completeFrame
    simp only
    split
    · split
      exacts [h.takeFrame (renews checking _ _) hs, h.setPort p _ hs]
    · exact h.setPort p _ hs
  · exact hs

theorem receiveBytes {p : Port} (renews : ∀ code d, RenewalKeeps P p code d) (bytes : List Byte) {s : State} (hs : P s) :
    P (s.receiveBytes p bytes) := by
  induction bytes generalizing s with
  | nil => exact hs
  | cons b rest ih => exact ih (h.receiveByte b (fun _ => renews) hs)

/-- A frame keeps `P` where the renewals that it may bring keep it: any on a port that takes it byte by byte, its own on a port in
HUNT, none on a port that is REPLYING. -/
theorem sendFrame {p : Port} {code : Byte} {d : List Byte} {s : State} (hd : d.length ≤ 64)
    (renews : (∀ code d, RenewalKeeps P p code d) ∨ (s.ports.get p).receive = .replying ∨
      (s.ports.get p).receive = .hunt ∧ RenewalKeeps P p code d) (hs : P s) : P (s.sendFrame p code d) := by
  unfold State.sendFrame
  obtain all | replying | ⟨hunt, own⟩ := renews
  · split
    exacts [h.takeFrame (all _ _) hs, h.receiveBytes all _ hs]
  · rw [if_neg (by simp [replying]), State.receiveBytes_replying replying]
    exact hs
  · rw [if_pos ⟨hunt, hd⟩]
    exact h.takeFrame own hs

/-- A frame of any length on a port keeps `P` where every renewal does. -/
theorem sendFrame_renewing {p : Port} {code : Byte} {d : List Byte} {s : State} (renews : ∀ code d, RenewalKeeps P p code d)
    (hs : P s) : P (s.sendFrame p code d) := by
  unfold State.sendFrame
  split
  exacts [h.takeFrame (renews _ _) hs, h.receiveBytes renews _ hs]

/-! ### Commands and steps -/

theorem senseLit {s : State} (l : Lamp) (level : Bool) (hs : P s) : P (s.senseLit l level) := by
  unfold State.senseLit
  split
  · exact hs
  · split
    · refine h.settle (f := fun w => if level then w.litRise l else w.litFall l) ?_
      cases level
      exacts [h.litFall (w := ⟨s, []⟩) l hs, h.litRise (w := ⟨s, []⟩) l hs]
    · exact h.frame hs rfl rfl

/-- Every command that is neither a frame, nor a byte, nor a reset, nor a loss of power. -/
theorem exec_event {c : Instr} {s t : State} (hf : c.frame? = none) (hb : ∀ p b, c ≠ .portByteReceived p b)
    (hr : ∀ g, c ≠ .powerOnReset g ∧ c ≠ .hardwareReset g) (hl : ∀ cut done, c ≠ .lossOfPower cut done) (hs : P s)
    (ht : exec c s = .next t) : P t := by
  cases c
  case interByteTimeout p => exact carry_keeps (h.same (.interByteExpiry s p) hs) hs ht
  case replySent p => exact carry_keeps (h.same (.replyEnd s p) hs) hs ht
  case noticeAdmission p topic value => exact carry_keeps (h.same (.takeHanded s p topic value) hs) hs ht
  case minuteTick first => cases ht; exact h.minuteTick first hs
  case ignitionWindowExpiry l => exact carry_keeps (h.settle (f := fun w => w.windowExpiry l) (h.windowExpiry (w := ⟨s, []⟩) l hs)) hs ht
  case retryWaitExpiry l => exact carry_keeps (h.settle (f := fun w => w.retryExpiry l) (h.retryExpiry (w := ⟨s, []⟩) l hs)) hs ht
  case coolDownExpiry l => exact carry_keeps (h.settle (f := fun w => w.coolDownExpiry l) (h.coolDownExpiry (w := ⟨s, []⟩) l hs)) hs ht
  case fanTimeEnd l => exact carry_keeps (h.settle (f := fun w => w.fanTimeEnd l) (h.fanTimeEnd (w := ⟨s, []⟩) l hs)) hs ht
  case litRise l => cases ht; exact h.senseLit l true hs
  case litFall l => cases ht; exact h.senseLit l false hs
  case acquisitionWindowExpiry => exact carry_keeps (h.same (.windowExpiry s) hs) hs ht
  case settleTimerExpiry => exact carry_keeps (h.same (.settleExpiry s) hs) hs ht
  case encoderStep ta tb =>
    cases ht
    split
    exacts [h.same (.encoderPassage s ta tb) hs, h.frame hs rfl rfl]
  case indexPulse => exact carry_keeps (h.same (.indexPulse s) hs) hs ht
  case blankTimerExpiry =>
    refine carry_keeps ?_ hs ht
    unfold State.blankExpiry
    split
    exacts [hs, h.orders.handPower _ (h.frame hs rfl rfl)]
  case graceExpiry =>
    refine carry_keeps ?_ hs ht
    unfold State.graceTimerExpiry
    split
    exacts [h.orders.graceExpiry hs, hs]
  case serviceWindowExpiry => exact carry_keeps (h.same (.serviceWindowExpiry s) hs) hs ht
  case powerOnReset g => exact absurd rfl (hr g).1
  case hardwareReset g => exact absurd rfl (hr g).2
  case portByteReceived p b => exact absurd rfl (hb p b)
  case lossOfPower cut done => exact absurd rfl (hl cut done)
  all_goals cases hf

variable (r : KeptByRestore P) (replaced : ∀ l s, P s → P (s.renewed l))
include r replaced

theorem powerUp {s : State} (x : Restart) (hs : P s) : P (s.powerUp x) := by
  have restored : P (s.resetAll x.backupGood) := by
    have reset : P { s with lines.backupGood := x.backupGood, clock := s.clock.sampled x.backupGood, powered := true } :=
      h.frame hs rfl rfl
    unfold State.resetAll
    simp only
    split
    exacts [r.restored reset, h.frame (r.restored reset) rfl rfl]
  unfold State.powerUp
  refine h.orders.reevaluate _ ?_
  split
  exacts [h.sendFrame_renewing (fun _ _ _ _ l _ s => replaced l s) restored, restored]

theorem losePower {s : State} (cut : Option (Byte × List Byte)) (done : List StoreUnit) (hs : P s) : P (s.losePower cut done) := by
  have down (store : Store) (kept : P { s with store := store }) : P (s.powerDown store) :=
    r.restored (s := { s with store := store, powered := false }) (h.frame kept rfl rfl)
  unfold State.losePower
  split
  · exact down _ hs
  · exact down _ (r.merged done hs (h.sendFrame_renewing (fun _ _ _ _ l _ s => replaced l s) hs))

/-- What every change of the LAU keeps, with a replacement and a restore, every command keeps. -/
theorem exec {c : Instr} {s t : State} (hs : P s) (ht : Machine.exec c s = .next t) : P t := by
  have renews (p : Port) (code : Byte) (d : List Byte) : RenewalKeeps P p code d := fun _ _ l _ s => replaced l s
  cases hf : c.frame? with
  | some frame =>
    obtain ⟨p, code, d⟩ := frame
    rw [exec_of_frame hf] at ht
    exact carry_keeps (f := fun s => s.sendFrame p code d) (h.sendFrame_renewing (renews p) hs) hs ht
  | none =>
    cases c
    case portByteReceived p b => exact carry_keeps (h.receiveByte b (fun _ => renews p) hs) hs ht
    case powerOnReset g => cases ht; exact h.powerUp r replaced g hs
    case hardwareReset g => exact carry_keeps (h.powerUp r replaced g hs) hs ht
    case lossOfPower cut done => exact carry_keeps (h.losePower r replaced cut done hs) hs ht
    all_goals exact h.exec_event hf (by simp) (by simp) (by simp) hs ht

/-- And every step keeps it. -/
theorem step {s t : State} (hs : P s) (ht : Machine.step s = .next t) : P t := by
  have elapsed : P s.elapse := by
    unfold State.elapse whenPowered
    split <;> exact h.frame hs rfl rfl
  unfold Machine.step at ht
  split at ht
  · cases ht; exact elapsed
  · next rest _ =>
    have taken : P { s with pending := rest } := h.frame hs rfl rfl
    exact h.exec r replaced taken ht

end KeptByAccounts

end Sys2Proof.Machine
end

section
/-! PROOFS. The accounts stay in range (O52), the life states current (O55), the counters never fall (O59). -/

namespace Sys2Proof.Machine

/-! ### One account after a change -/

@[simp] theorem State.setAccount_account (s : State) (l : Lamp) (x : LampAccount) : (s.setAccount l x).account l = x :=
  PerLamp.get_set_same _ _ _

theorem State.setAccount_account_ne {s : State} {l m : Lamp} (x : LampAccount) (h : m ≠ l) :
    (s.setAccount l x).account m = s.account m := PerLamp.get_set_ne _ _ h

/-- R3: at a minute tick each of the given lamps is charged by its own ECO line, no other is. -/
theorem State.chargeLit_account (s : State) (lit : PerLamp Bool) (l : Lamp) :
    (s.chargeLit lit).account l =
      if lit.get l then (s.account l).chargeMinute s.accounts.weights (s.ecoLine l) else s.account l := by
  obtain ⟨a, b⟩ := lit
  cases a <;> cases b <;> cases l <;> rfl

/-- The charges change the accounts and nothing else. -/
theorem State.chargeLit_eq (s : State) (lit : PerLamp Bool) :
    s.chargeLit lit = { s with accounts.lamps := (s.chargeLit lit).accounts.lamps } := by
  obtain ⟨a, b⟩ := lit
  cases a <;> cases b <;> rfl

/-- R3: each lamp that is LIT at a minute tick is charged by its ECO line. -/
theorem State.tickLit_account (s : State) (l : Lamp) :
    s.tickLit.account l =
      if s.litLamps.get l then (s.account l).chargeMinute s.accounts.weights (s.ecoLine l) else s.account l := by
  rw [← s.chargeLit_account]
  exact forLamps_keeps (fun (t : State) => t.account l = (s.chargeLit s.litLamps).account l) _ _ _
    (fun m t ht => (t.recomputeLife_account m l).trans ht) rfl

theorem State.recomputeLife_other {s : State} {l m : Lamp} (h : m ≠ l) :
    (s.recomputeLife l).accounts.life.get m = s.accounts.life.get m := by
  rw [State.recomputeLife_life, PerLamp.get_set_ne _ _ h]

@[simp] theorem State.recomputeLife_same (s : State) (l : Lamp) :
    (s.recomputeLife l).accounts.life.get l = (s.account l).lifeState := by
  rw [State.recomputeLife_life, PerLamp.get_set_same]

/-- R10: the life states after the recomputation for the lamps of a set. -/
theorem State.recomputeLives_life (t : State) (sel : PerLamp Bool) (l : Lamp) :
    (forLamps sel (fun l s => s.recomputeLife l) t).accounts.life.get l =
      if sel.get l then (t.account l).lifeState else t.accounts.life.get l := by
  obtain ⟨a, b⟩ := sel
  rw [forLamps_cases]
  cases a <;> cases b <;> cases l <;> simp [State.recomputeLife_life, PerLamp.set, PerLamp.get, apply_ite]

/-- R10: and its life state is the one that its account then gives. -/
theorem State.tickLit_life (s : State) (l : Lamp) :
    s.tickLit.accounts.life.get l = if s.litLamps.get l then (s.tickLit.account l).lifeState else s.accounts.life.get l := by
  have charged : s.tickLit.account l = (s.chargeLit s.litLamps).account l := by rw [State.tickLit_account, State.chargeLit_account]
  have life : (s.chargeLit s.litLamps).accounts.life = s.accounts.life := by rw [State.chargeLit_eq]
  rw [charged, State.tickLit, State.recomputeLives_life, life]

/-- A tick changes the accounts and the life states, and nothing else of the LAU and its save. -/
theorem State.tickLit_rest (s : State) :
    s.tickLit.accounts = { s.accounts with lamps := s.tickLit.accounts.lamps, life := s.tickLit.accounts.life } ∧
      s.tickLit.store = s.store := by
  refine forLamps_keeps (fun (t : State) => t.accounts = { s.accounts with lamps := t.accounts.lamps, life := t.accounts.life } ∧
    t.store = s.store) _ _ _ (fun l t ht => ?_) ?_
  · refine ⟨?_, by simpa using ht.2⟩
    rw [State.recomputeLife_accounts, ht.1]
  · rw [State.chargeLit_eq]
    exact ⟨rfl, rfl⟩

/-! ### Ranges (R1, R2, R20, R21) -/

theorem LampAccount.chargePulse_legal {x : LampAccount} (h : x.Legal) (w : WearWeights) : (x.chargePulse w).Legal := by
  obtain ⟨-, full, eco, -, rest⟩ := h
  exact ⟨satAdd_le _ _ _, full, eco, satAdd_le _ _ _, rest⟩

theorem LampAccount.chargeDropout_legal {x : LampAccount} (h : x.Legal) : x.chargeDropout.Legal := by
  obtain ⟨wear, full, eco, strikes, -, rest⟩ := h
  exact ⟨wear, full, eco, strikes, satAdd_le _ _ _, rest⟩

theorem LampAccount.chargeMinute_legal {x : LampAccount} (h : x.Legal) (w : WearWeights) (eco : Bool) :
    (x.chargeMinute w eco).Legal := by
  obtain ⟨-, full, ecos, rest⟩ := h
  cases eco
  exacts [⟨satAdd_le _ _ _, satAdd_le _ _ _, ecos, rest⟩, ⟨satAdd_le _ _ _, full, satAdd_le _ _ _, rest⟩]

theorem LampAccount.thresholds_legal {x : LampAccount} (h : x.Legal) {rated warn grace : Nat} (low : 500 ≤ rated) (high : rated ≤ 20000)
    (hw : warn ≤ 2000) (hg : grace ≤ 1000) :
    LampAccount.Legal { x with ratedLife := rated, warnOffset := warn, grace := grace } := by
  obtain ⟨wear, full, eco, strikes, dropouts, -⟩ := h
  exact ⟨wear, full, eco, strikes, dropouts, low, high, hw, hg⟩

theorem State.AccountsLegal.account {s : State} (h : s.AccountsLegal) (l : Lamp) : (s.account l).Legal := by
  obtain ⟨⟨a, b, -⟩, -⟩ := h
  cases l
  exacts [a, b]

/-- What is in range stays so where the accounts are in range and the rest of the LAU and its save is left as it is. -/
theorem State.AccountsLegal.withLamps {s t : State} (h : s.AccountsLegal) (lamps : ∀ l, (t.account l).Legal)
    (rest : t.accounts = { s.accounts with lamps := t.accounts.lamps, life := t.accounts.life })
    (saved : t.store.accounts = s.store.accounts) : t.AccountsLegal := by
  obtain ⟨⟨-, -, weights, history, replaced⟩, ticks, store⟩ := h
  rw [State.AccountsLegal, saved]
  refine ⟨⟨lamps .a, lamps .b, ?_⟩, ?_, store⟩ <;> rw [rest]
  exacts [⟨weights, history, replaced⟩, ticks]

theorem State.AccountsLegal.setAccount {s : State} (h : s.AccountsLegal) (l : Lamp) {x : LampAccount} (hx : x.Legal) :
    (s.setAccount l x).AccountsLegal := by
  refine h.withLamps (fun m => ?_) rfl rfl
  by_cases hm : m = l
  · subst hm; rwa [State.setAccount_account]
  · rw [State.setAccount_account_ne x hm]; exact h.account m

theorem State.AccountsLegal.recomputeLife {s : State} (h : s.AccountsLegal) (l : Lamp) : (s.recomputeLife l).AccountsLegal :=
  h.withLamps (fun m => by rw [State.recomputeLife_account]; exact h.account m)
    (by rw [State.recomputeLife_accounts]) (by rw [State.recomputeLife_store])

theorem State.AccountsLegal.save {s : State} (h : s.AccountsLegal) : s.saveAccounts.AccountsLegal :=
  ⟨h.1, Nat.zero_le _, fun _ hx => by cases hx; exact h.1⟩

theorem State.AccountsLegal.frame {s t : State} (h : s.AccountsLegal) (accounts : t.accounts = s.accounts)
    (saved : t.store.accounts = s.store.accounts) : t.AccountsLegal := by
  rw [State.AccountsLegal, accounts, saved]; exact h

/-- R1, R2, R7, R21: every change of the LAU keeps it in range. -/
theorem accountsLegal_kept : KeptByAccounts State.AccountsLegal where
  frame := State.AccountsLegal.frame
  save := State.AccountsLegal.save
  pulse l h := (h.setAccount l (LampAccount.chargePulse_legal (h.account l) _)).recomputeLife l
  dropout l h := h.setAccount l (LampAccount.chargeDropout_legal (h.account l))
  tick {s} h := by
    refine h.withLamps (fun l => ?_) s.tickLit_rest.1 (by rw [s.tickLit_rest.2])
    rw [State.tickLit_account]
    split
    exacts [LampAccount.chargeMinute_legal (h.account l) _ _, h.account l]
  count {s} h := by
    unfold State.countLitTick
    split
    · next below => exact ⟨h.1, by simp only [Config.litTickSave] at below ⊢; omega, h.2.2⟩
    · exact h.save
  thresholds l _ _ _ low high warn grace h :=
    (h.setAccount l (LampAccount.thresholds_legal (h.account l) low high warn grace)).recomputeLife l
  weights hx h := by
    obtain ⟨⟨a, b, -, rest⟩, others⟩ := h
    exact ⟨⟨a, b, hx, rest⟩, others⟩
  snapshot _ h := h

/-- R19, R20: so does a replacement. -/
theorem State.AccountsLegal.renewed {s : State} (h : s.AccountsLegal) (l : Lamp) : (s.renewed l).AccountsLegal := by
  obtain ⟨-, -, -, -, -, thresholds⟩ := h.account l
  have retired : (s.retireLamp l).AccountsLegal := by
    obtain ⟨⟨a, b, weights, -, -⟩, rest⟩ := h
    have noted (record : HistoryRecord) (n : Nat) : State.AccountsLegal { s with
        accounts.history := (record :: s.accounts.history).take Config.historyMax
        accounts.replacements := satAdd Config.countMax s.accounts.replacements n } :=
      ⟨⟨a, b, weights, List.length_take_le _ _, satAdd_le _ _ _⟩, rest⟩
    exact (noted _ 1).setAccount l
      ⟨Nat.zero_le _, Nat.zero_le _, Nat.zero_le _, Nat.zero_le _, Nat.zero_le _, thresholds⟩
  exact ⟨retired.1, retired.2⟩

/-- R22, R172: so does a restore. -/
theorem accountsLegal_restored : KeptByRestore State.AccountsLegal where
  restored {s} h := by
    refine ⟨?_, Nat.zero_le _, h.2.2⟩
    have saved : (s.store.accounts.getD newSavedAccounts).Legal := by
      cases hs : s.store.accounts with
      | none => decide
      | some x => exact h.2.2 x hs
    exact saved
  merged {s t} done hs ht := by
    refine ⟨hs.1, hs.2.1, ?_⟩
    simp only [Store.merge]
    split
    exacts [ht.2.2, hs.2.2]

/-! ### Life states (R10) -/

theorem State.lifeCurrent_iff (s : State) : s.LifeCurrent ↔ ∀ l, s.accounts.life.get l = (s.account l).lifeState :=
  ⟨fun ⟨a, b⟩ l => by cases l; exacts [a, b], fun h => ⟨h .a, h .b⟩⟩

/-- R10: a recomputation after a change of one account makes every life state current again. -/
theorem State.LifeCurrent.recomputeLife {s : State} (h : s.LifeCurrent) (l : Lamp) (x : LampAccount) :
    ((s.setAccount l x).recomputeLife l).LifeCurrent := by
  rw [State.lifeCurrent_iff] at h ⊢
  intro m
  by_cases hm : m = l
  · subst hm; rw [State.recomputeLife_same, State.recomputeLife_account]
  · rw [State.recomputeLife_other hm, State.recomputeLife_account, State.setAccount_account_ne x hm]; exact h m

/-- R10: every change of the LAU leaves the life states current. -/
theorem lifeCurrent_kept : KeptByAccounts State.LifeCurrent where
  frame h accounts _ := by rw [State.LifeCurrent, accounts]; exact h
  save h := h
  pulse l h := h.recomputeLife l _
  dropout {s} l h := by
    rw [State.lifeCurrent_iff] at h ⊢
    intro m
    by_cases hm : m = l
    · subst hm; rw [State.setAccount_account]; exact h m
    · rw [State.setAccount_account_ne _ hm]; exact h m
  tick {s} h := by
    rw [State.lifeCurrent_iff] at h ⊢
    intro l
    rw [State.tickLit_life]
    split
    · rfl
    · next dark => rw [State.tickLit_account, if_neg dark]; exact h l
  count {s} h := by
    unfold State.countLitTick
    split <;> exact h
  thresholds l _ _ _ _ _ _ _ h := h.recomputeLife l _
  weights _ h := h
  snapshot _ h := h

theorem State.LifeCurrent.renewed {s : State} (h : s.LifeCurrent) (l : Lamp) : (s.renewed l).LifeCurrent := by
  obtain ⟨a, b⟩ := h
  cases l
  exacts [⟨rfl, b⟩, ⟨a, rfl⟩]

theorem lifeCurrent_restored : KeptByRestore State.LifeCurrent where
  restored _ := ⟨rfl, rfl⟩
  merged _ h _ := h

/-! ### Counters (R7) -/

/-- R7: no counter of `y` is below that of `x`. -/
def LampAccount.CountersLE (x y : LampAccount) : Prop :=
  x.wear ≤ y.wear ∧ x.fullMinutes ≤ y.fullMinutes ∧ x.ecoMinutes ≤ y.ecoMinutes ∧ x.strikes ≤ y.strikes ∧ x.dropouts ≤ y.dropouts

namespace LampAccount.CountersLE

theorem refl (x : LampAccount) : x.CountersLE x := ⟨le_rfl, le_rfl, le_rfl, le_rfl, le_rfl⟩

theorem trans {x y z : LampAccount} (xy : x.CountersLE y) (yz : y.CountersLE z) : x.CountersLE z := by
  obtain ⟨w, f, e, s, d⟩ := xy
  obtain ⟨w', f', e', s', d'⟩ := yz
  exact ⟨w.trans w', f.trans f', e.trans e', s.trans s', d.trans d'⟩

theorem chargePulse {x : LampAccount} (h : x.Legal) (w : WearWeights) : x.CountersLE (x.chargePulse w) := by
  obtain ⟨wear, -, -, strikes, -⟩ := h
  exact ⟨le_satAdd _ wear, le_rfl, le_rfl, le_satAdd _ strikes, le_rfl⟩

theorem chargeDropout {x : LampAccount} (h : x.Legal) : x.CountersLE x.chargeDropout := by
  obtain ⟨-, -, -, -, dropouts, -⟩ := h
  exact ⟨le_rfl, le_rfl, le_rfl, le_rfl, le_satAdd _ dropouts⟩

theorem chargeMinute {x : LampAccount} (h : x.Legal) (w : WearWeights) (eco : Bool) : x.CountersLE (x.chargeMinute w eco) := by
  obtain ⟨wear, full, ecos, -⟩ := h
  cases eco
  exacts [⟨le_satAdd _ wear, le_satAdd _ full, le_rfl, le_rfl, le_rfl⟩, ⟨le_satAdd _ wear, le_rfl, le_satAdd _ ecos, le_rfl, le_rfl⟩]

end LampAccount.CountersLE

/-- The LAU is in range and no counter of lamp `l` is below that of the account `x`. -/
def State.AtLeast (l : Lamp) (x : LampAccount) (s : State) : Prop := s.AccountsLegal ∧ x.CountersLE (s.account l)

namespace State.AtLeast

variable {l : Lamp} {x : LampAccount} {s : State}

theorem setAccount (h : s.AtLeast l x) (m : Lamp) {y : LampAccount} (legal : y.Legal) (le : m = l → (s.account l).CountersLE y) :
    (s.setAccount m y).AtLeast l x := by
  refine ⟨h.1.setAccount m legal, ?_⟩
  by_cases hm : m = l
  · subst hm; rw [State.setAccount_account]; exact h.2.trans (le rfl)
  · rw [State.setAccount_account_ne y (Ne.symm hm)]; exact h.2

theorem recomputeLife (h : s.AtLeast l x) (m : Lamp) : (s.recomputeLife m).AtLeast l x :=
  ⟨h.1.recomputeLife m, by rw [State.recomputeLife_account]; exact h.2⟩

end State.AtLeast

/-- R7: no change of the LAU but a replacement and a restore lowers a counter. -/
theorem atLeast_kept (l : Lamp) (x : LampAccount) : KeptByAccounts (State.AtLeast l x) where
  frame h accounts saved := ⟨h.1.frame accounts saved, by rw [State.account, accounts]; exact h.2⟩
  save h := ⟨h.1.save, h.2⟩
  pulse m h := by
    refine (h.setAccount m (LampAccount.chargePulse_legal (h.1.account m) _) ?_).recomputeLife m
    rintro rfl
    exact .chargePulse (h.1.account _) _
  dropout m h := by
    refine h.setAccount m (LampAccount.chargeDropout_legal (h.1.account m)) ?_
    rintro rfl
    exact .chargeDropout (h.1.account _)
  tick {s} h := by
    refine ⟨accountsLegal_kept.tick h.1, h.2.trans ?_⟩
    rw [State.tickLit_account]
    split
    exacts [.chargeMinute (h.1.account l) _ _, .refl _]
  count {s} h := by
    refine ⟨accountsLegal_kept.count h.1, ?_⟩
    unfold State.countLitTick
    split <;> exact h.2
  thresholds m _ _ _ low high warn grace h := by
    refine (h.setAccount m (LampAccount.thresholds_legal (h.1.account m) low high warn grace) ?_).recomputeLife m
    rintro rfl
    exact .refl _
  weights hx h := ⟨accountsLegal_kept.weights hx h.1, h.2⟩
  snapshot _ h := h

/-- R19: the replacement of the other lamp leaves the counters of lamp `l`. -/
theorem State.AtLeast.renewed {l m : Lamp} (hm : m ≠ l) (x : LampAccount) {s : State} (h : s.AtLeast l x) :
    (s.renewed m).AtLeast l x := by
  refine ⟨h.1.renewed m, ?_⟩
  have other : (s.renewed m).account l = s.account l := PerLamp.get_set_ne _ _ (Ne.symm hm)
  rw [other]
  exact h.2

/-- R168, R170: the frame of a well-formed command spells it and fits. -/
theorem frame_spells {c : Instr} {p : Port} {code : Byte} {d : List Byte} (hf : c.frame? = some (p, code, d)) (wf : c.wf = true) :
    decodeFrame p code d = c ∧ d.length ≤ 64 := by
  have fits (fit : payloadOk d = true) : d.length ≤ 64 := of_decide_eq_true fit
  cases c
  case unknownRequest =>
    cases hf
    obtain ⟨unknown, fit⟩ := Bool.and_eq_true_iff.mp wf
    exact ⟨decodeFrame_unknown (Option.isNone_iff_eq_none.mp unknown) p d, fits fit⟩
  all_goals cases hf
  all_goals exact ⟨rfl, fits wf⟩

/-- R7: a command that is a frame, on the ports in the states that `CountersNeverFall` admits. -/
theorem State.AtLeast.exec_frame {l : Lamp} {x : LampAccount} {s t : State} {c : Instr} {p : Port} {code : Byte} {d : List Byte}
    (h : s.AtLeast l x) (hf : c.frame? = some (p, code, d)) (wf : c.wf = true)
    (port : p = .facility → s.ports.facility.receive = .hunt ∨ s.ports.facility.receive = .replying)
    (other : c ≠ .lampReplaced .facility [lampByte l]) (ht : exec c s = .next t) : t.AtLeast l x := by
  rw [exec_of_frame hf] at ht
  obtain ⟨spelled, short⟩ := frame_spells hf wf
  refine carry_keeps (f := fun s => s.sendFrame p code d) ((atLeast_kept l x).sendFrame short ?_ h) h ht
  by_cases hp : p = .facility
  · subst hp
    obtain hunt | replying := port rfl
    · refine .inr (.inr ⟨hunt, ?_⟩)
      rintro - rfl m rfl s hs
      refine hs.renewed (fun hm => other ?_)
      rw [← spelled, hm]
      rfl
    · exact .inr (.inl replying)
  · exact .inl (fun _ _ facility => absurd facility hp)

end Sys2Proof.Machine

/-- Settles O59: the counters of the account at the start are a floor that every command but a renewal keeps. -/
theorem countersNeverFall : Obligations.CountersNeverFall := by
  intro s t c l legal wf ht facility noReset noLoss notReplaced
  have start : s.AtLeast l (s.account l) := ⟨legal, .refl _⟩
  have kept := Sys2Proof.Machine.atLeast_kept l (s.account l)
  suffices t.AtLeast l (s.account l) from this.2
  cases hf : c.frame? with
  | some frame =>
    obtain ⟨p, code, d⟩ := frame
    refine start.exec_frame hf wf ?_ notReplaced ht
    rintro rfl
    obtain hunt | replying | ⟨noFrame, -⟩ := facility
    exacts [.inl hunt, .inr replying, absurd hf (noFrame code d)]
  | none =>
    by_cases byte : ∃ p b, c = .portByteReceived p b
    · obtain ⟨p, b, rfl⟩ := byte
      refine Sys2Proof.Machine.carry_keeps (kept.receiveByte b ?_ start) start ht
      rintro checking code d rfl
      have check : s.ports.facility.receive = .check := checking
      obtain hunt | replying | ⟨-, noByte⟩ := facility
      · rw [hunt] at check; cases check
      · rw [replying] at check; cases check
      · exact absurd rfl (noByte check b)
    · exact kept.exec_event hf (fun p b hc => byte ⟨p, b, hc⟩) noReset noLoss start ht

/-- Settles O52: every change of the LAU keeps the ranges, and no step changes the LAU otherwise. -/
theorem accountsStayInRange : Obligations.AccountsStayInRange := fun _ _ h ht =>
  Sys2Proof.Machine.accountsLegal_kept.step Sys2Proof.Machine.accountsLegal_restored (fun l _ hs => hs.renewed l) h ht

/-- Settles O55: every change of an account is followed by the recomputation of its life state. -/
theorem lifeStatesStayCurrent : Obligations.LifeStatesStayCurrent := fun _ _ h ht =>
  Sys2Proof.Machine.lifeCurrent_kept.step Sys2Proof.Machine.lifeCurrent_restored (fun l _ hs => hs.renewed l) h ht
end

section
/-! PROOFS. Orders to the two lamps, the run of hand-offs that change nothing, and what a session's start, return, re-check and stop
leave. -/

namespace Sys2Proof.Machine

/-! ### Changes of the power registers beside other changes -/

theorem State.ordered_power (s : State) (q : Power) (l : Lamp) :
    State.ordered l { s with power := q } = { State.ordered l s with power := q } := by
  have same : ({ s with power := q } : State).condition l = s.condition l := rfl
  simp only [State.ordered, same]
  cases s.condition l <;> rfl

theorem State.stopOrdered_power (s : State) (q : Power) (l : Lamp) :
    State.stopOrdered l { s with power := q } = { State.stopOrdered l s with power := q } := by
  have same : ({ s with power := q } : State).condition l = s.condition l := rfl
  simp only [State.stopOrdered, same]
  cases s.condition l <;> rfl

/-- An order that leaves the power registers alone may be given before or after a change of them. -/
theorem inTurn_power {f : Lamp → State → State} (h : ∀ s q l, f l { s with power := q } = { f l s with power := q })
    (first : Lamp) (sel : PerLamp Bool) (s : State) (q : Power) :
    inTurn first sel f { s with power := q } = { inTurn first sel f s with power := q } := by
  have one (l : Lamp) (t : State) : (if sel.get l then f l { t with power := q } else { t with power := q }) =
      { (if sel.get l then f l t else t) with power := q } := by
    split
    exacts [h t q l, rfl]
  unfold inTurn
  simp only
  rw [one first s, one first.other]

/-- What every single service keeps, the services of both lamps keep. -/
theorem inTurn_keeps {P : State → Prop} {f : Lamp → State → State} (h : ∀ l s, P s → P (f l s)) (first : Lamp) (sel : PerLamp Bool)
    {s : State} (hs : P s) : P (inTurn first sel f s) := by
  have one (l : Lamp) (t : State) (ht : P t) : P (if sel.get l then f l t else t) := by
    split
    exacts [h l t ht, ht]
  exact one _ _ (one _ _ hs)

/-- Hand-offs of two services, lamp `first` before the other. -/
def outcomes (first : Lamp) (sel : PerLamp Bool) (g : Lamp → List Handoff) : List Handoff :=
  (if sel.get first then g first else []) ++ (if sel.get first.other then g first.other else [])

theorem mem_outcomes {first : Lamp} {sel : PerLamp Bool} {g : Lamp → List Handoff} {x : Handoff} :
    x ∈ outcomes first sel g ↔ ∃ l, sel.get l = true ∧ x ∈ g l := by
  have both (P : Lamp → Prop) : (∃ l, P l) ↔ P first ∨ P first.other := by
    constructor
    · rintro ⟨l, hl⟩
      cases first <;> cases l <;> simp_all [Lamp.other]
    · rintro (h | h) <;> exact ⟨_, h⟩
  rw [both]
  simp [outcomes, List.mem_ite_nil_right]

/-- Log 5: the service of a set of lamps is the service of one before the other, where each service is what `f` and `g` say as long
as the lamp has not been touched since the start (`Q`). -/
theorem forLamps_eq_inTurn {Q : Lamp → State → Prop} {serve : Lamp → Work → Work} {f : Lamp → State → State}
    {g : Lamp → List Handoff} {sel : PerLamp Bool} {w : Work}
    (served : ∀ l (v : Work), sel.get l = true → Q l v.s → serve l v = ⟨f l v.s, v.out ++ g l⟩)
    (untouched : ∀ l s, Q l.other s → Q l.other (f l s)) (start : ∀ l, Q l w.s) :
    ∃ first : Lamp, forLamps sel serve w = ⟨inTurn first sel f w.s, w.out ++ outcomes first sel g⟩ := by
  refine ⟨if Config.lampBFirst then .b else .a, ?_⟩
  rw [forLamps_cases]
  have a := served .a
  have b := served .b
  have ba := untouched .b
  have ab := untouched .a
  obtain ⟨selA, selB⟩ := sel
  cases Config.lampBFirst <;> cases selA <;> cases selB <;>
    simp_all [PerLamp.get, inTurn, outcomes, Lamp.other]

/-! ### Hand-offs that change nothing -/

theorem Work.take_self {x : Handoff} {w : Work} (bare : w.takeBare x = w) (blank : w.s.BlankLegal) : w.take x = w := by
  have same : w.s.reportPower w.s.power.number = w.s := if_pos rfl
  simp only [Work.take, bare, Work.edit, same]
  rw [blank]

/-- Hand-offs that the PDU takes without a change. -/
theorem Work.run_idle {s : State} {idle out : List Handoff} (h : ∀ x ∈ idle, ∀ rest, Work.take x ⟨s, rest⟩ = ⟨s, rest⟩) (n : Nat) :
    Work.run (n + idle.length) ⟨s, idle ++ out⟩ = Work.run n ⟨s, out⟩ := by
  induction idle with
  | nil => rfl
  | cons x rest ih =>
    rw [List.length_cons, ← Nat.add_assoc, List.cons_append, Work.run_cons, h x (by simp)]
    exact ih (fun y hy => h y (by simp [hy]))

theorem Work.run_all_idle {s : State} {out : List Handoff} (h : ∀ x ∈ out, ∀ rest, Work.take x ⟨s, rest⟩ = ⟨s, rest⟩) (n : Nat) :
    Work.run n ⟨s, out⟩ = s := by
  induction n generalizing out with
  | zero => rfl
  | succ n ih =>
    cases out with
    | nil => rfl
    | cons x rest =>
      rw [Work.run_cons, h x (by simp)]
      exact ih (fun y hy => h y (by simp [hy]))

/-- R65: outside ON the blank timer is stopped and not spent. -/
theorem State.blankLegal_iff_off {s : State} (h : s.power.state ≠ .on) :
    s.BlankLegal ↔ s.power.blankTimer = none ∧ s.power.blankSpent = false := by
  have off : s.blankTiming = false := by simp [State.blankTiming, h]
  rw [State.BlankLegal, State.followBlankTimer_off off]
  constructor
  · intro same
    exact ⟨(congrArg (fun t : State => t.power.blankTimer) same).symm, (congrArg (fun t : State => t.power.blankSpent) same).symm⟩
  · rintro ⟨timer, spent⟩
    rw [← timer, ← spent]

/-- R57, R61: a changed life state is taken without a change where no demand is held and the projector has left STANDBY. -/
theorem Work.take_lifeChanged_self {s : State} (l : Lamp) (rest : List Handoff) (state : s.power.state ≠ .standby)
    (held : s.power.held = false) (blank : s.BlankLegal) : Work.take (.lifeChanged l) ⟨s, rest⟩ = ⟨s, rest⟩ := by
  refine Work.take_self ?_ blank
  simp [Work.takeBare, Work.recheckIdle, state, held]

/-- R58: while a lamp is STRIKING, WARMING stays. -/
theorem Work.take_striking_warming {s : State} (l : Lamp) (rest : List Handoff) (state : s.power.state = .warming)
    (striking : s.anyStriking = true) (blank : s.BlankLegal) : Work.take (.changed l .striking) ⟨s, rest⟩ = ⟨s, rest⟩ := by
  refine Work.take_self ?_ blank
  simp [Work.takeBare, Work.followLamp, state, striking]

/-! ### Strike orders (R26, R28) -/

/-- What a strike order to lamp `l` depends on stands in `t` as in `s`. -/
def State.SameFor (s t : State) (l : Lamp) : Prop :=
  t.condition l = s.condition l ∧ t.account l = s.account l ∧ t.accounts.life = s.accounts.life ∧
  t.accounts.weights = s.accounts.weights ∧ t.lines = s.lines ∧ t.lamps.thermalHold = s.lamps.thermalHold

theorem State.SameFor.ordered {s t : State} {l : Lamp} (h : s.SameFor t l.other) : s.SameFor (State.ordered l t) l.other := by
  have other : s.SameFor (State.ordered l t) l.other ↔ s.SameFor t l.other := by
    unfold State.ordered
    cases t.condition l <;> cases l <;> rfl
  exact other.mpr h

/-- R44, R21: a lamp that leaves STRIKING or LIT saves the account. -/
theorem Work.changeLamp_saving {w : Work} {l : Lamp} (h : (w.s.lampState l).savesOnLeaving = true) (c : LampCondition) :
    w.changeLamp l c = ⟨((w.s.setCondition l c).post (.lampState l) c.state.number).saveAccounts, w.out ++ [.changed l c.state]⟩ := by
  simp only [Work.changeLamp, Work.moveLamp, Work.edit, Work.hand, h, if_true]

theorem Work.changeLamp_plain {w : Work} {l : Lamp} (h : (w.s.lampState l).savesOnLeaving = false) (c : LampCondition) :
    w.changeLamp l c = ⟨(w.s.setCondition l c).post (.lampState l) c.state.number, w.out ++ [.changed l c.state]⟩ := by
  simp only [Work.changeLamp, Work.moveLamp, Work.edit, Work.hand, h, Bool.false_eq_true, if_false]

/-- R10: a recomputation that finds the life state as it is held. -/
theorem Work.recomputeLife_self {w : Work} {l : Lamp} (h : (w.s.account l).lifeState = w.s.accounts.life.get l) :
    w.recomputeLife l = w := by
  have same : w.s.recomputeLife l = w.s := if_pos h
  simp only [Work.recomputeLife, Work.edit, same, if_true]

/-- R28: the hand-off of a strike order: a DARK lamp has begun to strike. -/
def State.strikeNews (s : State) (l : Lamp) : List Handoff := if s.condition l = .dark then [.changed l .striking] else []

/-- R5: a pulse that leaves the life state as it is, the LIT line being low. -/
theorem Work.pulse_eq {w : Work} {l : Lamp} (low : w.s.lines.lit.get l = false)
    (kept : (w.s.pulsed l).lifeState = w.s.accounts.life.get l) : w.pulse l = ⟨w.s.setAccount l (w.s.pulsed l), w.out⟩ := by
  have charged : (Work.edit w fun s => s.setAccount l ((s.account l).chargePulse s.accounts.weights)).recomputeLife l =
      ⟨w.s.setAccount l (w.s.pulsed l), w.out⟩ := by
    rw [Work.recomputeLife_self]
    · rfl
    · rw [Work.edit_s, State.setAccount_account]; exact kept
  unfold Work.pulse
  simp only [charged, State.setAccount_lines, low, Bool.false_eq_true, if_false]

/-- R28: a strike order to a DARK lamp that may be struck and strikes plainly. -/
theorem Work.beginStrike_eq {v : Work} {l : Lamp} (dark : v.s.condition l = .dark) (low : v.s.lines.lit.get l = false)
    (kept : (v.s.pulsed l).lifeState = v.s.accounts.life.get l) :
    v.beginStrike l = ⟨State.ordered l v.s, v.out ++ [.changed l .striking]⟩ := by
  have unsaved : (v.s.lampState l).savesOnLeaving = false := by rw [State.lampState, dark]; rfl
  rw [Work.beginStrike, Work.changeLamp_plain unsaved, Work.pulse_eq (by exact low) (by exact kept)]
  simp only [State.ordered, dark]
  rfl

/-- R28: a strike order to an available lamp that strikes plainly. -/
theorem Work.strike_eq {s : State} {l : Lamp} (available : s.available l = true)
    (plain : s.condition l = .dark → s.lines.lit.get l = false ∧ (s.pulsed l).lifeState = s.accounts.life.get l)
    {v : Work} (same : s.SameFor v.s l) : Work.strike l v = ⟨State.ordered l v.s, v.out ++ s.strikeNews l⟩ := by
  obtain ⟨condition, account, life, weights, lines, hold⟩ := same
  unfold Work.strike State.strikeNews
  rw [condition]
  cases hc : s.condition l with
  | dark =>
    obtain ⟨low, kept⟩ := plain hc
    have eligible : v.s.eligible l = true := by
      simp only [State.available, State.lampState, hc] at available
      simp only [State.eligible, State.lampState, condition, life, hold, hc]
      simpa [LampCondition.state] using available
    have pulsed : v.s.pulsed l = s.pulsed l := by simp only [State.pulsed, account, weights]
    simp only [eligible, if_true]
    exact Work.beginStrike_eq (condition.trans hc) (by rw [lines, low]) (by rw [pulsed, kept, life])
  | window a b c => simp [State.ordered, condition, hc]
  | retry a b => simp [State.ordered, condition, hc]
  | lit => simp [State.ordered, condition, hc]
  | cooling timer pending => simp [State.ordered, condition, hc, Work.edit]; rfl
  | failed fan => simp [State.available, State.lampState, hc, LampCondition.state] at available

/-- R46: the orders to the lamps of a session that strike plainly, in one order or the other (log 5). -/
theorem Work.strikeSession_eq {s : State} {out : List Handoff} (available : ∀ l, s.power.session.get l = true → s.available l = true)
    (plain : s.StrikesPlainly s.power.session) :
    ∃ first : Lamp, Work.strikeSession ⟨s, out⟩ =
      ⟨inTurn first s.power.session State.ordered s, out ++ outcomes first s.power.session s.strikeNews⟩ :=
  forLamps_eq_inTurn (Q := fun l t => s.SameFor t l) (fun l _ hl same => Work.strike_eq (available l hl) (plain l hl) same)
    (fun _ _ same => same.ordered) (fun _ => ⟨rfl, rfl, rfl, rfl, rfl, rfl⟩)

end Sys2Proof.Machine
end

section
/-! PROOFS. What the start, the return and the re-check of a session leave (R57, R60, R61), and what their end leaves (R62). -/

namespace Sys2Proof.Machine

/-! ### The lamps after orders -/

theorem State.ordered_condition_other (s : State) (l : Lamp) : (State.ordered l s).condition l.other = s.condition l.other := by
  unfold State.ordered
  split <;> cases l <;> rfl

theorem State.ordered_window {s : State} {l : Lamp} (h : s.condition l = .dark) : (State.ordered l s).condition l = .window 1 3 false := by
  unfold State.ordered
  rw [h]
  cases l <;> rfl

/-- R28: a session lamp that was DARK is in its first ignition window: an order to one lamp leaves the other in its condition. -/
theorem State.inTurn_window {s : State} {first l : Lamp} {sel : PerLamp Bool} (hl : sel.get l = true) (h : s.condition l = .dark) :
    (inTurn first sel State.ordered s).condition l = .window 1 3 false := by
  have other (t : State) (m : Lamp) : (if sel.get m then State.ordered m t else t).condition m.other = t.condition m.other := by
    split
    exacts [t.ordered_condition_other m, rfl]
  unfold inTurn
  simp only
  by_cases hf : l = first
  · subst hf
    have back := other (if sel.get l = true then State.ordered l s else s) l.other
    have twice : l.other.other = l := by cases l <;> rfl
    rw [twice] at back
    rw [back, if_pos hl]
    exact State.ordered_window h
  · obtain rfl : l = first.other := by cases l <;> cases first <;> simp_all [Lamp.other]
    rw [if_pos hl]
    refine State.ordered_window ?_
    rw [other]
    exact h

theorem State.inTurn_striking {s : State} {first l : Lamp} {sel : PerLamp Bool} (hl : sel.get l = true) (h : s.condition l = .dark) :
    (inTurn first sel State.ordered s).lampState l = .striking := congrArg LampCondition.state (State.inTurn_window hl h)

/-! ### The chosen session (R45, R46, R63) -/

theorem State.chooseSession_eq (s : State) (p : LampPolicy) : s.chooseSession p = s.sessionBy p := by
  unfold State.chooseSession State.sessionBy
  cases s.available .a <;> cases s.available .b <;> cases p <;> simp

theorem State.sessionBy_available {s : State} {p : LampPolicy} {l : Lamp} (h : (s.sessionBy p).get l = true) :
    s.available l = true := by
  rw [← State.chooseSession_eq] at h
  cases ha : s.available .a <;> cases hb : s.available .b <;> cases p <;> cases l <;>
    simp_all [State.chooseSession, PerLamp.get]

theorem State.startLevel_eq (s : State) : s.startLevel = s.levelOnLeaving := by
  unfold State.startLevel State.levelOnLeaving
  cases s.activeBooking with
  | none => rfl
  | some b => cases hm : b.config.mode <;> simp [hm, BookingMode.level]

theorem State.usable_iff (s : State) : s.Usable ↔ (!s.lamps.thermalHold && s.anyAvailable) = true := by
  simp [State.Usable, State.anyAvailable]

/-! ### A session begins (R57) -/

/-- Every hand-off of `rest` tells that a life state has changed. -/
def LifeNews (rest : List Handoff) : Prop := ∀ x ∈ rest, ∃ l, x = .lifeChanged l

theorem mem_strikeNews {s : State} {l : Lamp} {x : Handoff} : x ∈ s.strikeNews l ↔ s.condition l = .dark ∧ x = .changed l .striking := by
  unfold State.strikeNews
  split <;> simp_all

theorem State.anyStriking_of {s : State} {l : Lamp} (h : s.lampState l = .striking) : s.anyStriking = true := by
  cases l <;> simp [State.anyStriking, h]

/-- In WARMING, with every lamp that is said to strike STRIKING, life changes and begun strikes change nothing more. -/
theorem Work.run_warming {s : State} (out : List Handoff) (state : s.power.state = .warming) (held : s.power.held = false)
    (blank : s.BlankLegal)
    (told : ∀ x ∈ out, (∃ l, x = .lifeChanged l) ∨ ∃ l, x = .changed l .striking ∧ s.lampState l = .striking) (n : Nat) :
    Work.run n ⟨s, out⟩ = s := by
  refine Work.run_all_idle (fun x hx rest => ?_) n
  obtain ⟨l, rfl⟩ | ⟨l, rfl, striking⟩ := told x hx
  · exact Work.take_lifeChanged_self l rest (by rw [state]; decide) held blank
  · exact Work.take_striking_warming l rest state (State.anyStriking_of striking) blank

/-- R56, R65: what follows a hand-off that changes the power registers outside ON. -/
theorem State.reported_off {t : State} {before n : Nat} (number : t.power.number = n) (changed : n ≠ before)
    (off : t.power.state ≠ .on) : (t.reportPower before).followBlankTimer =
      { t.post .powerState n with power := { t.power with blankTimer := none, blankSpent := false } } := by
  subst number
  have report : t.reportPower before = t.post .powerState t.power.number := if_neg changed
  rw [report, State.followBlankTimer_off (by simp [State.blankTiming, off])]
  rfl

theorem State.unreported_off {t : State} {before : Nat} (same : t.power.number = before) (off : t.power.state ≠ .on) :
    (t.reportPower before).followBlankTimer = { t with power := { t.power with blankTimer := none, blankSpent := false } } := by
  have report : t.reportPower before = t := if_pos same
  rw [report, State.followBlankTimer_off (by simp [State.blankTiming, off])]

/-- R57: the state that `leaving` names is WARMING, with every lamp that was struck STRIKING. -/
theorem State.leaving_eq (s : State) (first : Lamp) :
    s.leaving first = { (inTurn first (s.sessionBy s.power.settings.policy) State.ordered s).post .powerState 1 with
      power := { s.power with
        state := .warming, held := false, session := s.sessionBy s.power.settings.policy
        latched := some s.power.settings.policy, level := s.levelOnLeaving, blankTimer := none, blankSpent := false } } := by
  unfold State.leaving
  simp only
  rw [inTurn_power State.ordered_power]
  rfl

/-- R57: the projector leaves STANDBY with what the step has still to tell of life states. -/
theorem Work.run_leaveStandby {s : State} {rest : List Handoff} {before : Nat}
    (plain : s.StrikesPlainly (s.sessionBy s.power.settings.policy)) (degraded : s.power.degraded = false) (hb : before ≠ 1)
    (news : LifeNews rest) : ∃ first : Lamp, ∀ n,
      Work.run n ((Work.leaveStandby ⟨s, rest⟩).edit fun t => (t.reportPower before).followBlankTimer) = s.leaving first := by
  let session := s.sessionBy s.power.settings.policy
  let q : Power := { s.power with latched := some s.power.settings.policy, level := s.levelOnLeaving, session := session }
  have chosen : Work.leaveStandby ⟨s, rest⟩ = (Work.strikeSession ⟨{ s with power := { s.power with
      latched := some s.power.settings.policy, level := s.startLevel
      session := s.chooseSession s.power.settings.policy } }, rest⟩).edit
      fun t => { t with power.state := .warming, power.held := false } := rfl
  rw [State.startLevel_eq, State.chooseSession_eq] at chosen
  obtain ⟨first, struck⟩ := Work.strikeSession_eq (s := { s with power := q }) (out := rest)
    (fun l hl => State.sessionBy_available (s := s) hl) plain
  refine ⟨first, fun n => ?_⟩
  have final : (Work.leaveStandby ⟨s, rest⟩).edit (fun t => (t.reportPower before).followBlankTimer) =
      ⟨s.leaving first, rest ++ outcomes first session s.strikeNews⟩ := by
    rw [chosen, struck, inTurn_power State.ordered_power, State.leaving_eq]
    simp only [Work.edit]
    rw [State.reported_off (n := 1) ?_ hb.symm (by simp)]
    · rfl
    · simp [Power.number, PowerState.number, show q.degraded = false from degraded]
  rw [final]
  refine Work.run_warming _ (by rw [State.leaving_eq]) (by rw [State.leaving_eq]) ?_ (fun x hx => ?_) n
  · rw [State.blankLegal_iff_off] <;> rw [State.leaving_eq]
    exacts [⟨rfl, rfl⟩, nofun]
  · obtain hx | hx := List.mem_append.mp hx
    · exact .inl (news x hx)
    · obtain ⟨l, hl, hx⟩ := mem_outcomes.mp hx
      obtain ⟨dark, rfl⟩ := mem_strikeNews.mp hx
      refine .inr ⟨l, rfl, ?_⟩
      rw [State.leaving_eq]
      exact State.inTurn_striking (s := s) hl dark

/-! ### A session returns (R60, R61) -/

/-- Some lamp of the session is struck at once, being DARK. -/
def State.strikesNow (s : State) (session : PerLamp Bool) : Bool :=
  (session.a && s.lampState .a == .dark) || (session.b && s.lampState .b == .dark)

theorem State.lampState_dark_iff (s : State) (l : Lamp) : s.lampState l = .dark ↔ s.condition l = .dark := by
  unfold State.lampState
  cases s.condition l <;> simp [LampCondition.state]

theorem State.strikesNow_iff {s : State} {session : PerLamp Bool} :
    s.strikesNow session = true ↔ ∃ l, session.get l = true ∧ s.condition l = .dark := by
  have both (P : Lamp → Prop) : (∃ l, P l) ↔ P .a ∨ P .b :=
    ⟨fun ⟨l, h⟩ => by cases l; exacts [.inl h, .inr h], fun h => h.elim (fun h => ⟨_, h⟩) (fun h => ⟨_, h⟩)⟩
  rw [both]
  simp [State.strikesNow, PerLamp.get, State.lampState_dark_iff]

/-- The power registers with which a session returns. -/
def State.returnedPower (s : State) : Power := { s.power with
  latched := some s.policyCooling, session := s.sessionBy s.policyCooling, held := false, blankTimer := none, blankSpent := false }

/-- R60, R61: the notices of the orders, then POWER-STATE 3 if held is cleared. -/
def State.returnedOrders (s : State) (first : Lamp) : State :=
  let ordered := inTurn first (s.sessionBy s.policyCooling) State.ordered s
  if s.power.held then ordered.post .powerState 3 else ordered

theorem State.returning_eq (s : State) (first : Lamp) :
    s.returning first =
      if s.strikesNow (s.sessionBy s.policyCooling) then
        { (s.returnedOrders first).post .powerState 1 with power := { s.returnedPower with state := .warming } }
      else { s.returnedOrders first with power := s.returnedPower } := by
  unfold State.returning State.takingUp State.returnedOrders
  simp only
  rw [show ({ s with power := { s.power with latched := some s.policyCooling } } : State).lampState = s.lampState from rfl,
    inTurn_power State.ordered_power]
  show (if s.strikesNow (s.sessionBy s.policyCooling) then _ else _) = _
  cases s.strikesNow (s.sessionBy s.policyCooling) <;> cases s.power.held <;> rfl

theorem State.returnedOrders_lampState (s : State) (first l : Lamp) :
    (s.returnedOrders first).lampState l = (inTurn first (s.sessionBy s.policyCooling) State.ordered s).lampState l := by
  unfold State.returnedOrders
  simp only
  split <;> rfl

/-- R60: the choice of session lamps in COOLING-DOWN, reported, before the begun strikes are taken. -/
theorem Work.chooseCooling_reported {s : State} {rest : List Handoff} (state : s.power.state = .coolingDown) (usable : s.Usable)
    (plain : s.StrikesPlainly (s.sessionBy s.policyCooling)) (degraded : s.power.degraded = false) :
    ∃ first : Lamp, (Work.chooseCooling ⟨s, rest⟩).edit (fun t => (t.reportPower s.power.number).followBlankTimer) =
      ⟨{ s.returnedOrders first with power := s.returnedPower },
        rest ++ outcomes first (s.sessionBy s.policyCooling) s.strikeNews⟩ := by
  have chosen : Work.chooseCooling ⟨s, rest⟩ = Work.strikeSession ⟨{ s with power := { s.power with
      latched := some s.policyCooling, session := s.chooseSession s.policyCooling, held := false } }, rest⟩ := by
    have clear : (s.lamps.thermalHold || !s.anyAvailable) = false := by
      have := s.usable_iff.mp usable
      simp_all
    exact if_neg (show ¬ (s.lamps.thermalHold || !s.anyAvailable) = true by rw [clear]; decide)
  rw [State.chooseSession_eq] at chosen
  obtain ⟨first, struck⟩ := Work.strikeSession_eq (out := rest)
    (s := { s with power := { s.power with
      latched := some s.policyCooling, session := s.sessionBy s.policyCooling, held := false } })
    (fun l hl => State.sessionBy_available (s := s) hl) plain
  refine ⟨first, ?_⟩
  rw [chosen, struck, inTurn_power State.ordered_power]
  simp only [Work.edit]
  unfold State.returnedOrders
  cases held : s.power.held with
  | false =>
    rw [State.unreported_off (by simp [Power.number, held]) (by simp [state])]
    rfl
  | true =>
    rw [State.reported_off (n := 3) (by simp [Power.number, PowerState.number, state, degraded])
      (by simp [Power.number, PowerState.number, state, held, degraded]) (by simp [state])]
    rfl

/-- R58: the first strike of a returned session takes the projector to WARMING. -/
theorem Work.take_striking_returned {s : State} {first l : Lamp} (others : List Handoff) (state : s.power.state = .coolingDown)
    (degraded : s.power.degraded = false) (session : (s.sessionBy s.policyCooling).get l = true) :
    Work.take (.changed l .striking) ⟨{ s.returnedOrders first with power := s.returnedPower }, others⟩ =
      ⟨{ (s.returnedOrders first).post .powerState 1 with power := { s.returnedPower with state := .warming } }, others⟩ := by
  have bare : Work.takeBare (.changed l .striking) ⟨{ s.returnedOrders first with power := s.returnedPower }, others⟩ =
      ⟨{ s.returnedOrders first with power := { s.returnedPower with state := .warming } }, others⟩ := by
    have began : s.returnedPower.session.get l = true := session
    have clear : ({ s.returnedPower with state := .warming } : Power) =
        { s.returnedPower with state := .warming, degraded := false } :=
      congrArg (fun x => { s.returnedPower with state := .warming, degraded := x }) degraded
    rw [clear]
    simp only [Work.takeBare, Work.followLamp, show s.returnedPower.state = .coolingDown from state, began, Bool.and_self,
      if_true, Work.edit]
    rfl
  simp only [Work.take, bare, Work.edit]
  rw [State.reported_off (n := 1) (by simp [Power.number, PowerState.number, State.returnedPower, degraded])
    (by simp [Power.number, PowerState.number, State.returnedPower, state, degraded]) (by simp)]
  rfl

/-- R60, R61: in COOLING-DOWN a session returns, with what the step has still to tell of life states. -/
theorem Work.run_chooseCooling {s : State} {rest : List Handoff} (state : s.power.state = .coolingDown) (usable : s.Usable)
    (plain : s.StrikesPlainly (s.sessionBy s.policyCooling)) (degraded : s.power.degraded = false) (news : LifeNews rest) :
    ∃ first : Lamp, ∀ n, rest.length < n →
      Work.run n ((Work.chooseCooling ⟨s, rest⟩).edit fun t => (t.reportPower s.power.number).followBlankTimer) =
        s.returning first := by
  obtain ⟨first, reported⟩ := Work.chooseCooling_reported (rest := rest) state usable plain degraded
  refine ⟨first, fun n hn => ?_⟩
  obtain ⟨m, rfl⟩ := Nat.exists_eq_add_of_lt hn
  have idle : ∀ x ∈ rest, ∀ more, Work.take x ⟨{ s.returnedOrders first with power := s.returnedPower }, more⟩ =
      ⟨{ s.returnedOrders first with power := s.returnedPower }, more⟩ := by
    intro x hx more
    obtain ⟨l, rfl⟩ := news x hx
    exact Work.take_lifeChanged_self l more (by simp [State.returnedPower, state]) rfl
      ((State.blankLegal_iff_off (by simp [State.returnedPower, state])).mpr ⟨rfl, rfl⟩)
  rw [reported, show rest.length + m + 1 = (m + 1) + rest.length by omega, Work.run_idle idle, State.returning_eq]
  cases strikes : s.strikesNow (s.sessionBy s.policyCooling) with
  | false =>
    have none : outcomes first (s.sessionBy s.policyCooling) s.strikeNews = [] := by
      refine List.eq_nil_iff_forall_not_mem.mpr (fun x hx => ?_)
      obtain ⟨l, hl, hx⟩ := mem_outcomes.mp hx
      have := State.strikesNow_iff.mpr ⟨l, hl, (mem_strikeNews.mp hx).1⟩
      rw [strikes] at this
      cases this
    rw [none, Work.run_empty]
    rfl
  | true =>
    obtain ⟨l, hl, dark⟩ := State.strikesNow_iff.mp strikes
    have all : ∀ x ∈ outcomes first (s.sessionBy s.policyCooling) s.strikeNews, ∃ l, x = .changed l .striking ∧
        (s.sessionBy s.policyCooling).get l = true ∧ (s.returnedOrders first).lampState l = .striking := by
      intro x hx
      obtain ⟨l, hl, hx⟩ := mem_outcomes.mp hx
      obtain ⟨dark, rfl⟩ := mem_strikeNews.mp hx
      exact ⟨l, rfl, hl, by rw [State.returnedOrders_lampState]; exact State.inTurn_striking hl dark⟩
    have some : outcomes first (s.sessionBy s.policyCooling) s.strikeNews ≠ [] :=
      List.ne_nil_of_mem (mem_outcomes.mpr ⟨l, hl, mem_strikeNews.mpr ⟨dark, rfl⟩⟩)
    obtain ⟨x, others, list⟩ := List.exists_cons_of_ne_nil some
    rw [list] at all ⊢
    obtain ⟨m', rfl, session, -⟩ := all x (by simp)
    have warmed := Work.take_striking_returned (first := first) others state degraded session
    rw [Work.run_cons, warmed, if_pos rfl]
    refine Work.run_warming others rfl rfl ((State.blankLegal_iff_off (by simp)).mpr ⟨rfl, rfl⟩) (fun x hx => ?_) m
    obtain ⟨l, rfl, -, striking⟩ := all x (by simp [hx])
    exact .inr ⟨l, rfl, striking⟩

/-! ### A re-check of a demand that waits (R57, R61) -/

theorem Demand.isEmpty_iff (d : Demand) : d.isEmpty = true ↔ d = ⟨false, false, false⟩ := by
  obtain ⟨p, s, f⟩ := d
  cases p <;> cases s <;> cases f <;> decide

theorem Demand.isEmpty_eq_false {d : Demand} (h : d ≠ ⟨false, false, false⟩) : d.isEmpty = false := by
  rw [← Bool.not_eq_true, Demand.isEmpty_iff]; exact h

/-- R57, R61: a re-check of a demand that no lamp can serve changes nothing. -/
theorem Work.recheck_unusable {s : State} {rest : List Handoff} (held : s.power.held = true)
    (demand : s.power.demand ≠ ⟨false, false, false⟩) (unusable : s.lamps.thermalHold = true ∨
      s.anyAvailable = false ∧ s.power.session = ⟨false, false⟩) : Work.recheck ⟨s, rest⟩ = ⟨s, rest⟩ := by
  have present := Demand.isEmpty_eq_false demand
  unfold Work.recheck
  cases state : s.power.state with
  | standby =>
    have no : (!s.lamps.thermalHold && s.anyAvailable) = false := by
      rcases unusable with hold | ⟨none, -⟩ <;> simp_all
    simp [present, no, Work.setHeld, held]
  | coolingDown =>
    rcases unusable with hold | ⟨none, session⟩
    · simp [held, present, hold]
    · simp [held, present, none, State.sessionEmpty, session]
  | warming => rfl
  | on => rfl

/-- R57, R60, R61: what a hand-off that re-checks leaves of a state in which a demand waits, with what the step has still to tell of
life states. -/
theorem State.Waits.rechecks {s : State} (h : s.Waits) {x : Handoff} {rest : List Handoff}
    (checks : Work.takeBare x ⟨s, rest⟩ = Work.recheck ⟨s, rest⟩) (news : LifeNews rest) {n : Nat} (hn : rest.length < n) :
    s.Rechecks (Work.run (n + 1) ⟨s, x :: rest⟩) := by
  obtain ⟨held, demand, session, degraded, state, blank⟩ := h
  have present := Demand.isEmpty_eq_false demand
  have taken : Work.run (n + 1) ⟨s, x :: rest⟩ =
      Work.run n ((Work.recheck ⟨s, rest⟩).edit fun t => (t.reportPower s.power.number).followBlankTimer) := by
    rw [Work.run_cons, Work.take, checks]
  rw [taken]
  refine ⟨fun usable standby plain => ?_, fun usable cooling plain => ?_, fun unusable => ?_⟩
  · have leaves : Work.recheck ⟨s, rest⟩ = Work.leaveStandby ⟨s, rest⟩ := by
      have yes := s.usable_iff.mp usable
      simp [Work.recheck, standby, present, yes]
    rw [leaves]
    obtain ⟨first, run⟩ := Work.run_leaveStandby plain degraded (before := s.power.number)
      (by simp [Power.number, PowerState.number, standby, held, degraded]) news
    exact ⟨first, run n⟩
  · have returns : Work.recheck ⟨s, rest⟩ = Work.chooseCooling ⟨s, rest⟩ := by
      have yes := s.usable_iff.mp usable
      simp_all [Work.recheck, State.sessionEmpty]
    rw [returns]
    obtain ⟨first, run⟩ := Work.run_chooseCooling cooling usable plain degraded news
    exact ⟨first, run n hn⟩
  · have unserved : s.lamps.thermalHold = true ∨ s.anyAvailable = false ∧ s.power.session = ⟨false, false⟩ := by
      rw [State.usable_iff] at unusable
      cases hold : s.lamps.thermalHold with
      | true => exact .inl rfl
      | false => exact .inr ⟨by simpa [hold] using unusable, session⟩
    have still (more : List Handoff) := Work.recheck_unusable (rest := more) held demand unserved
    have same : s.reportPower s.power.number = s := if_pos rfl
    rw [still, Work.edit, same, blank]
    refine Work.run_all_idle (fun y hy more => ?_) n
    obtain ⟨l, rfl⟩ := news y hy
    exact Work.take_self (by simpa [Work.takeBare, Work.recheckIdle, held] using still more) blank

end Sys2Proof.Machine
end

section
/-! PROOFS. A request that reaches its owning block; the reads of the accounts (O12), life states and lines (O13), the invariants
after reset (O60). -/

namespace Sys2Proof.Machine

/-- R170: a request that the port takes, the PANEL filter passes and whose length is right is carried out by its owner. -/
theorem State.Ready.exec_request {s : State} {p : Port} (h : s.Ready p) (r : Request) {d : List Byte} (row : CatalogueRow)
    (found : lookupCode r.code = some row) (named : row.request = r) (port : row.ports.contains p = true)
    (length : d.length = row.length) (short : d.length ≤ 64) (filter : p = .panel → s.panelFilter r d = none) :
    exec (Instr.ofRequest r p d) s = .next ((owner r p d s).1.answer p r.code d (owner r p d s).2) := by
  subst named
  have passed : (if p = .panel then s.panelFilter row.request d else none) = none := by
    split
    exacts [filter ‹_›, rfl]
  rw [exec_ofRequest, carry_powered _ h.1, h.sendFrame _ short]
  simp only [State.takeFrame, dispatch, found, port, if_true, carryOut, passed, length]
  rfl

theorem readLamp_zero : readLamp 0 = some .a := rfl
theorem readLamp_one : readLamp 1 = some .b := rfl

/-- R175: no byte above 1 names a lamp. -/
theorem readLamp_none {x : Byte} (h : 1 < x.toNat) : readLamp x = none := by
  unfold readLamp
  rw [if_neg, if_neg] <;> rintro rfl <;> exact absurd h (by decide)

theorem filter_readLampAccount (s : State) (d : List Byte) : s.panelFilter .readLampAccount d = none := by
  have top : s.lockout.effective ≤ 3 := by omega
  simp [State.panelFilter, State.filterLevel, panelLevel, top]

end Sys2Proof.Machine

open Sys2Proof Sys2Proof.Machine in
/-- Settles O12: the three requests reach the LAU, whose replies are evaluated. -/
theorem lampAccountReads : Obligations.LampAccountReads := by
  refine ⟨by decide, fun s p x ready => ?_, fun s ready => ?_, fun s x ready => ?_⟩
  · have run := ready.exec_request .readLampAccount (d := [x]) ⟨0x60, .readLampAccount, everyPort, 1⟩ rfl rfl (by cases p <;> rfl) rfl
      (by simp) (fun _ => filter_readLampAccount s [x])
    refine ⟨?_, ?_, fun hx => ?_⟩
    · rintro rfl; exact run
    · rintro rfl; exact run
    · refine run.trans ?_
      simp only [owner, readLampAccount, readLamp_none hx]
      rfl
  · exact ready.exec_request .takeAccountSnapshot (d := []) ⟨0x61, .takeAccountSnapshot, [.facility], 0⟩ rfl rfl rfl rfl (by simp)
      nofun
  · have run := ready.exec_request .readSnapshot (d := [x]) ⟨0x62, .readSnapshot, [.facility], 1⟩ rfl rfl rfl rfl (by simp) nofun
    refine ⟨fun hx => ?_, fun hx none => ?_, fun snap some => ⟨?_, ?_⟩⟩
    · refine run.trans ?_
      simp only [owner, readSnapshot, readLamp_none hx]
      rfl
    · refine run.trans ?_
      have lamp : x = 0 ∨ x = 1 := by
        rcases Nat.le_one_iff_eq_zero_or_eq_one.mp hx with h | h
        exacts [.inl (BitVec.eq_of_toNat_eq h), .inr (BitVec.eq_of_toNat_eq h)]
      rcases lamp with rfl | rfl <;> simp only [owner, readSnapshot, readLamp_zero, readLamp_one, none] <;> rfl
    · rintro rfl
      refine run.trans ?_
      simp only [owner, readSnapshot, readLamp_zero, some]
      rfl
    · rintro rfl
      refine run.trans ?_
      simp only [owner, readSnapshot, readLamp_one, some]
      rfl

namespace Sys2Proof.Machine

/-- R9: the four ranges of the wear hours, which meet without overlap. -/
theorem LampAccount.lifeState_iff (x : LampAccount) :
    (x.lifeState = .fresh ↔ x.hours < x.ratedLife - min x.warnOffset x.ratedLife) ∧
    (x.lifeState = .warn ↔ x.ratedLife - min x.warnOffset x.ratedLife ≤ x.hours ∧ x.hours < x.ratedLife) ∧
    (x.lifeState = .due ↔ x.ratedLife ≤ x.hours ∧ x.hours < x.ratedLife + x.grace) ∧
    (x.lifeState = .blocked ↔ x.ratedLife + x.grace ≤ x.hours) := by
  unfold LampAccount.lifeState
  simp only
  repeat' split
  all_goals simp only [reduceCtorEq, true_iff, false_iff]; omega

/-- R60: a lamp is not at rest while it is STRIKING, LIT or COOLING, or FAILED within its fan time. -/
theorem State.resting_eq_false_iff (s : State) (l : Lamp) : (s.condition l).resting = false ↔
    s.lampState l = .striking ∨ s.lampState l = .lit ∨ s.lampState l = .cooling ∨ ∃ fan, s.condition l = .failed fan ∧ 0 < fan := by
  unfold State.lampState
  cases s.condition l <;> simp [LampCondition.resting, LampCondition.state, Nat.pos_iff_ne_zero]

end Sys2Proof.Machine

open Sys2Proof Sys2Proof.Machine in
/-- Settles O13: the four ranges of the wear hours, and each line by the cases of the lamp conditions. -/
theorem lifeStatesAndLampLines : Obligations.LifeStatesAndLampLines := by
  refine ⟨fun x => ⟨rfl, fun hw => ?_, x.lifeState_iff⟩, fun s l powered => ⟨?_, ?_, ?_⟩⟩
  · show x.wear / 960 ≤ 4473924
    omega
  · unfold State.igniteLine
    cases s.condition l <;> simp [powered]
  · unfold State.ecoLine
    cases s.accounts.life.get l <;> simp [powered, LifeState.forcesEco]
  · have either (P : Lamp → Prop) : (∃ m, P m) ↔ P .a ∨ P .b :=
      ⟨fun ⟨m, h⟩ => by cases m; exacts [.inl h, .inr h], fun h => h.elim (fun h => ⟨_, h⟩) (fun h => ⟨_, h⟩)⟩
    rw [either, ← s.resting_eq_false_iff, ← s.resting_eq_false_iff]
    simp [State.fanLine, State.quiet, powered]

open Sys2Proof Sys2Proof.Machine in
/-- Settles O60: the state after reset is a concrete one, on which each invariant is decided. -/
theorem resetMeetsTheInvariants : Obligations.ResetMeetsTheInvariants := by
  have handed : State.reset.HandedLegal :=
    ⟨fun p topic value => by cases p <;> exact Nat.zero_le _, nofun⟩
  refine ⟨by decide, handed, by decide, by decide, by decide, by decide, by decide, by decide, ?_, by decide, by decide, by decide, by decide,
    ⟨by decide, nofun, by decide, by decide, nofun, by decide⟩, by decide⟩
  show ∀ n ∈ allRows, (State.reset.row n).status = .idle
  decide
end

section
/-! PROOFS. The lamp service requests: thresholds and parameters (O14). -/

namespace Sys2Proof.Machine

/-! ### Answers -/

theorem clampNat_zero (hi n : Nat) : clampNat 0 hi n = min hi n := Nat.zero_max _

/-- 00_scope.md: OK where no argument was clamped, and else CLAMPED. -/
theorem okOrClamped_eq {clamped : Bool} {asked : Prop} [Decidable asked] (h : clamped = !decide asked) (payload : List Byte) :
    okOrClamped clamped payload = ⟨if asked then .ok else .clamped, payload⟩ := by
  subst h
  by_cases asked <;> simp_all [okOrClamped]

/-! ### The blank timer beside other changes -/

/-- R65: whether the blank timer stands as it should rests on the power registers and on whether it is to run. -/
theorem State.BlankLegal.timed {s t : State} (h : s.BlankLegal) (power : t.power = s.power) (timing : t.blankTiming = s.blankTiming) :
    t.BlankLegal := by
  have registers : s.followBlankTimer.power = s.power := congrArg State.power h
  have own : t.followBlankTimer = { t with power := t.followBlankTimer.power } := by
    unfold State.followBlankTimer
    repeat' split
    all_goals rfl
  have follows : t.followBlankTimer.power = s.followBlankTimer.power := by
    unfold State.followBlankTimer
    rw [timing, power]
    repeat' split
    exacts [power, rfl, rfl]
  rw [State.BlankLegal, own, follows, registers, ← power]

/-- R65: and so on the power registers and the active booking. -/
theorem State.BlankLegal.frame {s t : State} (h : s.BlankLegal) (power : t.power = s.power) (timetable : t.timetable = s.timetable) :
    t.BlankLegal := h.timed power (by simp only [State.blankTiming, power, timetable])

/-! ### Re-checks that change nothing (R57, R61) -/

/-- R57: a re-check in STANDBY with no claim clears held. -/
theorem Work.recheck_unclaimed {w : Work} (standby : w.s.power.state = .standby) (empty : w.s.power.demand.isEmpty = true) :
    w.recheck = w.edit fun s => { s with power.held := false } := by
  unfold Work.recheck
  split
  · exact if_pos empty
  all_goals next other => exact absurd (other.symm.trans standby) (by decide)

/-- Where no demand is held, and none is present in STANDBY, a re-check changes nothing. -/
theorem Work.recheckIdle_unheld {s : State} (rest : List Handoff) (held : s.power.held = false)
    (demand : s.power.state = .standby → s.power.demand = ⟨false, false, false⟩) : Work.recheckIdle ⟨s, rest⟩ = ⟨s, rest⟩ := by
  unfold Work.recheckIdle
  by_cases standby : s.power.state = .standby
  · have same : ({ s with power.held := false } : State) = s := by rw [← held]
    have empty := (Demand.isEmpty_iff _).mpr (demand standby)
    rw [if_pos (.inl standby), Work.recheck_unclaimed standby empty]
    exact congrArg (Work.mk · rest) same
  · simp [standby, held]

/-- Where the thermal hold keeps a demand held, a re-check changes nothing. -/
theorem Work.recheckIdle_hold {s : State} (rest : List Handoff) (held : s.power.held = true)
    (demand : s.power.demand ≠ ⟨false, false, false⟩) (hold : s.lamps.thermalHold = true) :
    Work.recheckIdle ⟨s, rest⟩ = ⟨s, rest⟩ := by
  unfold Work.recheckIdle
  rw [if_pos (.inr held)]
  exact Work.recheck_unusable held demand (.inl hold)

/-- R57, R61: a changed life state re-checks a demand that is held. -/
theorem Work.takeBare_lifeChanged_held {s : State} (l : Lamp) (rest : List Handoff) (held : s.power.held = true) :
    Work.takeBare (.lifeChanged l) ⟨s, rest⟩ = Work.recheck ⟨s, rest⟩ := if_pos (.inr held)

/-- Changes of life states that are re-checked without a change. -/
theorem Work.run_lifeNews {s : State} {out : List Handoff} (idle : ∀ rest, Work.recheckIdle ⟨s, rest⟩ = ⟨s, rest⟩) (blank : s.BlankLegal)
    (news : LifeNews out) (n : Nat) : Work.run n ⟨s, out⟩ = s := by
  refine Work.run_all_idle (fun x hx rest => ?_) n
  obtain ⟨l, rfl⟩ := news x hx
  exact Work.take_self (idle rest) blank

theorem State.lifeNews_news (s : State) (l : Lamp) : LifeNews (s.lifeNews l) := by
  unfold State.lifeNews
  split
  · exact nofun
  · intro x hx
    exact ⟨l, by simpa using hx⟩

/-! ### Set Lamp Thresholds (R13) -/

/-- R13, R21: the LAU with another account of lamp `l`, its life state and the save. -/
def State.reaccounted (s : State) (l : Lamp) (account : LampAccount) : State :=
  let lamps := s.accounts.lamps.set l account
  { s with
    accounts.lamps := lamps, accounts.life := s.accounts.life.set l account.lifeState, accounts.litTicks := 0
    store.accounts := some ⟨lamps, s.accounts.weights, s.accounts.history, s.accounts.replacements⟩ }

/-- R10, R13: and LAMP-LIFE where the life state has changed. -/
def State.lifeTold (s : State) (l : Lamp) (account : LampAccount) : State :=
  if account.lifeState = s.accounts.life.get l then s.reaccounted l account
  else (s.reaccounted l account).post (.lampLife l) account.lifeState.number

theorem State.lifeTold_cases {s : State} {l : Lamp} {account : LampAccount} (P : State → Prop) (h : P (s.reaccounted l account))
    (h' : P ((s.reaccounted l account).post (.lampLife l) account.lifeState.number)) : P (s.lifeTold l account) := by
  unfold State.lifeTold
  split
  exacts [h, h']

/-- R13: what Set Lamp Thresholds makes of a lamp that is not STRIKING. -/
theorem Work.setLampThresholds_eq {s : State} {l : Lamp} (h : s.lampState l ≠ .striking) (rated warn grace : Nat) :
    Work.setLampThresholds ⟨s, []⟩ l rated warn grace =
      ⟨s.lifeTold l { s.account l with ratedLife := rated, warnOffset := warn, grace := grace },
        (s.setThresholds l rated warn grace).lifeNews l⟩ := by
  have account : (s.setThresholds l rated warn grace).account l =
      { s.account l with ratedLife := rated, warnOffset := warn, grace := grace } := State.setAccount_account _ _ _
  unfold Work.setLampThresholds
  rw [Work.recomputeLife_of_not_striking (by exact h)]
  simp only [Work.edit, List.nil_append, State.recomputeLife, account]
  by_cases same : LampAccount.lifeState { s.account l with ratedLife := rated, warnOffset := warn, grace := grace } =
      s.accounts.life.get l
  · have kept : s.accounts.life.set l (LampAccount.lifeState { s.account l with ratedLife := rated, warnOffset := warn, grace := grace }) =
        s.accounts.life := by
      rw [same]; exact PerLamp.set_get _ _
    rw [State.lifeTold, if_pos same, if_pos (show _ = (s.setThresholds l rated warn grace).accounts.life.get l from same),
      State.reaccounted]
    simp only [kept]
    rfl
  · rw [State.lifeTold, if_neg same, if_neg (show ¬ _ = (s.setThresholds l rated warn grace).accounts.life.get l from same)]
    rfl

theorem State.lifeTold_life (s : State) (l : Lamp) (account : LampAccount) :
    (s.lifeTold l account).accounts.life.get l = account.lifeState :=
  State.lifeTold_cases (fun t => t.accounts.life.get l = account.lifeState) (PerLamp.get_set_same _ _ _) (PerLamp.get_set_same _ _ _)

/-- R13, R177: Set Lamp Thresholds for a lamp that is not STRIKING, and its reply. -/
theorem setLampThresholds_eq {s : State} (l : Lamp) (h : s.lampState l ≠ .striking) (r0 r1 w0 w1 g0 g1 : Byte) :
    let rated := max 500 (min 20000 (readU16 r0 r1))
    let warn := min 2000 (readU16 w0 w1)
    let grace := min 1000 (readU16 g0 g1)
    let account : LampAccount := { s.account l with ratedLife := rated, warnOffset := warn, grace := grace }
    setLampThresholds [lampByte l, r0, r1, w0, w1, g0, g1] s =
      (Work.run settleFuel ⟨s.lifeTold l account, (s.setThresholds l rated warn grace).lifeNews l⟩,
        ⟨if rated = readU16 r0 r1 ∧ warn = readU16 w0 w1 ∧ grace = readU16 g0 g1 then .ok else .clamped,
          [byteOf account.lifeState.number]⟩) := by
  intro rated warn grace account
  have clamped : (rated != readU16 r0 r1 || warn != readU16 w0 w1 || grace != readU16 g0 g1) =
      !decide (rated = readU16 r0 r1 ∧ warn = readU16 w0 w1 ∧ grace = readU16 g0 g1) := by
    simp [bne, Bool.beq_eq_decide_eq, Bool.or_assoc]
  rw [← okOrClamped_eq clamped, ← s.lifeTold_life l account]
  simp only [setLampThresholds, readLamp_lampByte, clampNat_zero, Work.setLampThresholds_eq h]
  rfl

/-- R13: where the life state is as it was, nothing is handed on; else its change is. -/
theorem State.setThresholds_lifeNews (s : State) (l : Lamp) (rated warn grace : Nat) :
    (s.setThresholds l rated warn grace).lifeNews l =
      if LampAccount.lifeState { s.account l with ratedLife := rated, warnOffset := warn, grace := grace } = s.accounts.life.get l then []
      else [.lifeChanged l] := by
  have account : (s.setThresholds l rated warn grace).account l =
      { s.account l with ratedLife := rated, warnOffset := warn, grace := grace } := State.setAccount_account _ _ _
  rw [State.lifeNews, account]
  rfl

/-- What the power registers and the thermal hold decide stands after another account of a lamp. -/
theorem State.lifeTold_frame (s : State) (l : Lamp) (account : LampAccount) :
    (s.lifeTold l account).power = s.power ∧ (s.lifeTold l account).timetable = s.timetable ∧
      (s.lifeTold l account).lamps = s.lamps :=
  State.lifeTold_cases (fun t => t.power = s.power ∧ t.timetable = s.timetable ∧ t.lamps = s.lamps) ⟨rfl, rfl, rfl⟩ ⟨rfl, rfl, rfl⟩

/-- A demand that waits waits after any change that leaves the power registers and the active booking alone. -/
theorem State.Waits.frame {s t : State} (h : s.Waits) (power : t.power = s.power) (timetable : t.timetable = s.timetable) : t.Waits := by
  obtain ⟨held, demand, session, degraded, state, blank⟩ := h
  exact ⟨power ▸ held, power ▸ demand, power ▸ session, power ▸ degraded, power ▸ state, blank.frame power timetable⟩

end Sys2Proof.Machine

open Sys2Proof Sys2Proof.Machine in
/-- Settles O14: a changed life state is one hand-off to the PDU, which changes nothing where no demand waits or the hold keeps it,
and re-checks a demand that waits. -/
theorem thresholdsAndParameters : Obligations.ThresholdsAndParameters := by
  refine ⟨?_, fun s x r0 r1 w0 w1 g0 g1 ready hx => ?_, fun s eco penalty c0 c1 limit ready => ?_⟩
  · rintro s l x r0 r1 w0 w1 g0 g1 ready rfl striking blank rated warn grace account lamps life taken told req reply
    obtain ⟨power, timetable, lamp⟩ := s.lifeTold_frame l account
    have run (t : State) (ht : Work.run settleFuel ⟨told, (s.setThresholds l rated warn grace).lifeNews l⟩ = t) :
        exec req s = .next (reply t) := by
      refine (ready.exec_request .setLampThresholds (d := [lampByte l, r0, r1, w0, w1, g0, g1])
        ⟨0x63, .setLampThresholds, [.facility], 7⟩ rfl rfl rfl rfl (by simp) nofun).trans ?_
      have owned := setLampThresholds_eq (s := s) l striking r0 r1 w0 w1 g0 g1
      rw [owner, owned]
      exact congrArg (fun u => Host.Outcome.next (reply u)) ht
    have told_blank : told.BlankLegal := blank.frame power timetable
    refine ⟨fun held demand => run told ?_, fun waits => ⟨fun same => run told ?_, fun moved => ⟨_, run _ rfl, ?_⟩⟩,
      fun held demand hold => run told ?_⟩
    · exact Work.run_lifeNews (fun rest => Work.recheckIdle_unheld rest (power ▸ held) (power ▸ demand)) told_blank
        (State.lifeNews_news _ _) _
    · rw [State.setThresholds_lifeNews, if_pos same]; exact Work.run_empty _ _
    · rw [State.setThresholds_lifeNews, if_neg moved]
      have after : told.Waits := waits.frame power timetable
      exact after.rechecks (rest := []) (n := 63) (Work.takeBare_lifeChanged_held l _ after.1) nofun (by decide)
    · exact Work.run_lifeNews (fun rest => Work.recheckIdle_hold rest (power ▸ held) (power ▸ demand) (lamp ▸ hold)) told_blank
        (State.lifeNews_news _ _) _
  · refine (ready.exec_request .setLampThresholds (d := [x, r0, r1, w0, w1, g0, g1]) ⟨0x63, .setLampThresholds, [.facility], 7⟩ rfl rfl
      rfl rfl (by simp) nofun).trans ?_
    simp only [owner, setLampThresholds, readLamp_none hx]
    rfl
  · intro weights params
    have clamped : (weights != (⟨eco.toNat, penalty.toNat⟩ : WearWeights) || params != (⟨readU16 c0 c1, limit.toNat⟩ : LampParams)) =
        !decide (weights = (⟨eco.toNat, penalty.toNat⟩ : WearWeights) ∧ params = (⟨readU16 c0 c1, limit.toNat⟩ : LampParams)) := by
      simp [bne, Bool.beq_eq_decide_eq]
    refine (ready.exec_request .setLampParameters (d := [eco, penalty, c0, c1, limit]) ⟨0x64, .setLampParameters, [.facility], 5⟩ rfl rfl
      rfl rfl (by simp) nofun).trans ?_
    rw [← okOrClamped_eq clamped]
    simp only [owner, setLampParameters, clampNat_zero]
    rfl
end

section
/-! PROOFS. Lamp Replaced and the history read (O15). -/

namespace Sys2Proof.Machine

/-! ### What the replacement leaves (R19) -/

theorem PerLamp.set_set {α : Type} (x : PerLamp α) (l : Lamp) (v w : α) : (x.set l v).set l w = x.set l w := by cases l <;> rfl

/-- R19: the account of a fitted lamp: the counters at zero, the thresholds kept. -/
def LampAccount.emptied (x : LampAccount) : LampAccount := ⟨0, 0, 0, 0, 0, x.ratedLife, x.warnOffset, x.grace⟩

theorem State.retireLamp_account (s : State) (l : Lamp) : (s.retireLamp l).account l = (s.account l).emptied :=
  State.setAccount_account _ _ _

/-- R19: the LAU and lamp `l` after its replacement, with the save and the notices. -/
def State.replaced (s : State) (l : Lamp) : State :=
  let life := (s.account l).emptied.lifeState
  let taken : State := ({ s.retireLamp l with
    accounts.life := s.accounts.life.set l life, lamps.lamp := s.lamps.lamp.set l ⟨.dark, 0⟩ } : State).saveAccounts
  (if s.condition l = .dark then taken else taken.post (.lampState l) 0).post (.lampLife l) life.number

/-- R10: the change of the life state by the replacement, where it is one. -/
def State.renewedNews (s : State) (l : Lamp) : List Handoff :=
  if (s.account l).emptied.lifeState = s.accounts.life.get l then [] else [.lifeChanged l]

theorem State.renewedNews_news (s : State) (l : Lamp) : LifeNews (s.renewedNews l) := by
  unfold State.renewedNews
  split
  · exact nofun
  · intro x hx
    exact ⟨l, by simpa using hx⟩

theorem Work.renewLife_eq {w : Work} {l : Lamp} {x : LampAccount} (h : w.s.account l = x) :
    w.renewLife l = ⟨({ w.s with accounts.life := w.s.accounts.life.set l x.lifeState } : State).post (.lampLife l) x.lifeState.number,
      w.out ++ if x.lifeState = w.s.accounts.life.get l then [] else [.lifeChanged l]⟩ := by
  subst h
  unfold Work.renewLife
  simp only [Work.edit, Work.hand]
  split <;> simp

/-- R19: Lamp Replaced for a DARK lamp. -/
theorem Work.replaceLamp_dark {s : State} {l : Lamp} (h : s.condition l = .dark) :
    Work.replaceLamp ⟨s, []⟩ l = ⟨s.replaced l, s.renewedNews l⟩ := by
  have unit : ({ s.lamps.lamp.get l with sessionDropouts := 0 } : LampControl) = ⟨.dark, 0⟩ :=
    congrArg (LampControl.mk · 0) h
  have renewed : Work.renewLamp ⟨s.retireLamp l, []⟩ l =
      ⟨{ s.retireLamp l with lamps.lamp := s.lamps.lamp.set l ⟨.dark, 0⟩ }, []⟩ := by
    unfold Work.renewLamp
    rw [← unit]
    refine if_neg ?_
    show ((s.lamps.lamp.set l { s.lamps.lamp.get l with sessionDropouts := 0 }).get l).condition.state ≠ .failed
    rw [PerLamp.get_set_same, unit]
    decide
  simp only [Work.replaceLamp, Work.edit, renewed]
  rw [Work.renewLife_eq (by exact s.retireLamp_account l), State.replaced, if_pos h]
  rfl

/-- R19: Lamp Replaced for a FAILED lamp whose fan time is over. -/
theorem Work.replaceLamp_failed {s : State} {l : Lamp} (h : s.condition l = .failed 0) :
    Work.replaceLamp ⟨s, []⟩ l = ⟨s.replaced l, .changed l .dark :: s.renewedNews l⟩ := by
  have failed : ((s.retireLamp l).setSessionDropouts l 0).lampState l = .failed := by
    show ((s.lamps.lamp.set l { s.lamps.lamp.get l with sessionDropouts := 0 }).get l).condition.state = .failed
    rw [PerLamp.get_set_same]
    exact congrArg LampCondition.state h
  have renewed : Work.renewLamp ⟨s.retireLamp l, []⟩ l =
      ⟨({ s.retireLamp l with lamps.lamp := s.lamps.lamp.set l ⟨.dark, 0⟩ } : State).post (.lampState l) 0, [.changed l .dark]⟩ := by
    unfold Work.renewLamp
    refine (if_pos failed).trans ?_
    rw [Work.changeLamp_plain (by simp only [Work.edit]; rw [failed]; rfl)]
    simp only [Work.edit, State.setCondition, State.setSessionDropouts, PerLamp.set_set, PerLamp.get_set_same]
    rfl
  have other : s.condition l ≠ .dark := by rw [h]; decide
  simp only [Work.replaceLamp, Work.edit, renewed]
  rw [Work.renewLife_eq (by exact s.retireLamp_account l), State.replaced, if_neg other]
  rfl

/-- The replacement leaves the power registers, the timetable, the thermal hold and the other lamp alone. -/
theorem State.replaced_frame (s : State) (l : Lamp) :
    (s.replaced l).power = s.power ∧ (s.replaced l).timetable = s.timetable ∧ (s.replaced l).lamps.thermalHold = s.lamps.thermalHold ∧
      (s.replaced l).condition l.other = s.condition l.other ∧ (s.replaced l).condition l = .dark := by
  unfold State.replaced
  simp only
  split <;> cases l <;> exact ⟨rfl, rfl, rfl, rfl, rfl⟩

theorem State.replaced_serial (s : State) (l : Lamp) :
    (s.replaced l).accounts.replacements = min 65535 (s.accounts.replacements + 1) := by
  unfold State.replaced
  simp only
  split <;> rfl

/-! ### What the PDU makes of a lamp that has become DARK (R57 to R61) -/

theorem State.quiet_of_other {s : State} {l : Lamp} (h : (s.condition l.other).resting = false) : s.quiet = false := by
  cases l <;> simp_all [State.quiet, Lamp.other]

/-- Where a demand is held, a lamp that has become DARK beside one that is not at rest is a re-check. -/
theorem Work.takeBare_dark_held {s : State} (l : Lamp) (rest : List Handoff) (held : s.power.held = true)
    (state : s.power.state = .standby ∨ s.power.state = .coolingDown)
    (beside : s.power.state = .coolingDown → (s.condition l.other).resting = false) :
    Work.takeBare (.changed l .dark) ⟨s, rest⟩ = Work.recheck ⟨s, rest⟩ := by
  unfold Work.takeBare Work.followLamp
  rcases state with standby | cooling
  · simp [standby]
  · simp [cooling, State.quiet_of_other (beside cooling), held]

/-- R58 to R60: a lamp that has become DARK where a change of it moves nothing. -/
theorem Work.take_dark_unmoved {s : State} (l : Lamp) (rest : List Handoff) (dark : s.condition l = .dark) (unmoved : s.Unmoved l)
    (blank : s.BlankLegal) : Work.take (.changed l .dark) ⟨s, rest⟩ = ⟨s, rest⟩ := by
  refine Work.take_self ?_ blank
  obtain ⟨standby, warming, on, cooling⟩ := unmoved
  have self : s.lampState l = .dark := (s.lampState_dark_iff l).mpr dark
  unfold Work.takeBare Work.followLamp
  cases state : s.power.state with
  | standby =>
    obtain ⟨held, demand⟩ := standby state
    have idle := Work.recheckIdle_unheld rest held (fun _ => demand)
    rw [Work.recheckIdle, if_pos (.inl state)] at idle
    simpa [state] using idle
  | warming => simp [State.anyStriking_of (warming state)]
  | on =>
    obtain ⟨lit, degraded⟩ := on state
    have any : s.anyLit = true := by cases l <;> simp_all [State.anyLit, Lamp.other]
    have one : s.degradedNow = s.power.degraded := by
      rw [degraded]
      cases l <;> simp_all [State.degradedNow, Lamp.other]
    have same : s.setPowerState .on = s := by
      have kept : ({ s with power.state := .on, power.degraded := s.power.degraded } : State) = s := by rw [← state]
      rw [← one] at kept
      exact kept
    simp [any, Work.edit, same]
  | coolingDown =>
    obtain ⟨held, beside⟩ := cooling state
    simp [State.quiet_of_other beside, held]

/-- A changed life state where a change of lamp `l` moves nothing. -/
theorem Work.recheckIdle_unmoved {s : State} {l : Lamp} (rest : List Handoff) (unmoved : s.Unmoved l) :
    Work.recheckIdle ⟨s, rest⟩ = ⟨s, rest⟩ := by
  obtain ⟨standby, -, -, cooling⟩ := unmoved
  cases state : s.power.state with
  | standby => exact Work.recheckIdle_unheld rest (standby state).1 (fun _ => (standby state).2)
  | coolingDown => exact Work.recheckIdle_unheld rest (cooling state).1 (by simp [state])
  | warming => simp [Work.recheckIdle, Work.recheck, state]
  | on => simp [Work.recheckIdle, Work.recheck, state]

end Sys2Proof.Machine

open Sys2Proof Sys2Proof.Machine in
/-- Settles O15: the replacement hands the PDU at most the new DARK state and the new life state; the first of them re-checks a demand
that waits, and neither changes anything elsewhere. -/
theorem lampReplacedAndHistory : Obligations.LampReplacedAndHistory := by
  have request (s : State) (ready : s.Ready .facility) (x : Byte) :=
    ready.exec_request .lampReplaced (d := [x]) ⟨0x65, .lampReplaced, [.facility], 1⟩ rfl rfl rfl rfl (by simp) nofun
  refine ⟨?_, ?_, fun s x ready hx => ?_, fun s ready => ?_⟩
  · rintro s l x ready rfl blank replaceable old serial record history account lamps taken told req reply usableAnew besideCooling
    obtain ⟨power, timetable, hold, other, dark⟩ := s.replaced_frame l
    have told_blank : told.BlankLegal := blank.frame power timetable
    have run {out : List Handoff} (did : Work.replaceLamp ⟨s, []⟩ l = ⟨s.replaced l, out⟩) {t : State}
        (ht : Work.run settleFuel ⟨told, out⟩ = t) : exec req s = .next (reply t) := by
      refine (request s ready _).trans ?_
      have may : (s.condition l).replaceable = true := by rcases replaceable with h | h <;> rw [h] <;> rfl
      simp only [owner, lampReplaced, readLamp_lampByte, may, if_true, did, Work.finish, s.replaced_serial]
      exact congrArg (fun u => Host.Outcome.next (reply u)) ht
    refine ⟨fun failed unmoved => ?_, fun dark' held demand => ?_, fun waits beside => ⟨fun still => ?_, fun anew => ?_⟩,
      fun held demand hot beside state => ?_⟩
    · have after : told.Unmoved l := by
        obtain ⟨standby, warming, on, cooling⟩ := unmoved
        have otherState : told.lampState l.other = s.lampState l.other := congrArg LampCondition.state other
        exact ⟨power ▸ standby, power ▸ otherState ▸ warming, power ▸ otherState ▸ on, power ▸ other ▸ cooling⟩
      refine run (Work.replaceLamp_failed failed) (Work.run_all_idle (fun x hx rest => ?_) _)
      obtain rfl | hx := List.mem_cons.mp hx
      · exact Work.take_dark_unmoved l rest dark after told_blank
      · obtain ⟨m, rfl⟩ := s.renewedNews_news l x hx
        exact Work.take_self (Work.recheckIdle_unmoved rest after) told_blank
    · exact run (Work.replaceLamp_dark dark') (Work.run_lifeNews
        (fun rest => Work.recheckIdle_unheld rest (power ▸ held) (power ▸ demand)) told_blank (s.renewedNews_news l) _)
    · obtain ⟨notFailed, same⟩ := not_or.mp still
      have none : s.renewedNews l = [] := if_pos (not_not.mp same)
      exact run (Work.replaceLamp_dark (replaceable.resolve_right notFailed)) (by rw [none]; exact Work.run_empty _ _)
    · have after : told.Waits := waits.frame power timetable
      have near : told.power.state = .coolingDown → (told.condition l.other).resting = false := power ▸ other ▸ beside
      rcases replaceable with dark' | failed
      · have moved := anew.resolve_left (by rw [dark']; decide)
        have one : s.renewedNews l = [.lifeChanged l] := if_neg moved
        refine ⟨_, run (Work.replaceLamp_dark dark') rfl, ?_⟩
        rw [one]
        exact after.rechecks (rest := []) (n := 63) (Work.takeBare_lifeChanged_held l _ after.1) nofun (by decide)
      · refine ⟨_, run (Work.replaceLamp_failed failed) rfl, ?_⟩
        have few : (s.renewedNews l).length < 63 := by
          unfold State.renewedNews
          split <;> simp
        exact after.rechecks (Work.takeBare_dark_held l _ after.1 after.2.2.2.2.1 near) (s.renewedNews_news l) few
    · have held' : told.power.held = true := power ▸ held
      have still (rest : List Handoff) : Work.recheck ⟨told, rest⟩ = ⟨told, rest⟩ :=
        Work.recheck_unusable held' (power ▸ demand) (.inl (hold ▸ hot))
      have idle (x : Handoff) (hx : x = .changed l .dark ∨ ∃ m, x = .lifeChanged m) (rest : List Handoff) :
          Work.take x ⟨told, rest⟩ = ⟨told, rest⟩ := by
        refine Work.take_self ?_ told_blank
        obtain rfl | ⟨m, rfl⟩ := hx
        · exact (Work.takeBare_dark_held l rest held' (power ▸ state) (power ▸ other ▸ beside)).trans (still rest)
        · exact (Work.takeBare_lifeChanged_held m rest held').trans (still rest)
      rcases replaceable with dark' | failed
      · exact run (Work.replaceLamp_dark dark') (Work.run_all_idle (fun x hx => idle x (.inr (s.renewedNews_news l x hx))) _)
      · refine run (Work.replaceLamp_failed failed) (Work.run_all_idle (fun x hx => idle x ?_) _)
        obtain rfl | hx := List.mem_cons.mp hx
        exacts [.inl rfl, .inr (s.renewedNews_news l x hx)]
  · rintro s l x ready rfl notDark notFailed
    refine (request s ready _).trans ?_
    have may : (s.condition l).replaceable = false := by
      cases h : s.condition l <;> simp_all [LampCondition.replaceable]
    simp only [owner, lampReplaced, readLamp_lampByte, may]
    rfl
  · refine (request s ready _).trans ?_
    simp only [owner, lampReplaced, readLamp_none hx]
    rfl
  · refine (ready.exec_request .readReplacementHistory (d := []) ⟨0x67, .readReplacementHistory, [.facility], 0⟩ rfl rfl rfl rfl (by simp)
      nofun).trans ?_
    cases h : s.accounts.history <;> simp only [owner, readReplacementHistory, h] <;> rfl
end

section
/-! PROOFS. The account of a lamp that burns through a step (R3, R33). -/

namespace Sys2Proof.Machine

/-- Lamp `l` is LIT or COOLING, with account `x` and life state `y`. -/
def State.Burns (l : Lamp) (x : LampAccount) (y : LifeState) (s : State) : Prop :=
  (s.lampState l = .lit ∨ s.lampState l = .cooling) ∧ s.account l = x ∧ s.accounts.life.get l = y

variable {l m : Lamp} {x : LampAccount} {y : LifeState}

/-! ### Changes of the other lamp -/

theorem State.Burns.frame {s t : State} (h : s.Burns l x y) (condition : t.condition l = s.condition l)
    (account : t.account l = s.account l)
    (life : t.accounts.life.get l = s.accounts.life.get l) : t.Burns l x y := by
  have state : t.lampState l = s.lampState l := congrArg LampCondition.state condition
  rw [State.Burns, state, account, life]
  exact h

theorem State.Burns.setCondition {s : State} (h : s.Burns l x y) (hm : l ≠ m) (c : LampCondition) : (s.setCondition m c).Burns l x y :=
  h.frame (congrArg LampControl.condition (PerLamp.get_set_ne _ _ hm)) rfl rfl

theorem State.Burns.moveLamp {w : Work} (h : w.s.Burns l x y) (hm : l ≠ m) (c : LampCondition) : (w.moveLamp m c).s.Burns l x y := by
  have moved := h.setCondition hm c
  simp only [Work.moveLamp, Work.edit_s]
  split
  exacts [moved.frame rfl rfl rfl, moved.frame rfl rfl rfl]

theorem State.Burns.changeLamp {w : Work} (h : w.s.Burns l x y) (hm : l ≠ m) (c : LampCondition) : (w.changeLamp m c).s.Burns l x y :=
  h.moveLamp hm c

theorem State.Burns.abandonStrike {w : Work} (h : w.s.Burns l x y) (hm : l ≠ m) : (w.abandonStrike m).s.Burns l x y := by
  unfold Work.abandonStrike
  split
  exacts [h.setCondition hm _, h.moveLamp hm _, h, h, h, h]

theorem State.Burns.recomputeLife {w : Work} (h : w.s.Burns l x y) (hm : l ≠ m) : (w.recomputeLife m).s.Burns l x y := by
  have computed : (w.s.recomputeLife m).Burns l x y :=
    h.frame (by simp only [State.condition, State.recomputeLife_lamps]) (by simp) (State.recomputeLife_other hm)
  unfold Work.recomputeLife
  simp only
  repeat' split
  exacts [computed, State.Burns.abandonStrike (w := (w.edit fun s => s.recomputeLife m).hand (.lifeChanged m)) computed hm, computed]

theorem State.Burns.pulse {w : Work} (h : w.s.Burns l x y) (hm : l ≠ m) : (w.pulse m).s.Burns l x y := by
  have charged (z : LampAccount) : (w.s.setAccount m z).Burns l x y := h.frame rfl (State.setAccount_account_ne z hm) rfl
  have told := State.Burns.recomputeLife (w := w.edit fun s => s.setAccount m ((s.account m).chargePulse s.accounts.weights))
    (charged _) hm
  unfold Work.pulse
  simp only
  split
  exacts [told, told]

theorem State.Burns.beginStrike {w : Work} (h : w.s.Burns l x y) (hm : l ≠ m) : (w.beginStrike m).s.Burns l x y :=
  State.Burns.pulse (h.changeLamp hm _) hm

/-! ### Changes of the lamp that burns -/

theorem State.Burns.condition {s : State} (h : s.Burns l x y) : 
    s.condition l = .lit ∨ ∃ timer pending, s.condition l = .cooling timer pending := by
  obtain ⟨state, -, -⟩ := h
  unfold State.lampState at state
  cases hc : s.condition l <;> simp_all [LampCondition.state]

theorem State.Burns.toCooling {s t : State} (h : s.Burns l x y) {timer : Nat} {pending : Bool}
    (cooling : t.condition l = .cooling timer pending)
    (accounts : t.accounts.lamps = s.accounts.lamps) (life : t.accounts.life = s.accounts.life) : t.Burns l x y := by
  obtain ⟨-, account, kept⟩ := h
  refine ⟨.inr (by rw [State.lampState, cooling]; rfl), ?_, by rw [life, kept]⟩
  rw [State.account, accounts]
  exact account

theorem State.setCondition_condition (s : State) (l : Lamp) (c : LampCondition) : (s.setCondition l c).condition l = c :=
  congrArg LampControl.condition (PerLamp.get_set_same _ _ _)

/-! ### The orders of the PDU (R28, R33) -/

theorem State.Burns.strike {w : Work} (h : w.s.Burns l x y) (m : Lamp) : (w.strike m).s.Burns l x y := by
  by_cases hm : l = m
  · subst hm
    unfold Work.strike
    obtain lit | ⟨timer, pending, cooling⟩ := h.condition
    · rw [lit]; exact h
    · rw [cooling]
      exact h.toCooling (State.setCondition_condition _ _ _) rfl rfl
  · unfold Work.strike
    split
    · split
      exacts [h.beginStrike hm, h]
    exacts [h, h, h, h.setCondition hm _, h]

theorem State.Burns.stop {w : Work} (h : w.s.Burns l x y) (m : Lamp) : (w.stop m).s.Burns l x y := by
  by_cases hm : l = m
  · subst hm
    unfold Work.stop
    obtain lit | ⟨timer, pending, cooling⟩ := h.condition
    · rw [lit]
      have saves : (w.s.lampState l).savesOnLeaving = true := by rw [State.lampState, lit]; rfl
      simp only [Work.changeLamp_saving saves]
      exact h.toCooling (State.setCondition_condition _ _ _) rfl rfl
    · rw [cooling]
      exact h.toCooling (State.setCondition_condition _ _ _) rfl rfl
  · unfold Work.stop
    split
    exacts [h.changeLamp hm _, h.changeLamp hm _, h.changeLamp hm _, h.setCondition hm _, h, h]

theorem State.Burns.opening {w : Work} (h : w.s.Burns l x y) (m : Lamp) : (w.lightAtOpening m).s.Burns l x y := by
  by_cases hm : l = m
  · subst hm
    unfold Work.lightAtOpening
    obtain lit | ⟨timer, pending, cooling⟩ := h.condition
    · rw [lit]; exact h
    · rw [cooling]; exact h
  · unfold Work.lightAtOpening
    split
    · split
      exacts [h.changeLamp hm _, h]
    exacts [h, h, h, h, h]

/-- No order of the PDU moves the account of a lamp that burns. -/
theorem State.burns_kept (l : Lamp) (x : LampAccount) (y : LifeState) : KeptByOrders (State.Burns l x y) where
  frame accounts _ lamps h := h.frame (by simp only [State.condition, lamps]) (by simp only [State.account, accounts]) (by rw [accounts])
  strike m _ h := h.strike m
  stop m _ h := h.stop m
  opening m _ h := h.opening m
  zeroed s h := by
    refine h.frame ?_ rfl rfl
    cases l <;> rfl

end Sys2Proof.Machine
end

section
/-! PROOFS. The minute tick (O16). -/

namespace Sys2Proof.Machine

/-! ### What the LAU makes of a tick (R3, R7, R10, R21) -/

/-- R3: the account of lamp `l` after a tick. -/
def State.litCharge (t : State) (l : Lamp) : LampAccount :=
  if t.litLamps.get l then (t.account l).chargeMinute t.accounts.weights (t.ecoLine l) else t.account l

/-- R10: and its life state. -/
def State.litLife (t : State) (l : Lamp) : LifeState :=
  if t.litLamps.get l then (t.litCharge l).lifeState else t.accounts.life.get l

/-- R10: LAMP-LIFE where a life state has changed. -/
def State.tellLife (x : State) (l : Lamp) (old new : LifeState) : State := if new = old then x else x.post (.lampLife l) new.number

/-- R3, R10: the accounts and the life states after a tick. -/
def State.litCharged (t : State) : State :=
  { t with accounts.lamps := ⟨t.litCharge .a, t.litCharge .b⟩, accounts.life := ⟨t.litLife .a, t.litLife .b⟩ }

/-- R21: and with the tick counted or the accounts saved. -/
def State.litCounted (t : State) : State := if t.litLamps.a || t.litLamps.b then t.litCharged.countLitTick else t.litCharged

/-- R10: and the notices, lamp `first` before the other (log 5). -/
def State.litTold (t : State) (first : Lamp) : State :=
  (t.litCounted.tellLife first (t.accounts.life.get first) (t.litLife first)).tellLife first.other
    (t.accounts.life.get first.other) (t.litLife first.other)

theorem State.tellLife_accounts (x : State) (l : Lamp) (old new : LifeState) (y : Accounts) :
    { x.tellLife l old new with accounts := y } = ({ x with accounts := y } : State).tellLife l old new := by
  unfold State.tellLife
  split <;> rfl

theorem State.tellLife_keeps {P : State → Prop} {x : State} (l : Lamp) (old new : LifeState) (h : P x)
    (told : P (x.post (.lampLife l) new.number)) : P (x.tellLife l old new) := by
  unfold State.tellLife
  split
  exacts [h, told]

theorem State.tellLife_count (x : State) (l : Lamp) (old new : LifeState) :
    (x.tellLife l old new).countLitTick = x.countLitTick.tellLife l old new := by
  unfold State.tellLife State.countLitTick
  split
  · rfl
  · show (if x.accounts.litTicks + 1 < Config.litTickSave then _ else _) = _
    split <;> rfl

theorem State.recomputeLife_eq (x : State) (l : Lamp) : x.recomputeLife l =
    ({ x with accounts.life := x.accounts.life.set l (x.account l).lifeState } : State).tellLife l (x.accounts.life.get l)
      (x.account l).lifeState := by
  unfold State.recomputeLife State.tellLife
  simp only
  split
  · next same => rw [same, PerLamp.set_get]
  · rfl

/-- R10: what the recomputation for one lamp, where it is LIT, makes of a state that has its charge. -/
theorem State.recomputeLit_eq {t x : State} {l : Lamp} (account : x.account l = t.litCharge l)
    (life : x.accounts.life.get l = t.accounts.life.get l) : (if t.litLamps.get l then x.recomputeLife l else x) =
      ({ x with accounts.life := x.accounts.life.set l (t.litLife l) } : State).tellLife l (t.accounts.life.get l) (t.litLife l) := by
  unfold State.litLife
  split
  · rw [State.recomputeLife_eq, account, life]
  · rw [← life, PerLamp.set_get, State.tellLife, if_pos rfl]

theorem State.chargeLit_litCharge (t : State) :
    t.chargeLit t.litLamps = { t with accounts.lamps := ⟨t.litCharge .a, t.litCharge .b⟩ } := by
  rw [State.chargeLit_eq]
  have each (l : Lamp) := t.chargeLit_account t.litLamps l
  have both : (t.chargeLit t.litLamps).accounts.lamps = ⟨t.litCharge .a, t.litCharge .b⟩ :=
    congr (congrArg PerLamp.mk (each .a)) (each .b)
  rw [both]

/-- R3, R10: the charges and the recomputations of a tick. -/
theorem State.recomputedLit (t : State) (first : Lamp) :
    inTurn first t.litLamps (fun l x => x.recomputeLife l) (t.chargeLit t.litLamps) =
      (t.litCharged.tellLife first (t.accounts.life.get first) (t.litLife first)).tellLife first.other
        (t.accounts.life.get first.other) (t.litLife first.other) := by
  have charge (l : Lamp) : (t.chargeLit t.litLamps).account l = t.litCharge l := t.chargeLit_account t.litLamps l
  have start : (t.chargeLit t.litLamps).accounts.life = t.accounts.life := by rw [State.chargeLit_eq]
  unfold inTurn
  simp only
  rw [State.recomputeLit_eq (charge first) (by rw [start]), State.recomputeLit_eq, State.tellLife_accounts]
  · rw [State.chargeLit_litCharge]
    unfold State.tellLife State.litCharged
    cases first <;> (repeat' split) <;> rfl
  · exact State.tellLife_keeps (P := fun y => y.account first.other = t.litCharge first.other) _ _ _ (charge _) (charge _)
  · have other : (t.accounts.life.set first (t.litLife first)).get first.other = t.accounts.life.get first.other := by simp
    have charged : ((t.chargeLit t.litLamps).accounts.life.set first (t.litLife first)).get first.other =
        t.accounts.life.get first.other := by rw [start]; exact other
    exact State.tellLife_keeps (P := fun y => y.accounts.life.get first.other = t.accounts.life.get first.other) _ _ _ charged charged

/-- The hand-offs of a tick: each tells of a lamp that is LIT and whose life state has changed. -/
theorem State.recomputedLit_work (t : State) : ∃ (first : Lamp) (out : List Handoff),
    forLamps t.litLamps (fun l (w : Work) => w.recomputeLife l) ⟨t.chargeLit t.litLamps, []⟩ =
      ⟨inTurn first t.litLamps (fun l x => x.recomputeLife l) (t.chargeLit t.litLamps), out⟩ ∧
    ∀ x ∈ out, ∃ l, x = .lifeChanged l ∧ t.litLife l ≠ t.accounts.life.get l := by
  have start : (t.chargeLit t.litLamps).accounts.life = t.accounts.life := by rw [State.chargeLit_eq]
  let same (l : Lamp) (x : State) : Prop := x.lamps = t.lamps ∧ x.account l = t.litCharge l ∧
    x.accounts.life.get l = t.accounts.life.get l
  have served (l : Lamp) (v : Work) (lit : t.litLamps.get l = true) (hv : same l v.s) :
      v.recomputeLife l = ⟨v.s.recomputeLife l, v.out ++ (t.chargeLit t.litLamps).lifeNews l⟩ := by
    obtain ⟨lamps, account, life⟩ := hv
    have burning : v.s.lampState l = .lit := by
      rw [State.lampState, State.condition, lamps]; exact (t.litLamps_iff l).mp lit
    rw [Work.recomputeLife_of_not_striking (by rw [burning]; decide), State.lifeNews, State.lifeNews, account, life, start,
      show (t.chargeLit t.litLamps).account l = t.litCharge l from t.chargeLit_account t.litLamps l]
  obtain ⟨first, done⟩ := forLamps_eq_inTurn (Q := same) (f := fun l x => x.recomputeLife l) (w := ⟨t.chargeLit t.litLamps, []⟩) served
    (fun l x hx => by
      obtain ⟨lamps, account, life⟩ := hx
      refine ⟨by simpa using lamps, by simpa using account, ?_⟩
      rw [State.recomputeLife_other (by cases l <;> decide), life])
    (fun l => ⟨t.chargeLit_lamps _, t.chargeLit_account _ l, by rw [start]⟩)
  refine ⟨first, _, done, fun x hx => ?_⟩
  obtain ⟨l, lit, told⟩ := mem_outcomes.mp hx
  rw [State.lifeNews, start, show (t.chargeLit t.litLamps).account l = t.litCharge l from t.chargeLit_account t.litLamps l] at told
  have life : t.litLife l = (t.litCharge l).lifeState := if_pos lit
  refine ⟨l, ?_⟩
  rw [life]
  split at told
  · cases told
  · next moved => exact ⟨by simpa using told, moved⟩

theorem State.litCounted_frame (t : State) : t.litCounted.power = t.power ∧ t.litCounted.timetable = t.timetable ∧
    t.litCounted.clock = t.clock := by
  unfold State.litCounted State.countLitTick
  repeat' split
  all_goals exact ⟨rfl, rfl, rfl⟩

theorem State.litTold_frame (t : State) (first : Lamp) : (t.litTold first).power = t.power ∧
    (t.litTold first).timetable = t.timetable ∧ (t.litTold first).clock = t.clock := by
  let P (x : State) : Prop := x.power = t.power ∧ x.timetable = t.timetable ∧ x.clock = t.clock
  have one : P (t.litCounted.tellLife first (t.accounts.life.get first) (t.litLife first)) :=
    State.tellLife_keeps _ _ _ t.litCounted_frame t.litCounted_frame
  exact State.tellLife_keeps (P := P) _ _ _ one one

/-- R3, R10, R21: the LAU takes a tick whose changed life states find no demand to free. -/
theorem State.accountsTick_eq {t : State} (idle : ∀ l, t.litLife l ≠ t.accounts.life.get l →
    t.BlankLegal ∧ t.power.held = false ∧ t.power.state ≠ .standby) : ∃ first, t.accountsTick = t.litTold first := by
  obtain ⟨first, out, done, news⟩ := t.recomputedLit_work
  have told : (if t.litLamps.a || t.litLamps.b then (⟨inTurn first t.litLamps (fun l x => x.recomputeLife l) (t.chargeLit t.litLamps),
      out⟩ : Work).edit State.countLitTick else ⟨inTurn first t.litLamps (fun l x => x.recomputeLife l) (t.chargeLit t.litLamps), out⟩) =
      ⟨t.litTold first, out⟩ := by
    rw [State.recomputedLit, State.litTold, State.litCounted]
    simp only [Work.edit, State.tellLife_count]
    split <;> rfl
  refine ⟨first, ?_⟩
  simp only [State.accountsTick, done]
  rw [told]
  obtain ⟨power, timetable, -⟩ := t.litTold_frame first
  refine Work.run_all_idle (fun x hx rest => ?_) _
  obtain ⟨l, rfl, moved⟩ := news x hx
  obtain ⟨blank, held, state⟩ := idle l moved
  exact Work.take_lifeChanged_self l rest (power ▸ state) (power ▸ held) (blank.frame power timetable)

/-! ### What the timetable makes of a tick at which no booking leads, starts or ends (R145, R146) -/

/-- R145: at this minute no booking of the timetable leads, starts or ends. -/
def Timetable.Eventless (x : Timetable) (minute : Nat) : Prop :=
  let cursor := if minute = 0 then 0 else x.cursor
  x.state = .disabled ∨ x.state = .noTime ∨
    (∃ b, x.active.bind x.find = some b ∧ b.config.stop + b.extension ≠ minute ∧ ¬ (b.config.stop + b.extension = 10080 ∧ minute = 0)) ∨
    (x.active = none ∧ ∀ b ∈ x.table[if cursor < x.table.length then cursor else 0]?, b.config.start ≠ minute ∧
      (x.state = .idle ∨ x.state = .grace →
        b.config.lead = 0 ∨ (b.config.start + 10080 - b.config.lead) % 10080 ≠ minute))

/-- R145: the timetable at such a minute: the week rollover alone. -/
def State.rolled (s : State) : State := { s with timetable.cursor := if s.clock.minute = 0 then 0 else s.timetable.cursor }

theorem State.tickRollover_eq (s : State) : s.tickRollover = s.rolled := by
  unfold State.tickRollover State.rolled
  split <;> rfl

theorem Timetable.awaited_eq (x : Timetable) : x.awaited = x.table[if x.cursor < x.table.length then x.cursor else 0]? := by
  unfold Timetable.awaited
  split <;> simp [List.head?_eq_getElem?]

theorem State.timetableTick_eventless {s : State} (h : s.timetable.Eventless s.clock.minute) : s.timetableTick = s.rolled := by
  unfold State.timetableTick
  split
  · next runs =>
    rcases h with off | off | ⟨b, active, stop, week⟩ | ⟨none, quiet⟩
    · simp [off, ScheduleState.runs] at runs
    · simp [off, ScheduleState.runs] at runs
    · have stays : s.tickEnd = s := by
        have later : b.endsAt s.clock.minute = false := by
          simp [Booking.endsAt, Booking.finish, Config.weekMinutes]; omega
        simp [State.tickEnd, State.activeBooking, active, later]
      obtain ⟨id, some⟩ : ∃ id, s.timetable.active = some id := by
        cases ha : s.timetable.active <;> simp_all
      have some' : s.rolled.timetable.active = .some id := some
      simp [stays, State.tickRollover_eq, State.tickLead, State.tickStart, some']
    · have stays : s.tickEnd = s := by simp [State.tickEnd, State.activeBooking, none]
      have none' : s.rolled.timetable.active = .none := none
      have awaited := s.rolled.timetable.awaited_eq
      rw [stays, State.tickRollover_eq]
      cases some : s.rolled.timetable.awaited with
      | none => simp [State.tickLead, State.tickStart, none', some]
      | some b =>
        obtain ⟨start, lead⟩ := quiet b (awaited.symm.trans some)
        have leads : s.rolled.tickLead = s.rolled := by
          have still : (s.rolled.timetable.state = .idle ∨ s.rolled.timetable.state = .grace) ∨ s.rolled.leadEvent b = s.rolled := by
            unfold State.leadEvent
            cases s.rolled.timetable.state <;> simp
          rcases still with idle | same
          · have no : s.rolled.atLeadMinute b = false := by
              have far := lead idle
              simp only [State.atLeadMinute, Config.weekMinutes, Bool.and_eq_false_iff, decide_eq_false_iff_not, beq_eq_false_iff_ne]
              exact far.imp (by omega) id
            simp [State.tickLead, none', some, no]
          · simp [State.tickLead, none', some, same]
        have starts : ¬ b.config.start = s.rolled.clock.minute := start
        simp [leads, State.tickStart, none', some, starts]
  · exact s.tickRollover_eq

/-- R145: the rollover beside the charges and their notices. -/
theorem State.litTold_rolled (t : State) (first : Lamp) : t.rolled.litTold first = (t.litTold first).rolled := by
  have tell (x : State) (l : Lamp) (old new : LifeState) : x.rolled.tellLife l old new = (x.tellLife l old new).rolled := by
    unfold State.tellLife
    split <;> rfl
  have counted : t.rolled.litCounted = t.litCounted.rolled := by
    have count (x : State) : x.rolled.countLitTick = x.countLitTick.rolled := by
      unfold State.countLitTick
      show (if x.accounts.litTicks + 1 < Config.litTickSave then _ else _) = _
      split <;> rfl
    unfold State.litCounted
    show (if t.litLamps.a || t.litLamps.b then t.litCharged.rolled.countLitTick else t.litCharged.rolled) = _
    rw [count]
    split <;> rfl
  unfold State.litTold
  rw [counted, tell, tell]
  rfl

/-- R138: a tick at which no booking leads, starts or ends, in either order of its takers. -/
theorem State.takeTick_eventless {s : State} (first : TickTaker) (eventless : s.timetable.Eventless s.clock.minute)
    (idle : ∀ l, s.litLife l ≠ s.accounts.life.get l → s.BlankLegal ∧ s.power.held = false ∧ s.power.state ≠ .standby) :
    ∃ lamp, s.takeTick first = s.rolled.litTold lamp := by
  cases first with
  | accounts =>
    obtain ⟨lamp, charged⟩ := State.accountsTick_eq idle
    obtain ⟨-, timetable, clock⟩ := s.litTold_frame lamp
    refine ⟨lamp, ?_⟩
    rw [State.takeTick, charged, State.timetableTick_eventless (by rw [timetable, clock]; exact eventless), State.litTold_rolled]
  | timetable =>
    rw [State.takeTick, State.timetableTick_eventless eventless]
    exact State.accountsTick_eq fun l moved => ⟨(idle l moved).1.timed rfl rfl, (idle l moved).2⟩

/-- R3, R10: the LAU charges a lamp that is LIT, whatever its life state frees (R57, R61). -/
theorem State.accountsTick_burns {t : State} {l : Lamp} (lit : t.lampState l = .lit) :
    t.accountsTick.Burns l (t.litCharge l) (t.litLife l) := by
  have charged : t.litCharged.Burns l (t.litCharge l) (t.litLife l) := ⟨.inl lit, by cases l <;> rfl, by cases l <;> rfl⟩
  have tell {y : State} (hy : y.Burns l (t.litCharge l) (t.litLife l)) (m : Lamp) (old new : LifeState) :
      (y.tellLife m old new).Burns l (t.litCharge l) (t.litLife l) := State.tellLife_keeps _ _ _ hy (hy.frame rfl rfl rfl)
  obtain ⟨first, out, done, -⟩ := t.recomputedLit_work
  have told := tell (tell charged first (t.accounts.life.get first) (t.litLife first)) first.other
    (t.accounts.life.get first.other) (t.litLife first.other)
  rw [← State.recomputedLit] at told
  unfold State.accountsTick
  simp only [done]
  refine (State.burns_kept l _ _).run _ ?_
  split
  · refine told.frame ?_ ?_ ?_ <;> (simp only [Work.edit_s, State.countLitTick]; split <;> rfl)
  · exact told

end Sys2Proof.Machine

open Sys2Proof Sys2Proof.Machine in
/-- Settles O16: the LAU's charges and the rollover of the timetable commute where nothing else happens at the tick; and no order that
follows a charge moves the account of a lamp that was LIT. -/
theorem minuteTickChargesLitLamps : Obligations.MinuteTickChargesLitLamps := by
  intro s first powered legal minute lit charged life moved cursor lamps ticked counted tell eventless
  let t : State := { s with clock := ⟨minute, 0, s.clock.valid⟩ }
  have clocked : ({ s with clock := s.clock.tick } : State) = t := by
    have tick : (s.clock.minute + 1) % 10080 = minute := by
      show _ = if s.clock.minute = 10079 then 0 else s.clock.minute + 1
      split <;> omega
    exact congrArg (fun m => ({ s with clock := ⟨m, 0, s.clock.valid⟩ } : State)) tick
  have run : exec (.minuteTick first) s = .next (t.takeTick first) := by
    show Host.Outcome.next (s.minuteTick first) = _
    rw [State.minuteTick, clocked]
    exact congrArg Host.Outcome.next (if_pos powered)
  have litCharge (l : Lamp) : t.litCharge l = charged l := by
    cases l <;> rfl
  have litLife (l : Lamp) : t.litLife l = life l := by
    cases l <;> rfl
  refine ⟨fun quiet idle => ?_, ?_⟩
  · have some (l : Lamp) (m : moved l) : moved .a ∨ moved .b := by
      cases l
      exacts [.inl m, .inr m]
    obtain ⟨lamp, told⟩ := State.takeTick_eventless (s := t) first quiet fun l m =>
      have still := idle (some l fun same => m ((litLife l).trans same))
      ⟨still.1.timed rfl rfl, still.2⟩
    have counts : t.rolled.litCounted = counted := by
      have lit_iff : (t.litLamps.a || t.litLamps.b) = true ↔ ¬ (lit .a = false ∧ lit .b = false) := by
        show (lit .a || lit .b) = true ↔ _
        cases lit .a <;> cases lit .b <;> decide
      have ticks : t.accounts.litTicks + 1 < Config.litTickSave ↔ s.accounts.litTicks < 5 := by
        simp only [Config.litTickSave]
        exact Nat.succ_lt_succ_iff
      have all : t.litCharged.rolled = ticked := rfl
      show (if t.litLamps.a || t.litLamps.b then t.litCharged.rolled.countLitTick else t.litCharged.rolled) = _
      rw [all]
      show _ = if lit .a = false ∧ lit .b = false then ticked else _
      by_cases dark : lit .a = false ∧ lit .b = false
      · rw [if_pos dark, if_neg (fun h => lit_iff.mp h dark)]
      · rw [if_neg dark, if_pos (lit_iff.mpr dark)]
        exact if_congr ticks rfl rfl
    have tells (l : Lamp) (x : State) : x.tellLife l (s.accounts.life.get l) (life l) = tell l x := (ite_not _ _ _).symm
    rw [run, told]
    cases lamp
    · refine .inr (congrArg Host.Outcome.next ?_)
      rw [← tells, ← tells, ← counts]
      rfl
    · refine .inl (congrArg Host.Outcome.next ?_)
      rw [← tells, ← tells, ← counts]
      rfl
  · rintro rfl l burning
    have lampLit : t.lampState l = .lit := beq_iff_eq.mp burning
    obtain ⟨-, account, held⟩ := (State.burns_kept l _ _).timetableTick (State.accountsTick_burns lampLit)
    exact ⟨_, run, account.trans (litCharge l), held.trans (litLife l)⟩
end

section
/-! PROOFS. A claim that begins a session (O25). -/

namespace Sys2Proof.Machine

/-! ### The first claim (R52, R57, R60) -/

/-- The state in which the demand set has become `d`. -/
abbrev State.wanting (s : State) (d : Demand) : State := { s with power := { s.power with demand := d } }

theorem Demand.set_ne_empty (d : Demand) (c : Claim) : (d.set c true).isEmpty = false := by
  cases c <;> simp [Demand.set, Demand.isEmpty]

/-- R52: the first claim re-checks. -/
theorem Work.takeBare_firstClaim {s : State} (c : Claim) (empty : s.power.demand = ⟨false, false, false⟩) :
    Work.takeBare (.addClaim c) ⟨s, []⟩ = Work.recheck ⟨s.wanting (s.power.demand.set c true), []⟩ := by
  have was : s.power.demand.isEmpty = true := (Demand.isEmpty_iff _).mpr empty
  simp only [Work.takeBare, Work.changeDemand, Work.edit, was, Demand.set_ne_empty, Bool.not_false, Bool.and_self, if_true]

/-- R57: the first claim in STANDBY, where a lamp is usable. -/
theorem State.firstClaim_leaves {s : State} (c : Claim) (empty : s.power.demand = ⟨false, false, false⟩) (usable : s.Usable)
    (degraded : s.power.degraded = false) (standby : s.power.state = .standby)
    (plain : s.StrikesPlainly (s.sessionBy s.power.settings.policy)) :
    ∃ first : Lamp, s.handPower (.addClaim c) = (s.wanting (s.power.demand.set c true)).leaving first := by
  have leaves : Work.recheck ⟨s.wanting (s.power.demand.set c true), []⟩ =
      Work.leaveStandby ⟨s.wanting (s.power.demand.set c true), []⟩ := by
    have yes := s.usable_iff.mp usable
    have yes' : (!s.lamps.thermalHold && (s.wanting (s.power.demand.set c true)).anyAvailable) = true := yes
    simp only [Work.recheck, standby, Demand.set_ne_empty, yes', if_true, Bool.false_eq_true, if_false]
  obtain ⟨first, run⟩ := Work.run_leaveStandby (s := s.wanting (s.power.demand.set c true)) (rest := []) (before := s.power.number)
    plain degraded (by cases h : s.power.held <;> simp [Power.number, PowerState.number, standby, degraded, h]) nofun
  refine ⟨first, ?_⟩
  rw [← run 63, ← leaves, ← Work.takeBare_firstClaim c empty]
  rfl

/-- R60: the first claim in COOLING-DOWN with no lamp in the session. -/
theorem State.firstClaim_returns {s : State} (c : Claim) (empty : s.power.demand = ⟨false, false, false⟩) (usable : s.Usable)
    (degraded : s.power.degraded = false) (cooling : s.power.state = .coolingDown) (held : s.power.held = false)
    (session : s.power.session = ⟨false, false⟩) (plain : s.StrikesPlainly (s.sessionBy s.policyCooling)) :
    ∃ first : Lamp, s.handPower (.addClaim c) = (s.wanting (s.power.demand.set c true)).returning first := by
  have returns : Work.recheck ⟨s.wanting (s.power.demand.set c true), []⟩ =
      Work.chooseCooling ⟨s.wanting (s.power.demand.set c true), []⟩ := by
    have none : (s.wanting (s.power.demand.set c true)).sessionEmpty = true := by simp [State.sessionEmpty, session]
    simp only [Work.recheck, cooling, held, none, Demand.set_ne_empty, Bool.not_false, Bool.and_self, if_true, Bool.false_eq_true,
      if_false]
  obtain ⟨first, run⟩ := Work.run_chooseCooling (s := s.wanting (s.power.demand.set c true)) (rest := []) cooling usable plain
    degraded nofun
  refine ⟨first, ?_⟩
  rw [← run 63 (by decide), ← returns, ← Work.takeBare_firstClaim c empty]
  rfl

/-! ### The power registers and the IGNITE lines of a session that begins -/

theorem State.leaving_power (s : State) (first : Lamp) : (s.leaving first).power.demand = s.power.demand ∧
    (s.power.degraded = false → (s.leaving first).power.number = 1) := by
  rw [State.leaving_eq]
  exact ⟨rfl, fun degraded => by simp [Power.number, PowerState.number, degraded]⟩

theorem State.returning_demand (s : State) (first : Lamp) : (s.returning first).power.demand = s.power.demand := by
  rw [State.returning_eq]
  split <;> rfl

theorem State.returning_number {s : State} (first : Lamp) (state : s.power.state = .coolingDown) (degraded : s.power.degraded = false) :
    (s.returning first).power.number = if s.strikesNow (s.sessionBy s.policyCooling) then 1 else 3 := by
  rw [State.returning_eq]
  split <;> simp [Power.number, PowerState.number, State.returnedPower, state, degraded]

theorem State.inTurn_ordered_powered (s : State) (first : Lamp) (sel : PerLamp Bool) :
    (inTurn first sel State.ordered s).powered = s.powered := by
  refine inTurn_keeps (P := fun t => t.powered = s.powered) (fun l t ht => ?_) first sel rfl
  unfold State.ordered
  split <;> exact ht

/-- R26: the IGNITE line of a lamp in its ignition window. -/
theorem State.igniteLine_window {s : State} {l : Lamp} (powered : s.powered = true) {n timer : Nat} {abandoned : Bool}
    (window : s.condition l = .window n timer abandoned) : s.igniteLine l = true := by
  simp [State.igniteLine, powered, window]

theorem State.leaving_ignites {s : State} (first : Lamp) {l : Lamp} (powered : s.powered = true)
    (hl : (s.sessionBy s.power.settings.policy).get l = true) (dark : s.condition l = .dark) : (s.leaving first).igniteLine l = true := by
  rw [State.leaving_eq]
  exact State.igniteLine_window ((s.inTurn_ordered_powered _ _).trans powered) (State.inTurn_window hl dark)

theorem State.returning_ignites {s : State} (first : Lamp) {l : Lamp} (powered : s.powered = true)
    (hl : (s.sessionBy s.policyCooling).get l = true) (dark : s.condition l = .dark) : (s.returning first).igniteLine l = true := by
  have still : (s.returnedOrders first).powered = true ∧ (s.returnedOrders first).condition l = .window 1 3 false := by
    have struck := State.inTurn_window (first := first) hl dark
    have on := (s.inTurn_ordered_powered first (s.sessionBy s.policyCooling)).trans powered
    unfold State.returnedOrders
    simp only
    split
    exacts [⟨on, struck⟩, ⟨on, struck⟩]
  rw [State.returning_eq]
  split
  exacts [State.igniteLine_window still.1 still.2, State.igniteLine_window still.1 still.2]

end Sys2Proof.Machine

open Sys2Proof Sys2Proof.Machine in
/-- Settles O25: the first claim re-checks, and the re-check leaves STANDBY or brings the session back; the reply and the IGNITE lines
are read off the state that this leaves. -/
theorem powerOnStrikesTheChosenLamps : Obligations.PowerOnStrikesTheChosenLamps := by
  intro s empty usable degraded strikes
  have begins (instr : Instr) (c : Claim) (d : Demand) (reply : Byte → State → State) (powered : s.powered = true)
      (set : (⟨false, false, false⟩ : Demand).set c true = d)
      (line : ∀ (b : Byte) (t : State) (l : Lamp), (reply b t).igniteLine l = t.igniteLine l)
      (run : ∀ n, (s.handPower (.addClaim c)).power.demand = d → (s.handPower (.addClaim c)).power.number = n →
        exec instr s = .next (reply (byteOf n) (s.handPower (.addClaim c)))) : strikes instr d reply := by
    have claims : s.power.demand.set c true = d := by rw [empty]; exact set
    have cooled (cooling : s.power.state = .coolingDown) (held : s.power.held = false) (none : s.power.session = ⟨false, false⟩)
        (plain : s.StrikesPlainly (s.sessionBy s.policyCooling)) (n : Nat)
        (number : (if s.strikesNow (s.sessionBy s.policyCooling) then 1 else 3) = n) :
        ∃ first : Lamp, exec instr s = .next (reply (byteOf n) ((s.wanting d).returning first)) ∧
          ∀ l : Lamp, (s.sessionBy s.policyCooling).get l = true → s.condition l = .dark → s.lines.lit.get l = false →
            (reply (byteOf n) ((s.wanting d).returning first)).igniteLine l = true := by
      obtain ⟨first, left⟩ := State.firstClaim_returns c empty usable degraded cooling held none plain
      rw [claims] at left
      rw [left] at run
      have returned := (State.returning_number (s := s.wanting d) first cooling degraded).trans number
      refine ⟨first, run n (State.returning_demand _ first) returned, fun l hl dark _ => ?_⟩
      rw [line]
      exact State.returning_ignites (s := s.wanting d) first powered hl dark
    refine ⟨?_, ?_⟩
    · intro standby session plain
      obtain ⟨first, left⟩ := State.firstClaim_leaves c empty usable degraded standby plain
      rw [claims] at left
      rw [left] at run
      obtain ⟨demand, number⟩ := State.leaving_power (s.wanting d) first
      refine ⟨first, run 1 demand (number degraded), fun l hl dark _ => ?_⟩
      rw [line]
      exact State.leaving_ignites (s := s.wanting d) first powered hl dark
    · intro cooling held none session plain
      refine ⟨fun dark => cooled cooling held none plain 1 (if_pos (State.strikesNow_iff.mpr dark)), fun dark => ?_⟩
      refine cooled cooling held none plain 3 (if_neg fun now => ?_)
      obtain ⟨l, hl, isDark⟩ := State.strikesNow_iff.mp now
      exact dark l hl isDark
  refine ⟨fun admits => begins _ .panel _ (fun number t => t.answer .panel 0x10 [] ⟨.accepted, [1, number]⟩) admits.1.1 rfl
      (fun _ _ _ => rfl) fun n demand number => ?_,
    fun ready => begins _ .facility _ (fun _ t => t.answer .facility 0x15 [1] ⟨.ok, [4]⟩) ready.1 rfl
      (fun _ _ _ => rfl) fun n demand number => ?_⟩
  · refine (admits.1.exec_request .powerOn (d := []) ⟨0x10, .powerOn, [.panel], 0⟩ rfl rfl rfl rfl (by simp) admits.2).trans ?_
    simp only [owner, powerOn, demand, number, empty]
    rfl
  · refine (ready.exec_request .facilityPowerClaim (d := [1]) ⟨0x15, .facilityPowerClaim, [.facility], 1⟩ rfl rfl rfl rfl (by simp)
      nofun).trans ?_
    have on : facilityPowerClaim [1] s = (s.handPower (.addClaim .facility),
        ⟨.ok, [(s.handPower (.addClaim .facility)).power.demand.byte]⟩) := rfl
    simp only [owner, on, demand]
    rfl
end

section
/-! PROOFS. The end of a session: the last claim goes (R52, R62). -/

namespace Sys2Proof.Machine

/-! ### Stop orders (R33, R34) -/

/-- R33: the hand-off of a stop order: a burning lamp has begun to cool. -/
def State.stopNews (s : State) (l : Lamp) : List Handoff := if (s.lampState l).savesOnLeaving then [.changed l .cooling] else []

theorem mem_stopNews {s : State} {l : Lamp} {x : Handoff} (h : x ∈ s.stopNews l) : x = .changed l .cooling := by
  unfold State.stopNews at h
  split at h <;> simp_all

/-- R33, R34: a stop order. -/
theorem Work.stop_eq {s : State} {l : Lamp} {v : Work} (same : v.s.condition l = s.condition l) :
    Work.stop l v = ⟨State.stopOrdered l v.s, v.out ++ s.stopNews l⟩ := by
  have news : s.stopNews l = if (v.s.lampState l).savesOnLeaving then [.changed l .cooling] else [] := by
    rw [State.stopNews, State.lampState, State.lampState, same]
  have burning (h : (v.s.lampState l).savesOnLeaving = true) :
      Work.changeLamp v l (v.s.fullCooling false) = ⟨((v.s.setCondition l (v.s.fullCooling false)).post (.lampState l) 3).saveAccounts,
        v.out ++ [.changed l .cooling]⟩ := Work.changeLamp_saving h _
  rw [news]
  unfold Work.stop State.stopOrdered
  unfold State.lampState at burning ⊢
  cases hc : v.s.condition l with
  | lit => exact burning (by rw [hc]; rfl)
  | window _ _ _ => exact burning (by rw [hc]; rfl)
  | retry _ _ => exact burning (by rw [hc]; rfl)
  | cooling _ _ => exact congrArg (Work.mk _) (List.append_nil _).symm
  | dark => exact congrArg (Work.mk _) (List.append_nil _).symm
  | failed _ => exact congrArg (Work.mk _) (List.append_nil _).symm

theorem State.stopOrdered_condition_other (s : State) (l : Lamp) : (State.stopOrdered l s).condition l.other = s.condition l.other := by
  unfold State.stopOrdered
  simp only
  split <;> cases l <;> rfl

/-- A stopped lamp is at rest exactly where it was. -/
theorem State.stopOrdered_resting (s : State) (l : Lamp) :
    ((State.stopOrdered l s).condition l).resting = (s.condition l).resting := by
  unfold State.stopOrdered
  simp only
  split
  case h_5 | h_6 => rfl
  all_goals next h => rw [h]; cases l <;> rfl

theorem State.stopOrdered_quiet (l : Lamp) (s : State) : (State.stopOrdered l s).quiet = s.quiet := by
  have self := s.stopOrdered_resting l
  have other := congrArg LampCondition.resting (s.stopOrdered_condition_other l)
  cases l <;> simp_all [State.quiet, Lamp.other]

/-! ### The stop of a session (R62) -/

/-- R62: the power registers of a stopped session. -/
def Power.stopped (q : Power) : Power := { q with
  demand := ⟨false, false, false⟩, state := .coolingDown, held := false, degraded := false, session := ⟨false, false⟩
  blankTimer := none, blankSpent := false }

/-- R62: the lamps stopped, lamp `first` before the other, and the power registers. -/
def State.stopped (s : State) (first : Lamp) : State :=
  { inTurn first s.power.session State.stopOrdered s with power := s.power.stopped }

theorem State.stopping_eq (s : State) (first : Lamp) :
    s.stopping first = if s.power.number = 3 then s.stopped first else (s.stopped first).post .powerState 3 := rfl

theorem State.stopped_quiet (s : State) (first : Lamp) : (s.stopped first).quiet = s.quiet := by
  have kept : (inTurn first s.power.session State.stopOrdered s).quiet = s.quiet :=
    inTurn_keeps (P := fun t => t.quiet = s.quiet) (fun l t ht => (State.stopOrdered_quiet l t).trans ht) _ _ rfl
  exact kept

/-- R62: with a lamp not at rest the session stops, without an entry into STANDBY. -/
theorem Work.stopSession_eq {s : State} (burning : s.quiet = false) : ∃ first : Lamp, Work.stopSession ⟨s, []⟩ =
    ⟨{ s.stopped first with power := { s.power with
      state := .coolingDown, held := false, degraded := false, session := ⟨false, false⟩ } },
      outcomes first s.power.session s.stopNews⟩ := by
  obtain ⟨first, done⟩ := forLamps_eq_inTurn (Q := fun l t => t.condition l = s.condition l) (serve := Work.stop) (f := State.stopOrdered)
    (g := s.stopNews) (sel := s.power.session) (w := ⟨s, []⟩) (fun l v _ same => Work.stop_eq same)
    (fun l t same => (t.stopOrdered_condition_other l).trans same) (fun _ => rfl)
  have power : (inTurn first s.power.session State.stopOrdered s).power = s.power :=
    inTurn_keeps (P := fun t => t.power = s.power) (fun l t ht => by
      unfold State.stopOrdered
      simp only
      split <;> exact ht) _ _ rfl
  refine ⟨first, ?_⟩
  simp only [Work.stopSession, done, Work.edit, power, List.nil_append]
  unfold Work.standbyTest
  refine if_neg fun h => ?_
  have quiet := s.stopped_quiet first
  rw [burning] at quiet
  exact Bool.false_ne_true (quiet.symm.trans h.2)

/-! ### The last claim (R52, R57, R62) -/

/-- What the state in which the last claim goes differs in from the state before it: the demand and the blank timer. -/
abbrev State.timed (s : State) (d : Demand) (timer : Option Nat) (spent : Bool) : State :=
  { s with power := { s.power with demand := d, blankTimer := timer, blankSpent := spent } }

/-- The stop is the same whatever the claims and the blank timer were. -/
theorem State.stopping_timed (s : State) (first : Lamp) (d : Demand) (timer : Option Nat) (spent : Bool) :
    (s.timed d timer spent).stopping first = s.stopping first := by
  have same : (s.timed d timer spent).stopped first = s.stopped first := by
    unfold State.stopped
    rw [State.timed, inTurn_power State.stopOrdered_power]
    rfl
  rw [State.stopping_eq, State.stopping_eq, same]
  rfl

/-- R60: a lamp that the stop has put to COOLING leaves COOLING-DOWN as it is. -/
theorem Work.take_cooling_stopped {s : State} {first : Lamp} (l : Lamp) (rest : List Handoff) (burning : s.quiet = false) :
    Work.take (.changed l .cooling) ⟨s.stopping first, rest⟩ = ⟨s.stopping first, rest⟩ := by
  have after : (s.stopping first).power = s.power.stopped ∧ (s.stopping first).quiet = false := by
    have quiet := (s.stopped_quiet first).trans burning
    rw [State.stopping_eq]
    split
    exacts [⟨rfl, quiet⟩, ⟨rfl, quiet⟩]
  obtain ⟨power, quiet⟩ := after
  refine Work.take_self ?_ ((State.blankLegal_iff_off (by rw [power]; simp [Power.stopped])).mpr (by rw [power]; exact ⟨rfl, rfl⟩))
  simp [Work.takeBare, Work.followLamp, power, Power.stopped, quiet]

/-- R62: the last claim goes outside STANDBY, with a lamp not at rest. -/
theorem State.lastClaim_stops {s : State} {x : Handoff}
    (bare : Work.takeBare x ⟨s, []⟩ = Work.changeDemand ⟨s, []⟩ ⟨false, false, false⟩) (present : s.power.demand ≠ ⟨false, false, false⟩)
    (state : s.power.state ≠ .standby) (burning : s.quiet = false) : ∃ first : Lamp, s.handPower x = s.stopping first := by
  obtain ⟨first, stopped⟩ := Work.stopSession_eq (s := s.timed ⟨false, false, false⟩ s.power.blankTimer s.power.blankSpent) burning
  have stops : Work.takeBare x ⟨s, []⟩ = Work.stopSession ⟨s.timed ⟨false, false, false⟩ s.power.blankTimer s.power.blankSpent, []⟩ := by
    have was := Demand.isEmpty_eq_false present
    have now : (⟨false, false, false⟩ : Demand).isEmpty = true := rfl
    rw [bare]
    simp only [Work.changeDemand, Work.edit, was, now, Bool.not_true, Bool.not_false, Bool.and_self, if_true,
      Bool.false_eq_true, if_false, state]
  have taken : Work.take x ⟨s, []⟩ = ⟨s.stopping first, outcomes first s.power.session s.stopNews⟩ := by
    simp only [Work.take, stops, stopped, Work.edit]
    rw [← s.stopping_timed first ⟨false, false, false⟩ s.power.blankTimer s.power.blankSpent, State.stopping_eq]
    refine congrArg (Work.mk · _) ?_
    by_cases same : s.power.number = 3
    · rw [if_pos (by exact same), State.unreported_off (by exact same.symm) (by simp)]
      rfl
    · rw [if_neg (by exact same), State.reported_off (n := 3) rfl (Ne.symm same) (by simp)]
      rfl
  refine ⟨first, ?_⟩
  show Work.run 63 (Work.take x ⟨s, []⟩) = _
  rw [taken]
  refine Work.run_all_idle (fun y hy rest => ?_) _
  obtain ⟨l, -, hy⟩ := mem_outcomes.mp hy
  rw [mem_stopNews hy]
  exact Work.take_cooling_stopped l rest burning

/-- R52: a change between two empty or two non-empty sets is no more than that. -/
theorem Work.changeDemand_same {w : Work} {d : Demand} (h : d.isEmpty = w.s.power.demand.isEmpty) :
    w.changeDemand d = w.edit fun s => { s with power.demand := d } := by
  unfold Work.changeDemand
  rw [h]
  cases w.s.power.demand.isEmpty <;> rfl

/-- R57: in STANDBY the end of the last claim clears held. -/
theorem Work.takeBare_lastClaim {s : State} {x : Handoff}
    (bare : Work.takeBare x ⟨s, []⟩ = Work.changeDemand ⟨s, []⟩ ⟨false, false, false⟩) (present : s.power.demand ≠ ⟨false, false, false⟩)
    (standby : s.power.state = .standby) : Work.takeBare x ⟨s, []⟩ =
      ⟨{ s with power := { s.power with demand := ⟨false, false, false⟩, held := false } }, []⟩ := by
  have was := Demand.isEmpty_eq_false present
  have now : (⟨false, false, false⟩ : Demand).isEmpty = true := rfl
  rw [bare]
  unfold Work.changeDemand
  simp only [Work.edit, was, now, Bool.not_true, Bool.not_false, Bool.and_self, if_true, Bool.false_eq_true, if_false]
  exact (if_pos standby).trans (Work.recheck_unclaimed standby rfl)

/-- R57: the last claim goes in STANDBY, where only held is cleared. -/
theorem State.lastClaim_clears {s : State} {x : Handoff}
    (bare : Work.takeBare x ⟨s, []⟩ = Work.changeDemand ⟨s, []⟩ ⟨false, false, false⟩) (present : s.power.demand ≠ ⟨false, false, false⟩)
    (standby : s.power.state = .standby) (held : s.power.held = true) (degraded : s.power.degraded = false)
    (timer : s.power.blankTimer = none) (spent : s.power.blankSpent = false) : s.handPower x =
      ({ s with power := { s.power with demand := ⟨false, false, false⟩, held := false } } : State).post .powerState 0 := by
  have taken : Work.take x ⟨s, []⟩ =
      ⟨({ s with power := { s.power with demand := ⟨false, false, false⟩, held := false } } : State).post .powerState 0, []⟩ := by
    simp only [Work.take, Work.takeBare_lastClaim bare present standby, Work.edit]
    rw [State.reported_off (n := 0) (by simp [Power.number, PowerState.number, standby, degraded])
      (by simp [Power.number, PowerState.number, standby, held, degraded]) (by simp [standby])]
    rw [← timer, ← spent]
    rfl
  show Work.run 63 (Work.take x ⟨s, []⟩) = _
  rw [taken, Work.run_empty]

end Sys2Proof.Machine
end

section
/-! PROOFS. What the PDU and the LCU leave alone, and the demand set that a hand-off leaves (R52). -/

namespace Sys2Proof.Machine

/-- `t` has what neither the PDU nor the LCU writes as `s` has it. -/
structure State.Aside (s t : State) : Prop where
  inputs : t.inputs = s.inputs
  acq : t.acq = s.acq
  bookingPreset : t.tilt.bookingPreset = s.tilt.bookingPreset
  lockout : t.lockout = s.lockout
  clock : t.clock = s.clock
  timetable : t.timetable = s.timetable
  staging : t.staging = s.staging
  ports : t.ports = s.ports
  lines : t.lines = s.lines
  powered : t.powered = s.powered

namespace State.Aside

theorem refl (s : State) : s.Aside s := ⟨rfl, rfl, rfl, rfl, rfl, rfl, rfl, rfl, rfl, rfl⟩

theorem trans {s t u : State} (st : s.Aside t) (tu : t.Aside u) : s.Aside u where
  inputs := tu.inputs.trans st.inputs
  acq := tu.acq.trans st.acq
  bookingPreset := tu.bookingPreset.trans st.bookingPreset
  lockout := tu.lockout.trans st.lockout
  clock := tu.clock.trans st.clock
  timetable := tu.timetable.trans st.timetable
  staging := tu.staging.trans st.staging
  ports := tu.ports.trans st.ports
  lines := tu.lines.trans st.lines
  powered := tu.powered.trans st.powered

theorem power (s : State) (x : Power) : s.Aside { s with power := x } := ⟨rfl, rfl, rfl, rfl, rfl, rfl, rfl, rfl, rfl, rfl⟩
theorem post (s : State) (topic : Topic) (value : Nat) : s.Aside (s.post topic value) :=
  ⟨rfl, rfl, rfl, rfl, rfl, rfl, rfl, rfl, rfl, rfl⟩
theorem setCondition (s : State) (l : Lamp) (c : LampCondition) : s.Aside (s.setCondition l c) :=
  ⟨rfl, rfl, rfl, rfl, rfl, rfl, rfl, rfl, rfl, rfl⟩
theorem setAccount (s : State) (l : Lamp) (x : LampAccount) : s.Aside (s.setAccount l x) :=
  ⟨rfl, rfl, rfl, rfl, rfl, rfl, rfl, rfl, rfl, rfl⟩
theorem zeroed (s : State) : s.Aside s.zeroSessionDropouts := ⟨rfl, rfl, rfl, rfl, rfl, rfl, rfl, rfl, rfl, rfl⟩
theorem clearTrims (s : State) : s.Aside s.clearTrims := by
  unfold State.clearTrims State.recomputeGeometry
  simp only
  split <;> exact ⟨rfl, rfl, rfl, rfl, rfl, rfl, rfl, rfl, rfl, rfl⟩
theorem recomputeLife (s : State) (l : Lamp) : s.Aside (s.recomputeLife l) := by
  unfold State.recomputeLife
  simp only
  split <;> exact ⟨rfl, rfl, rfl, rfl, rfl, rfl, rfl, rfl, rfl, rfl⟩

end State.Aside

/-! ### Work that leaves the demand set alone -/

/-- The work `w` of a step that began in `s`: what is aside is as in `s`, the demand set is `d`, and no hand-off changes it. -/
structure Work.Steady (s : State) (d : Demand) (w : Work) : Prop where
  aside : s.Aside w.s
  demand : w.s.power.demand = d
  quiet : ∀ x ∈ w.out, x.claims = false

namespace Work.Steady

variable {s : State} {d : Demand} {w : Work}

theorem frame (h : w.Steady s d) {t : State} (aside : w.s.Aside t) (demand : t.power.demand = w.s.power.demand) :
    Work.Steady s d ⟨t, w.out⟩ := ⟨h.aside.trans aside, demand.trans h.demand, h.quiet⟩

theorem hand (h : w.Steady s d) {x : Handoff} (hx : x.claims = false) : (w.hand x).Steady s d := by
  refine ⟨h.aside, h.demand, fun y hy => ?_⟩
  obtain hy | hy := List.mem_append.mp hy
  · exact h.quiet y hy
  · rw [List.mem_singleton.mp hy]; exact hx

theorem setCondition (h : w.Steady s d) (l : Lamp) (c : LampCondition) : Work.Steady s d ⟨w.s.setCondition l c, w.out⟩ :=
  h.frame (State.Aside.setCondition _ _ _) rfl

theorem moveLamp (h : w.Steady s d) (l : Lamp) (c : LampCondition) : (w.moveLamp l c).Steady s d := by
  have moved : Work.Steady s d ⟨(w.s.setCondition l c).post (.lampState l) c.state.number, w.out⟩ :=
    h.frame ((State.Aside.setCondition _ _ _).trans (State.Aside.post _ _ _)) rfl
  unfold Work.moveLamp
  simp only [Work.edit]
  split
  · exact moved.frame ⟨rfl, rfl, rfl, rfl, rfl, rfl, rfl, rfl, rfl, rfl⟩ rfl
  · exact moved

theorem changeLamp (h : w.Steady s d) (l : Lamp) (c : LampCondition) : (w.changeLamp l c).Steady s d := (h.moveLamp l c).hand rfl

theorem abandonStrike (h : w.Steady s d) (l : Lamp) : (w.abandonStrike l).Steady s d := by
  unfold Work.abandonStrike
  split
  exacts [h.setCondition l _, (h.moveLamp l _).hand rfl, h, h, h, h]

theorem recomputeLife (h : w.Steady s d) (l : Lamp) : (w.recomputeLife l).Steady s d := by
  have computed : (w.edit fun s => s.recomputeLife l).Steady s d :=
    h.frame (State.Aside.recomputeLife _ _) (by simp)
  unfold Work.recomputeLife
  simp only
  repeat' split
  exacts [computed, (computed.hand rfl).abandonStrike l, computed.hand rfl]

theorem pulse (h : w.Steady s d) (l : Lamp) : (w.pulse l).Steady s d := by
  have charged : (w.edit fun s => s.setAccount l ((s.account l).chargePulse s.accounts.weights)).Steady s d :=
    h.frame (State.Aside.setAccount _ _ _) rfl
  unfold Work.pulse
  simp only
  split
  exacts [(charged.recomputeLife l).hand rfl, charged.recomputeLife l]

theorem strike (h : w.Steady s d) (l : Lamp) : (w.strike l).Steady s d := by
  unfold Work.strike
  split
  · split
    exacts [(h.changeLamp l _).pulse l, h.hand rfl]
  exacts [h, h, h, h.setCondition l _, h.hand rfl]

theorem stop (h : w.Steady s d) (l : Lamp) : (w.stop l).Steady s d := by
  unfold Work.stop
  split
  exacts [h.changeLamp l _, h.changeLamp l _, h.changeLamp l _, h.setCondition l _, h, h]

theorem lightAtOpening (h : w.Steady s d) (l : Lamp) : (w.lightAtOpening l).Steady s d := by
  unfold Work.lightAtOpening
  split
  · split
    exacts [h.changeLamp l _, h]
  exacts [h, h, h, h, h]

/-- No act of the PDU but a change of the demand set touches the demand set or what is aside. -/
theorem pdu (s : State) (d : Demand) : KeptByPdu (Work.Steady s d) where
  power hx h := h.frame (State.Aside.power _ _) hx
  post topic value h := h.frame (State.Aside.post _ topic value) rfl
  hand hx h := h.hand hx
  trims h := h.frame (State.Aside.clearTrims _) (by simp)
  zeroed h := h.frame (State.Aside.zeroed _) rfl
  strike l _ h := h.strike l
  stop l _ h := h.stop l
  opening l _ h := h.lightAtOpening l

theorem run (n : Nat) (h : w.Steady s d) : Work.Steady s d ⟨Work.run n w, []⟩ := by
  induction n generalizing w with
  | zero => exact ⟨h.aside, h.demand, nofun⟩
  | succ n ih =>
    obtain ⟨t, out⟩ := w
    cases out with
    | nil => exact h
    | cons x rest =>
      have popped : Work.Steady s d ⟨t, rest⟩ := ⟨h.aside, h.demand, fun y hy => h.quiet y (by simp [hy])⟩
      rw [Work.run_cons]
      exact ih ((pdu s d).follow _ ((pdu s d).takeBare (h.quiet x (by simp)) popped))

end Work.Steady

/-- R52: the demand set after a hand-off that changes it, and what no such hand-off touches. -/
theorem State.handPower_demand {s : State} {x : Handoff} {d : Demand}
    (bare : Work.takeBare x ⟨s, []⟩ = Work.changeDemand ⟨s, []⟩ d) : s.Aside (s.handPower x) ∧ (s.handPower x).power.demand = d := by
  have changed : Work.Steady s d ⟨{ s with power.demand := d }, []⟩ := ⟨State.Aside.power _ _, rfl, nofun⟩
  have done := (Work.Steady.pdu s d).changeDemand (w := ⟨s, []⟩) changed
  rw [← bare] at done
  obtain ⟨aside, demand, -⟩ := ((Work.Steady.pdu s d).follow s.power.number done).run 63
  exact ⟨aside, demand⟩

theorem State.addClaim_demand (s : State) (c : Claim) :
    s.Aside (s.handPower (.addClaim c)) ∧ (s.handPower (.addClaim c)).power.demand = s.power.demand.set c true :=
  State.handPower_demand rfl

theorem State.removeClaim_demand (s : State) (c : Claim) :
    s.Aside (s.handPower (.removeClaim c)) ∧ (s.handPower (.removeClaim c)).power.demand = s.power.demand.set c false :=
  State.handPower_demand rfl

end Sys2Proof.Machine
end

section
/-! PROOFS. Every cause by which the demand set becomes empty (O26). -/

namespace Sys2Proof.Machine

/-! ### What an emptied demand set leaves -/

/-- R57, R62: `u` is what the emptied demand set of `s` leaves of `before`, which differs from `s` in what else the step does. -/
structure State.Empties (s before u : State) : Prop where
  stops : s.power.state ≠ .standby → s.quiet = false → ∃ first : Lamp, u = before.stopping first
  clears : s.power.state = .standby → s.power.held = true → s.power.degraded = false → s.BlankLegal → u =
    ({ before with power := { s.power with demand := ⟨false, false, false⟩, held := false } } : State).post .powerState 0

theorem State.stopping_timetable (s : State) (first : Lamp) (x : Timetable) :
    ({ s with timetable := x } : State).stopping first = { s.stopping first with timetable := x } := by
  have one (l : Lamp) (t : State) (y : Timetable) : (if s.power.session.get l then State.stopOrdered l { t with timetable := y }
      else { t with timetable := y }) = { (if s.power.session.get l then State.stopOrdered l t else t) with timetable := y } := by
    split
    · have same : ({ t with timetable := y } : State).condition l = t.condition l := rfl
      simp only [State.stopOrdered, same]
      cases t.condition l <;> rfl
    · rfl
  have stopped : ({ s with timetable := x } : State).stopped first = { s.stopped first with timetable := x } := by
    simp only [State.stopped, inTurn]
    rw [one first s x, one first.other]
  rw [State.stopping_eq, State.stopping_eq, stopped]
  split <;> rfl

/-- A change of the timetable after the last claim has gone. -/
theorem State.Empties.timetable {s before u : State} (h : s.Empties before u) (x : Timetable) :
    s.Empties { before with timetable := x } { u with timetable := x } where
  stops state burning := by
    obtain ⟨first, hu⟩ := h.stops state burning
    subst hu
    exact ⟨first, (before.stopping_timetable first x).symm⟩
  clears standby held degraded blank := by
    rw [h.clears standby held degraded blank]
    rfl

/-- The last claim goes in a state that differs from `before` in the demand and the blank timer. -/
theorem State.Empties.of_lastClaim {s before : State} {c : Claim} {d : Demand} {timer : Option Nat} {spent : Bool}
    (power : before.power = s.power) (quiet : before.quiet = s.quiet) (present : d ≠ ⟨false, false, false⟩)
    (last : d.set c false = ⟨false, false, false⟩)
    (off : s.power.state = .standby → s.BlankLegal → timer = none ∧ spent = false) :
    s.Empties before ((before.timed d timer spent).handPower (.removeClaim c)) where
  stops state burning := by
    obtain ⟨first, stopped⟩ := State.lastClaim_stops (s := before.timed d timer spent) (x := .removeClaim c)
      (congrArg (Work.changeDemand _) last) present (by rw [State.timed, power]; exact state) (quiet.trans burning)
    exact ⟨first, stopped.trans (before.stopping_timed first d timer spent)⟩
  clears standby held degraded blank := by
    obtain ⟨none, notSpent⟩ := off standby blank
    obtain ⟨timerOff, spentOff⟩ := (State.blankLegal_iff_off (by rw [standby]; decide)).mp blank
    rw [State.lastClaim_clears (s := before.timed d timer spent) (x := .removeClaim c) (congrArg (Work.changeDemand _) last) present
      (by rw [State.timed, power]; exact standby) (by rw [State.timed, power]; exact held)
      (by rw [State.timed, power]; exact degraded) none notSpent]
    rw [← power] at timerOff spentOff ⊢
    simp only [none, notSpent, ← timerOff, ← spentOff]

/-! ### Hand-offs that leave the demand non-empty -/

/-- R65: what the blank timer makes of a state is a matter of the timer alone, which is off outside ON. -/
theorem State.followBlankTimer_timed (s : State) : ∃ (timer : Option Nat) (spent : Bool),
    s.followBlankTimer = s.timed s.power.demand timer spent ∧ (s.power.state ≠ .on → timer = none ∧ spent = false) := by
  by_cases timing : s.blankTiming = true
  · have on : s.power.state = .on := by
      simp only [State.blankTiming, Bool.and_eq_true, beq_iff_eq] at timing
      exact timing.1.1.1
    unfold State.followBlankTimer
    rw [if_pos timing]
    split
    · exact ⟨s.power.blankTimer, s.power.blankSpent, rfl, fun off => absurd on off⟩
    · exact ⟨_, s.power.blankSpent, rfl, fun off => absurd on off⟩
  · rw [State.followBlankTimer_off (by simpa using timing)]
    exact ⟨none, false, rfl, fun _ => ⟨rfl, rfl⟩⟩

/-- R52: a claim that is removed beside another. -/
theorem State.removeClaim_beside {s : State} {c : Claim} (stays : s.power.demand.set c false ≠ ⟨false, false, false⟩) :
    s.handPower (.removeClaim c) = (s.timed (s.power.demand.set c false) s.power.blankTimer s.power.blankSpent).followBlankTimer := by
  have bare : Work.takeBare (.removeClaim c) ⟨s, []⟩ =
      ⟨s.timed (s.power.demand.set c false) s.power.blankTimer s.power.blankSpent, []⟩ := by
    have now := Demand.isEmpty_eq_false stays
    have was : s.power.demand.isEmpty = false := Demand.isEmpty_eq_false fun none => stays (by rw [none]; cases c <;> rfl)
    exact Work.changeDemand_same (w := ⟨s, []⟩) (now.trans was.symm)
  have taken : Work.take (.removeClaim c) ⟨s, []⟩ =
      ⟨(s.timed (s.power.demand.set c false) s.power.blankTimer s.power.blankSpent).followBlankTimer, []⟩ := by
    simp only [Work.take, bare, Work.edit]
    rw [State.reportPower, if_pos (by rfl)]
  show Work.run 63 (Work.take _ ⟨s, []⟩) = _
  rw [taken, Work.run_empty]

/-! ### The end of the active booking (R148) -/

/-- R128: the WCT hands over the booking claim. -/
theorem State.handBookingClaim_eq (s : State) (level : Fin 4) (c : Byte) : s.handBookingClaim level c = s.claimed level c := by
  cases window : s.lockout.window <;>
    simp [State.handBookingClaim, State.setLockout, State.claimed, Lockout.claimed, Lockout.number, Lockout.formed, window]

theorem State.claimed_timetable (s : State) (x : Timetable) (level : Fin 4) (c : Byte) :
    ({ s with timetable := x } : State).claimed level c = { s.claimed level c with timetable := x } := by
  rw [← State.handBookingClaim_eq, ← State.handBookingClaim_eq]
  unfold State.handBookingClaim State.setLockout
  simp only
  split <;> rfl

theorem State.handPresets_retimed (s : State) (x : Timetable) (booking row : Option (Fin 8)) :
    ({ s with timetable := x } : State).handPresets booking row false = { s.handPresets booking row false with timetable := x } := by
  simp only [State.handPresets, State.recomputeGeometry]
  repeat' split
  all_goals rfl

/-- R148: the state that the end of booking `b` leaves, but for the timetable and the blank timer. -/
def State.bookingEnded (s : State) (b : Booking) : State :=
  ((s.claimed 0 0).handPresets none s.tilt.rowPreset false).post (.booking b.config.id) 3

theorem State.bookingEnded_timetable (s : State) (b : Booking) (x : Timetable) :
    ({ s with timetable := x } : State).bookingEnded b = { s.bookingEnded b with timetable := x } := by
  unfold State.bookingEnded
  rw [State.claimed_timetable, State.handPresets_retimed]
  rfl

theorem State.claimed_frame (s : State) (level : Fin 4) (c : Byte) : (s.claimed level c).power = s.power ∧
    (s.claimed level c).lamps = s.lamps ∧ (s.claimed level c).tilt = s.tilt ∧ (s.claimed level c).timetable = s.timetable := by
  rw [← State.handBookingClaim_eq]
  simp [State.handBookingClaim]

theorem State.bookingEnded_frame (s : State) (b : Booking) :
    (s.bookingEnded b).power = s.power ∧ (s.bookingEnded b).lamps = s.lamps := by
  obtain ⟨power, lamps, -⟩ := s.claimed_frame 0 0
  exact ⟨(State.handPresets_power _ _ _ _).trans power, (State.handPresets_lamps _ _ _ _).trans lamps⟩

/-- R148, steps 1 to 5: the end of a booking moves the blank timer at most, which is off outside ON. -/
theorem State.endBooking_eq (s : State) (b : Booking) : ∃ (timer : Option Nat) (spent : Bool),
    s.endBooking b = { (s.bookingEnded b).timed s.power.demand timer spent with timetable := s.timetable.finish b } ∧
      (s.power.state ≠ .on → timer = none ∧ spent = false) := by
  obtain ⟨power, -, tilt, -⟩ := s.claimed_frame 0 0
  let y : State := (s.claimed 0 0).handPresets none s.tilt.rowPreset false
  have same : y.power = s.power := (State.handPresets_power _ _ _ _).trans power
  have handed : ((s.editTimetable (·.finish b)).handBookingClaim 0 0).handBookingPreset none =
      { y with timetable := s.timetable.finish b } := by
    rw [State.handBookingClaim_eq, State.editTimetable, State.claimed_timetable, State.handBookingPreset, tilt, State.handPresets_retimed]
  obtain ⟨timer, spent, timed, off⟩ := ({ y with timetable := s.timetable.finish b } : State).followBlankTimer_timed
  refine ⟨timer, spent, ?_, fun state => off (by rw [same]; exact state)⟩
  unfold State.endBooking
  simp only [handed, timed]
  rw [← same]
  rfl

/-! ### Power Off with a dismissal (R54, R150) -/

/-- R150: without an active booking that is not dismissed there is nothing to dismiss. -/
theorem State.dismiss_none {s : State} (h : ∀ b, s.activeBooking = some b → b.dismissed = true) : s.dismiss = s := by
  unfold State.dismiss
  split
  · rfl
  · next b active => exact if_pos (h b active)

theorem State.dismiss_some {s : State} {b : Booking} (active : s.activeBooking = some b) (kept : b.dismissed = false) :
    s.dismiss = (s.editTimetable (·.editBooking b.config.id (fun x => { x with dismissed := true }))).handPower
      (.removeClaim .schedule) := by
  simp [State.dismiss, active, kept]

/-! ### The grace (R149) -/

/-- R143: the lead window, in minutes of the week. -/
theorem State.inLeadWindow_iff (s : State) (b : Booking) : s.inLeadWindow b = true ↔
    ((s.timetable.active = none ∧ 0 < b.config.lead) ∧ 1 ≤ (b.config.start + 10080 - s.clock.minute) % 10080) ∧
      (b.config.start + 10080 - s.clock.minute) % 10080 ≤ b.config.lead := by
  rw [State.inLeadWindow, Bool.and_eq_true, Bool.and_eq_true, Bool.and_eq_true, decide_eq_true_eq, decide_eq_true_eq,
    decide_eq_true_eq, Option.isNone_iff_eq_none]
  rfl

/-- R143, R149: the awaited booking does not lead at this minute. -/
theorem State.leading_none {s : State} (h : ∀ b, s.timetable.awaited = some b →
    ¬ (1 ≤ (b.config.start + 10080 - s.clock.minute) % 10080 ∧ (b.config.start + 10080 - s.clock.minute) % 10080 ≤ b.config.lead)) :
    s.leading = none := by
  unfold State.leading
  rw [Option.filter_eq_none_iff]
  intro b awaited leads
  obtain ⟨⟨-, near⟩, far⟩ := (s.inLeadWindow_iff b).mp leads
  exact h b awaited ⟨near, far⟩

/-! ### The enable goes off (R152) -/

/-- R152: the grace stops, the SCHEDULE claim goes, and the timetable is DISABLED. -/
def State.withdrawn (s : State) : State :=
  { (s.editTimetable fun t => { t with grace := none }).handPower (.removeClaim .schedule) with
    timetable := { s.timetable with grace := none, state := .disabled, cursor := 0 } }

theorem State.withdrawn_eq (s : State) :
    ((s.editTimetable fun t => { t with grace := none }).handPower (.removeClaim .schedule)).editTimetable
      (fun t => { t with state := .disabled, cursor := 0 }) = s.withdrawn := by
  rw [State.editTimetable, ((s.editTimetable fun t => { t with grace := none }).removeClaim_demand .schedule).1.timetable]
  rfl

theorem State.disableSchedule_none {s : State} (none : s.activeBooking = none) : s.disableSchedule = s.withdrawn := by
  simp only [State.disableSchedule, none, State.withdrawn_eq]

theorem State.disableSchedule_some {s : State} {b : Booking} (active : s.activeBooking = some b) :
    s.disableSchedule = (s.endBooking b).withdrawn := by
  simp only [State.disableSchedule, active, State.withdrawn_eq]

/-- R152: what Set Schedule Enable off leaves where the enable was on. -/
theorem State.Ready.disables {s u : State} (ready : s.Ready .facility) (enable : s.timetable.enable = true)
    (done : ({ s with timetable.enable := false, store.scheduleEnable := some false } : State).disableSchedule = u)
    (state : u.timetable.state = .disabled) :
    exec (.setScheduleEnable .facility [0]) s = .next (u.answer .facility 0x49 [0] ⟨.ok, [0, 0]⟩) := by
  have set : setScheduleEnable [0] s = (s.setEnable false, ⟨.ok, [0, byteOf (s.setEnable false).timetable.state.number]⟩) := rfl
  have was : s.setEnable false = u := by
    unfold State.setEnable
    rw [enable]
    exact done
  refine (ready.exec_request .setScheduleEnable (d := [0]) ⟨0x49, .setScheduleEnable, [.facility], 1⟩ rfl rfl rfl rfl (by simp)
    nofun).trans ?_
  simp only [owner, set, was, state]
  rfl

end Sys2Proof.Machine

open Sys2Proof Sys2Proof.Machine in
/-- Settles O26: each command is brought to a state that differs from the named one in the demand and the blank timer alone, neither of
which the stop of the session or the clearing of held depends on. -/
theorem emptiedDemandStopsTheSession : Obligations.EmptiedDemandStopsTheSession := by
  intro s powered empties off disabled awaited leads disable
  have concludes (c : Instr) {before u : State} (reply : State → State) (h : s.Empties before u) (run : exec c s = .next (reply u)) :
      empties c before reply := by
    refine ⟨fun state burning => ?_, fun standby held degraded blank => ?_⟩
    · obtain ⟨first, hu⟩ := h.stops state burning
      subst hu
      exact ⟨first, run⟩
    · have hu := h.clears standby held degraded blank
      subst hu
      exact run
  have blankOff (standby : s.power.state = .standby) (blank : s.BlankLegal) :
      s.power.blankTimer = none ∧ s.power.blankSpent = false := (State.blankLegal_iff_off (by rw [standby]; decide)).mp blank
  -- the last claim goes in a state whose power registers are those of `s`
  have loses {before : State} (c : Claim) (power : before.power = s.power) (lamps : before.lamps = s.lamps)
      (present : s.power.demand ≠ ⟨false, false, false⟩) (last : s.power.demand.set c false = ⟨false, false, false⟩) :
      s.Empties before (before.handPower (.removeClaim c)) := by
    have quiet : before.quiet = s.quiet := by simp only [State.quiet, State.condition, lamps]
    have same : before.timed s.power.demand s.power.blankTimer s.power.blankSpent = before := by rw [State.timed, ← power]
    have emptied := State.Empties.of_lastClaim (c := c) power quiet present last blankOff
    rwa [same] at emptied
  refine ⟨fun admits demand dismissed => ?_, fun b admits schedule facility active kept => ?_, fun ready demand => ?_,
    fun timer demand => ?_, fun grace none demand idle => ?_, fun ready enable demand => ⟨fun none => ?_, fun b active => ?_⟩⟩
  · refine concludes _ off (loses .panel rfl rfl (by rw [demand]; decide) (by rw [demand]; rfl)) ?_
    obtain ⟨aside, removed⟩ := s.removeClaim_demand .panel
    have still : (s.handPower (.removeClaim .panel)).dismiss = s.handPower (.removeClaim .panel) :=
      State.dismiss_none (by rw [State.activeBooking, aside.timetable]; exact dismissed)
    refine (admits.1.exec_request .powerOff (d := []) ⟨0x11, .powerOff, [.panel], 0⟩ rfl rfl rfl rfl (by simp) admits.2).trans ?_
    simp only [owner, powerOff, still, removed, demand]
    rfl
  · intro table
    have beside : s.power.demand.set .panel false = ⟨false, true, false⟩ := by
      cases h : s.power.demand; simp_all [Demand.set]
    obtain ⟨timer, spent, timed, offOutside⟩ :=
      (s.timed ⟨false, true, false⟩ s.power.blankTimer s.power.blankSpent).followBlankTimer_timed
    have first : s.handPower (.removeClaim .panel) = s.timed ⟨false, true, false⟩ timer spent := by
      rw [State.removeClaim_beside (by rw [beside]; decide), beside, timed]
    let before : State := { s with timetable.table := table }
    have second : (s.handPower (.removeClaim .panel)).dismiss =
        (before.timed ⟨false, true, false⟩ timer spent).handPower (.removeClaim .schedule) := by
      rw [first]
      exact State.dismiss_some (s := s.timed ⟨false, true, false⟩ timer spent) active kept
    have emptied : s.Empties before ((s.handPower (.removeClaim .panel)).dismiss) := by
      rw [second]
      exact State.Empties.of_lastClaim rfl rfl (by decide) rfl
        (fun standby _ => offOutside (by show s.power.state ≠ .on; rw [standby]; decide))
    have removed := ((before.timed ⟨false, true, false⟩ timer spent).removeClaim_demand .schedule).2
    rw [← second] at removed
    refine concludes _ off emptied ?_
    refine (admits.1.exec_request .powerOff (d := []) ⟨0x11, .powerOff, [.panel], 0⟩ rfl rfl rfl rfl (by simp) admits.2).trans ?_
    simp only [owner, powerOff, removed]
    rfl
  · refine concludes _ (fun t => t.answer .facility 0x15 [0] ⟨.ok, [0]⟩) (loses .facility rfl rfl (by rw [demand]; decide)
      (by rw [demand]; rfl)) ?_
    refine (ready.exec_request .facilityPowerClaim (d := [0]) ⟨0x15, .facilityPowerClaim, [.facility], 1⟩ rfl rfl rfl rfl (by simp)
      nofun).trans ?_
    have claim : facilityPowerClaim [0] s = (s.handPower (.removeClaim .facility),
        ⟨.ok, [(s.handPower (.removeClaim .facility)).power.demand.byte]⟩) := rfl
    simp only [owner, claim, (s.removeClaim_demand .facility).2, demand]
    rfl
  · have emptied : s.Empties s ((s.timed s.power.demand none true).handPower (.removeClaim .panel)) :=
      State.Empties.of_lastClaim rfl rfl (by rw [demand]; decide) (by rw [demand]; rfl)
        (fun standby blank => absurd (blankOff standby blank).1 timer)
    refine concludes _ (fun t => t) emptied ?_
    refine (carry_powered State.blankExpiry powered).trans (congrArg Host.Outcome.next ?_)
    unfold State.blankExpiry
    rw [if_neg (by simpa [Option.isNone_iff_eq_none] using timer)]
  · refine concludes _ (fun t => t) (loses (before := { s with timetable := { s.timetable with state := .idle, grace := .none } })
      .schedule rfl rfl (by rw [demand]; decide) (by rw [demand]; rfl)) ?_
    refine (carry_powered State.graceTimerExpiry powered).trans (congrArg Host.Outcome.next ?_)
    have unled : s.leading = .none := State.leading_none fun b hb => idle b (s.timetable.awaited_eq.symm.trans hb)
    rw [State.graceTimerExpiry, if_pos grace, State.graceExpiry, unled]
    rfl
  · let before : State := { s with
      store.scheduleEnable := some false, timetable := { s.timetable with enable := false, grace := .none } }
    have emptied := (loses (before := before) .schedule rfl rfl (by rw [demand]; decide) (by rw [demand]; rfl)).timetable
      { before.timetable with state := .disabled, cursor := 0 }
    have all : ({ before with timetable := { before.timetable with state := .disabled, cursor := 0 } } : State) =
        disable s.timetable.table := by
      simp only [before, disable, none]
    rw [all] at emptied
    exact concludes _ disabled emptied (ready.disables enable
      (State.disableSchedule_none (by rw [State.activeBooking, none]; rfl)) rfl)
  · intro table ended
    let off : State := { s with timetable.enable := false, store.scheduleEnable := some false }
    obtain ⟨timer, spent, endedBooking, outside⟩ := off.endBooking_eq b
    obtain ⟨power, lamps⟩ := off.bookingEnded_frame b
    let before : State := { off.bookingEnded b with timetable := { off.timetable.finish b with grace := none } }
    have emptied := (State.Empties.of_lastClaim (s := s) (before := before) (c := .schedule) (d := s.power.demand) (timer := timer)
      (spent := spent) power (by simp only [State.quiet, State.condition, before, lamps, off]) (by rw [demand]; decide)
      (by rw [demand]; rfl) (fun standby _ => outside (by show s.power.state ≠ .on; rw [standby]; decide))).timetable
      { before.timetable with state := .disabled, cursor := 0 }
    have all : ({ before with timetable := { before.timetable with state := .disabled, cursor := 0 } } : State) =
        ended.post (.booking b.config.id) 3 := (off.bookingEnded_timetable b (disable table).timetable).symm
    rw [all] at emptied
    refine concludes _ disabled emptied (ready.disables enable ((State.disableSchedule_some (s := off) active).trans ?_) rfl)
    rw [endedBooking]
    rfl
end

section
/-! PROOFS. Factory Reset (O49). -/

namespace Sys2Proof.Machine

/-! ### The SCHEDULE claim goes in STANDBY (R52, R57) -/

/-- R52, R57: the SCHEDULE claim goes in STANDBY: held goes with the last claim; what it posts is in the queues alone. -/
theorem State.removeSchedule_standby {s : State} (standby : s.power.state = .standby) :
    ∃ (queues : PerPort NoticeQueue) (handed : PerPort (List Notice)), s.handPower (.removeClaim .schedule) =
      { s with
        power := { s.power with
          demand := { s.power.demand with schedule := false }, held := s.power.held && s.power.demand != ⟨false, true, false⟩
          blankTimer := none, blankSpent := false }
        queues := queues, handed := handed } := by
  have bare : Work.takeBare (.removeClaim .schedule) ⟨s, []⟩ = ⟨{ s with power := { s.power with
      demand := { s.power.demand with schedule := false }, held := s.power.held && s.power.demand != ⟨false, true, false⟩ } }, []⟩ := by
    by_cases last : s.power.demand = ⟨false, true, false⟩
    · have empties : s.power.demand.set .schedule false = ⟨false, false, false⟩ := by rw [last]; rfl
      rw [Work.takeBare_lastClaim (s := s) (x := .removeClaim .schedule) (congrArg (Work.changeDemand _) empties) (by rw [last]; decide)
        standby, last]
      simp
    · have same : (s.power.demand.set .schedule false).isEmpty = s.power.demand.isEmpty := by
        generalize s.power.demand = d at last ⊢
        obtain ⟨p, c, f⟩ := d
        cases p <;> cases c <;> cases f <;> simp_all [Demand.set, Demand.isEmpty]
      have kept : (s.power.held && s.power.demand != ⟨false, true, false⟩) = s.power.held := by simp [bne, last]
      rw [kept]
      exact Work.changeDemand_same (w := ⟨s, []⟩) same
  let changed : State := { s with power := { s.power with
    demand := { s.power.demand with schedule := false }, held := s.power.held && s.power.demand != ⟨false, true, false⟩ } }
  have reported : ∃ queues handed, changed.reportPower s.power.number = { changed with queues := queues, handed := handed } := by
    unfold State.reportPower
    split
    exacts [⟨_, _, rfl⟩, ⟨_, _, rfl⟩]
  obtain ⟨queues, handed, report⟩ := reported
  refine ⟨queues, handed, ?_⟩
  have taken : Work.take (.removeClaim .schedule) ⟨s, []⟩ =
      ⟨({ changed with queues := queues, handed := handed } : State).followBlankTimer, []⟩ := by
    rw [Work.take, bare, Work.edit, ← report]
  show Work.run 63 (Work.take _ ⟨s, []⟩) = _
  rw [taken, Work.run_empty, State.followBlankTimer_off (by simp [State.blankTiming, changed, standby])]

/-! ### What the reset makes of every block (R174) -/

/-- R122, R123: a record formed afresh is current. -/
theorem Tilt.freshRecord_form (t : Tilt) : t.freshRecord.record = t.freshRecord.form := by
  have same : t.freshRecord.form = { t.form with generation := 0 } := by
    unfold Tilt.form
    show (if t.preset.mode = .off then _ else _) = _
    split <;> rfl
  exact same.symm

/-- R70, R86: every row at Factory Reset. -/
theorem factoryRows : ∀ n : Fin 10, (mapVector restoredRow (Vector.replicate 10 factoryRow))[n] =
    ⟨⟨false, 0, 255, .auto, none⟩, false, .idle⟩ := by decide

/-- R174: every block at Factory Reset, before the re-check that follows the release of a thermal hold. -/
def State.factoryMade (s : State) : State :=
  { s.factoryTimetable.factoryLamps.factorySelection.factoryGeometry.clearQueues with handed := s.handed }

theorem State.factoryBlocks_eq (s : State) :
    s.factoryBlocks = if s.lamps.thermalHold then s.factoryMade.handPower .recheck else s.factoryMade := rfl

end Sys2Proof.Machine

open Sys2Proof Sys2Proof.Machine in
/-- Settles O49: the claim that goes first leaves the power registers as named; the other blocks are written outright, and the release
of the hold is one re-check of the state so made. -/
theorem factoryReset : Obligations.FactoryReset := by
  intro s ready
  have run := ready.exec_request .factoryReset (d := []) ⟨0x71, .factoryReset, [.facility], 0⟩ rfl rfl rfl rfl (by simp) nofun
  refine ⟨fun state => ?_, ?_⟩
  · refine run.trans ?_
    simp only [owner, Sys2Proof.Machine.factoryReset, if_neg state]
    rfl
  · intro standby degraded held rows presets settings reply
    obtain ⟨queues, handed, claim⟩ := State.removeSchedule_standby (s := { s with
      timetable := ⟨false, [], 0, .disabled, none, none⟩, staging := closedStaging
      store.scheduleEnable := some false, store.liveTable := some [] }) standby
    let rest (x : State) : State := { x.factoryLamps.factorySelection.factoryGeometry.clearQueues with handed := s.handed }
    let t : State := rest { s with
      timetable := ⟨false, [], 0, .disabled, none, none⟩, staging := closedStaging
      store.scheduleEnable := some false, store.liveTable := some []
      power := { s.power with demand := { s.power.demand with schedule := false }, held := held, blankTimer := none, blankSpent := false } }
    have made : s.factoryMade = t := (congrArg rest claim).trans rfl
    have resets {u : State} (hu : s.factoryBlocks = u) : exec (.factoryReset .facility []) s = .next (reply u (byteOf u.power.number)) := by
      refine run.trans ?_
      simp only [owner, Sys2Proof.Machine.factoryReset, if_pos standby, hu]
      rfl
    have blocks := s.factoryBlocks_eq
    rw [made] at blocks
    have number : byteOf t.power.number = if held then 16 else 0 := by
      have sum : t.power.number = s.power.state.number + (if held then 16 else 0) + (if s.power.degraded then 32 else 0) := rfl
      rw [sum, standby, degraded]
      cases held <;> rfl
    have blank : t.BlankLegal := (State.blankLegal_iff_off (by show s.power.state ≠ .on; rw [standby]; decide)).mpr ⟨rfl, rfl⟩
    refine ⟨t, fun idle => ?_, fun hold waits => ?_, rfl, rfl, rfl, factoryRows, rfl, rfl, ?_, rfl, rfl, rfl, rfl, rfl, rfl, rfl, rfl, rfl,
      ready.1, rfl, rfl⟩
    · rw [← number]
      refine resets (blocks.trans ?_)
      rcases idle with cool | ⟨empty, unheld⟩
      · rw [cool]; rfl
      · split
        · exact Work.run_all_idle (out := [.recheck]) (fun x hx more => by
            rw [List.mem_singleton.mp hx]
            exact Work.take_self (Work.recheckIdle_unheld more unheld fun _ => empty) blank) _
        · rfl
    · refine ⟨_, resets (blocks.trans (if_pos hold)), ?_⟩
      have checks : Work.takeBare .recheck ⟨t, []⟩ = Work.recheck ⟨t, []⟩ := if_pos (.inr waits.1)
      exact waits.rechecks (n := 63) checks nofun (by decide)
    · exact Tilt.freshRecord_form _
end

section
/-! PROOFS. A re-evaluation that begins with no booking ACTIVE and no claim (R153). -/

namespace Sys2Proof.Machine

/-! ### The selection of a booking (R93, R147) -/

/-- `t` has what no selection writes as `s` has it. -/
structure State.Selecting (s t : State) : Prop where
  power : t.power = s.power
  lockout : t.lockout = s.lockout
  clock : t.clock = s.clock
  timetable : t.timetable = s.timetable
  staging : t.staging = s.staging
  ports : t.ports = s.ports
  lines : t.lines = s.lines

theorem State.selecting_kept (s : State) : KeptBySelection fun t => s.Selecting t where
  acq _ _ h := ⟨h.power, h.lockout, h.clock, h.timetable, h.staging, h.ports, h.lines⟩
  status _ _ h := ⟨h.power, h.lockout, h.clock, h.timetable, h.staging, h.ports, h.lines⟩
  post _ _ h := ⟨h.power, h.lockout, h.clock, h.timetable, h.staging, h.ports, h.lines⟩
  selected _ h := ⟨h.power, h.lockout, h.clock, h.timetable, h.staging, h.ports, h.lines⟩
  presets _ _ _ h := ⟨by simpa using h.power, by simpa using h.lockout, by simpa using h.clock, by simpa using h.timetable,
    by simpa using h.staging, by simpa using h.ports, by simpa using h.lines⟩

theorem State.selected_kept (x : Option Selection) : KeptByAcquisition fun t => t.acq.selected = x where
  acq _ same h := same.trans h
  status _ _ h := h
  post _ _ h := h

/-- R89, R94: a selection selects. -/
theorem State.selectRow_selected (s : State) (n : Fin 10) (m : SelectMethod) : (s.selectRow n m).acq.selected = some ⟨n, m⟩ := by
  have kept := State.selected_kept (some ⟨n, m⟩)
  unfold State.selectRow
  split
  · unfold State.selectAgain
    simp only
    split
    · exact kept.restartRow n m rfl
    · rfl
  · refine kept.beginAcquisition n (kept.post _ _ ?_)
    simp [State.handSelection]

theorem State.resolve_congr {s t : State} (h : t.inputs = s.inputs) (c : Byte) : t.resolve c = s.resolve c := by
  have rows : t.row = s.row := funext fun n => by simp only [State.row, h]
  unfold State.resolve State.rowsMatching
  rw [rows]

/-! ### The start of a booking (R147) -/

/-- R147, step 3: the selection that booking `b` asks for, with its NO-MATCH. -/
def State.bookingSelection (s : State) (b : Booking) : State × Bool :=
  if b.config.sourceClass = 0 then (s, false) else s.selectForBooking b.config.sourceClass

theorem State.bookingSelection_selecting (s : State) (b : Booking) : s.Selecting (s.bookingSelection b).1 := by
  have refl : s.Selecting s := ⟨rfl, rfl, rfl, rfl, rfl, rfl, rfl⟩
  unfold State.bookingSelection
  split
  exacts [refl, s.selecting_kept.selectForBooking _ refl]

theorem State.bookingSelection_none {s : State} {b : Booking} (h : b.config.sourceClass = 0 ∨ (s.resolve b.config.sourceClass).row = none) :
    (s.bookingSelection b).1 = s := by
  unfold State.bookingSelection State.selectForBooking
  split
  · rfl
  · next named => rw [h.resolve_left named]

theorem State.bookingSelection_some {s : State} {b : Booking} {n : Fin 10} (named : b.config.sourceClass ≠ 0)
    (found : (s.resolve b.config.sourceClass).row = some n) :
    (s.bookingSelection b).1.acq.selected = some ⟨n, .byClass b.config.sourceClass⟩ := by
  unfold State.bookingSelection State.selectForBooking
  rw [if_neg named, found]
  exact s.selectRow_selected n _

/-- R147, steps 4 to 7, after the selection. -/
def State.bookingApplied (x : State) (b : Booking) (noMatch : Bool) : State :=
  let y := (x.handBookingPreset b.config.preset).handBookingClaim b.config.lockout b.config.sourceClass
  let y := match b.config.mode.level with
    | none => y
    | some level => y.setLevel level
  let y := y.followBlankTimer.post (.booking b.config.id) 2
  if noMatch then y.post (.booking b.config.id) 4 else y

/-- R147: the two together. -/
theorem State.applyBooking_eq (s : State) (b : Booking) :
    s.applyBooking b = (s.bookingSelection b).1.bookingApplied b (s.bookingSelection b).2 := rfl

/-- The claim on the lockout. -/
theorem State.claimed_lockout (s : State) (level : Fin 4) (c : Byte) : (s.claimed level c).lockout = s.lockout.claimed level c := by
  unfold State.claimed
  exact (apply_ite State.lockout _ _ _).trans (ite_self _)

/-- What the steps after the selection leave of the state. -/
structure State.Applies (x : State) (b : Booking) (t : State) : Prop where
  lockout : t.lockout = x.lockout.claimed b.config.lockout b.config.sourceClass
  preset : t.tilt.bookingPreset = b.config.preset
  level : ∀ level ∈ b.config.mode.level, t.power.level = level
  demand : t.power.demand = x.power.demand
  acq : t.acq = x.acq
  inputs : t.inputs = x.inputs
  timetable : t.timetable = x.timetable
  clock : t.clock = x.clock
  staging : t.staging = x.staging
  ports : t.ports = x.ports
  lines : t.lines = x.lines

/-- R117: the hand-off of the booking preset writes it. -/
theorem State.handPresets_booking (s : State) (booking row : Option (Fin 8)) (clear : Bool) :
    (s.handPresets booking row clear).tilt.bookingPreset = booking := by
  have computed (u : State) : u.recomputeGeometry.tilt.bookingPreset = u.tilt.bookingPreset := by
    unfold State.recomputeGeometry
    simp only
    split <;> rfl
  unfold State.handPresets
  simp only
  split
  exacts [computed _, rfl]

/-- What writes the level, the blank timer and the queues alone adds nothing. -/
theorem State.Applies.frame {x t : State} {b : Booking} (h : x.Applies b t) {p : Power} (demand : p.demand = t.power.demand)
    (level : p.level = t.power.level) (queues : PerPort NoticeQueue) (handed : PerPort (List Notice)) :
    x.Applies b { t with power := p, queues := queues, handed := handed } :=
  { h with demand := demand.trans h.demand, level := fun l hl => level.trans (h.level l hl) }

theorem State.bookingApplied_applies (x : State) (b : Booking) (noMatch : Bool) : x.Applies b (x.bookingApplied b noMatch) := by
  let y := (x.handBookingPreset b.config.preset).handBookingClaim b.config.lockout b.config.sourceClass
  let z := match b.config.mode.level with
    | none => y
    | some level => y.setLevel level
  have lockout : y.lockout = x.lockout.claimed b.config.lockout b.config.sourceClass := by
    simp only [y, State.handBookingClaim_eq, State.claimed_lockout, State.handBookingPreset, State.handPresets_lockout]
  have preset : y.tilt.bookingPreset = b.config.preset := by
    simp only [y, State.handBookingClaim, State.setLockout_tilt, State.handBookingPreset, State.handPresets_booking]
  have same : y.power = x.power ∧ y.acq = x.acq ∧ y.inputs = x.inputs ∧ y.timetable = x.timetable ∧ y.clock = x.clock ∧
      y.staging = x.staging ∧ y.ports = x.ports ∧ y.lines = x.lines := by
    simp [y, State.handBookingClaim, State.handBookingPreset]
  obtain ⟨power, acq, inputs, timetable, clock, staging, ports, lines⟩ := same
  have levelled : x.Applies b z := by
    have demand : y.power.demand = x.power.demand := congrArg Power.demand power
    simp only [z]
    cases mode : b.config.mode.level with
    | none =>
      exact ⟨lockout, preset, fun l hl => absurd (mode.symm.trans hl) nofun, demand, acq, inputs, timetable, clock, staging, ports, lines⟩
    | some level =>
      exact ⟨lockout, preset, fun l hl => Option.some.inj (mode.symm.trans hl), demand, acq, inputs, timetable, clock, staging, ports,
        lines⟩
  obtain ⟨timer, spent, timed, -⟩ := z.followBlankTimer_timed
  have applied : x.bookingApplied b noMatch =
      if noMatch then (z.followBlankTimer.post (.booking b.config.id) 2).post (.booking b.config.id) 4
      else z.followBlankTimer.post (.booking b.config.id) 2 := rfl
  rw [applied, timed]
  have told (queues : PerPort NoticeQueue) (handed : PerPort (List Notice)) :=
    levelled.frame (p := { z.power with blankTimer := timer, blankSpent := spent }) rfl rfl queues handed
  split
  exacts [told _ _, told _ _]

/-- R147: what the start of booking `b` at index `i` leaves, where the live fields of every booking are clear. -/
theorem State.startBooking_starts {s : State} {i : Nat} {b : Booking} (cleared : ∀ x ∈ s.timetable.table, x.fresh = x) :
    let u := s.startBooking i b
    let chosen := (s.resolve b.config.sourceClass).row
    u.timetable = { s.timetable with state := .active, active := some b.config.id, cursor := i, grace := none } ∧
    u.power.demand = { s.power.demand with schedule := true } ∧
    u.lockout = s.lockout.claimed b.config.lockout b.config.sourceClass ∧ u.tilt.bookingPreset = b.config.preset ∧
    (b.config.sourceClass = 0 ∨ chosen = none → u.acq = s.acq ∧ u.inputs = s.inputs) ∧
    (∀ n : Fin 10, b.config.sourceClass ≠ 0 → chosen = some n → u.acq.selected = some ⟨n, .byClass b.config.sourceClass⟩) ∧
    (∀ level ∈ b.config.mode.level, u.power.level = level) ∧
    u.clock = s.clock ∧ u.staging = s.staging ∧ u.ports = s.ports ∧ u.lines = s.lines := by
  intro u chosen
  let v := s.editTimetable (·.begin i b)
  obtain ⟨aside, demand⟩ := v.addClaim_demand .schedule
  let w := v.handPower (.addClaim .schedule)
  have selecting := w.bookingSelection_selecting b
  have applies : (w.bookingSelection b).1.Applies b u := by
    rw [show u = w.applyBooking b from rfl, State.applyBooking_eq]
    exact State.bookingApplied_applies _ _ _
  have resolved : (w.resolve b.config.sourceClass).row = chosen := by
    rw [State.resolve_congr (s := s) aside.inputs]
  have same : (s.timetable.begin i b).table = s.timetable.table := by
    have each : s.timetable.table.map (fun x => if x.config.id = b.config.id then x.fresh else x) = s.timetable.table.map id :=
      List.map_congr_left fun x hx => by rw [cleared x hx, ite_self]; rfl
    exact each.trans (List.map_id _)
  have begun : s.timetable.begin i b =
      { s.timetable with state := .active, active := some b.config.id, cursor := i, grace := none } := by
    have eta : s.timetable.begin i b = { s.timetable with
      table := (s.timetable.begin i b).table, state := .active, active := some b.config.id, cursor := i, grace := none } := rfl
    rw [eta, same]
  refine ⟨?_, ?_, ?_, applies.preset, fun none => ?_, fun n named found => ?_, applies.level, ?_, ?_, ?_, ?_⟩
  · rw [applies.timetable, selecting.timetable, aside.timetable, ← begun]; rfl
  · rw [applies.demand, selecting.power, demand]; rfl
  · rw [applies.lockout, selecting.lockout, aside.lockout]; rfl
  · have unselected := State.bookingSelection_none (s := w) (b := b) (none.imp id resolved.trans)
    rw [applies.acq, applies.inputs, unselected]
    exact ⟨aside.acq, aside.inputs⟩
  · rw [applies.acq]
    exact State.bookingSelection_some named (resolved.trans found)
  · rw [applies.clock, selecting.clock, aside.clock]; rfl
  · rw [applies.staging, selecting.staging, aside.staging]; rfl
  · rw [applies.ports, selecting.ports, aside.ports]; rfl
  · rw [applies.lines, selecting.lines, aside.lines]; rfl

end Sys2Proof.Machine
end

section
/-! PROOFS. The re-evaluation of Service Reset (O48). -/

namespace Sys2Proof.Machine

/-! ### The booking around a minute and the cursor (R153) -/

/-- R141, R153: of a table in order and without overlap one booking at most contains a minute, and the search finds it. -/
theorem containing_eq {table : List Booking} {m i : Nat} {b : Booking} (ordered : table.Pairwise fun x y => x.finish ≤ y.config.start)
    (at_i : table[i]? = some b) (inside : b.contains m = true) : table.findIdx? (fun x => x.contains m) = some i := by
  rw [List.findIdx?_eq_some_iff_getElem]
  obtain ⟨hi, rfl⟩ := List.getElem?_eq_some_iff.mp at_i
  refine ⟨hi, inside, fun j hj both => ?_⟩
  have apart := List.pairwise_iff_getElem.mp ordered j i (by omega) hi hj
  simp only [Booking.contains, Bool.and_eq_true, decide_eq_true_eq] at inside both
  omega

/-- R153, step 4: the cursor is the number of bookings that start at or before the minute. -/
theorem cursorAt_eq {table : List Booking} {m i : Nat} (hi : i ≤ table.length) (before : ∀ b ∈ table.take i, b.config.start ≤ m)
    (after : ∀ b ∈ table.drop i, m < b.config.start) : cursorAt table m = i := by
  induction table generalizing i with
  | nil =>
    obtain rfl : i = 0 := Nat.le_zero.mp hi
    rfl
  | cons x rest ih =>
    cases i with
    | zero =>
      have now : m < x.config.start := after x (by simp)
      simp [cursorAt, List.findIdx?_cons, now]
    | succ i =>
      have later : ¬ m < x.config.start := Nat.not_lt.mpr (before x (by simp))
      have tail := ih (Nat.le_of_succ_le_succ hi) (fun b hb => before b (by simp [hb])) (fun b hb => after b (by simpa using hb))
      rw [cursorAt] at tail
      rw [cursorAt, List.findIdx?_cons, decide_eq_false later]
      cases found : rest.findIdx? (fun b => m < b.config.start) <;> simp_all

/-! ### A re-evaluation with no claim (R153) -/

theorem State.clearedTable_fresh (s : State) : ∀ x ∈ s.clearedTable, x.fresh = x := by
  intro x hx
  obtain ⟨b, -, rfl⟩ := List.mem_map.mp hx
  rfl

/-- R52: a claim that is not there is removed without a change. -/
theorem State.removeClaim_none {s : State} (c : Claim) (demand : s.power.demand = ⟨false, false, false⟩) (blank : s.BlankLegal) :
    s.handPower (.removeClaim c) = s := by
  have bare : Work.takeBare (.removeClaim c) ⟨s, []⟩ = ⟨s, []⟩ := by
    have empty : s.power.demand.set c false = ⟨false, false, false⟩ := by rw [demand]; cases c <;> rfl
    have same := Work.changeDemand_same (w := ⟨s, []⟩) (d := s.power.demand.set c false) (by rw [empty, demand])
    refine same.trans ?_
    rw [Work.edit, empty, ← demand]
  show Work.run 63 (Work.take _ ⟨s, []⟩) = _
  rw [Work.take_self bare blank, Work.run_empty]

/-- R153: the re-evaluation in IDLE, no booking having been ACTIVE. -/
theorem State.reevaluate_eq {s : State} (state : s.timetable.state = .idle) :
    let v := s.editTimetable fun t => { t with table := s.clearedTable }
    s.reevaluate Before.nothing = match s.clearedTable.findIdx? (fun b => b.contains s.clock.minute) with
      | some i => match s.clearedTable[i]? with
        | some b => v.startBooking i b
        | none => v
      | none => v.reevaluateEmpty Before.nothing := by
  rw [State.reevaluate, state]
  rfl

theorem Booking.contains_iff (b : Booking) (m : Nat) :
    b.contains m = true ↔ b.config.start ≤ m ∧ m < b.config.stop + b.extension := by
  rw [Booking.contains, Bool.and_eq_true, decide_eq_true_eq, decide_eq_true_eq]
  rfl

/-- R153: the re-evaluation in IDLE that finds a booking around the minute. -/
theorem State.reevaluate_starts {s : State} (state : s.timetable.state = .idle)
    (legal : savedTableLegal (s.timetable.table.map (fun b => b.config))) {i : Nat} {b : Booking} (at_i : s.clearedTable[i]? = some b)
    (inside : b.contains s.clock.minute = true) : s.Starts none i b.config (s.reevaluate Before.nothing) := by
  have ordered : s.clearedTable.Pairwise fun x y => x.finish ≤ y.config.start := by
    have same : (s.timetable.table.map (fun b => b.config)).map (fun c => (⟨c, 0, false⟩ : Booking)) = s.clearedTable := List.map_map
    rw [← same]
    exact legal.2.2.1
  have started : s.reevaluate Before.nothing =
      (s.editTimetable fun t => { t with table := s.clearedTable }).startBooking i b := by
    rw [State.reevaluate_eq state, containing_eq ordered at_i inside]
    simp only [at_i]
  rw [started]
  obtain ⟨timetable, claims, lockout, preset, unselected, selected, level, rest⟩ :=
    State.startBooking_starts (s := s.editTimetable fun t => { t with table := s.clearedTable }) (i := i) (b := b) s.clearedTable_fresh
  exact ⟨timetable, claims, lockout, preset, unselected, selected, fun full => level .full (by rw [full]; rfl),
    fun eco => level .eco (by rw [eco]; rfl), rest⟩

/-- R153, steps 4 and 5: the re-evaluation in IDLE that finds none, with no claim. -/
theorem State.reevaluate_closes {s : State} (state : s.timetable.state = .idle) (demand : s.power.demand = ⟨false, false, false⟩)
    (blank : s.BlankLegal) (active : s.timetable.active = none) {i : Nat}
    (outside : ∀ b ∈ s.clearedTable, ¬ b.contains s.clock.minute = true) (hi : i ≤ s.clearedTable.length)
    (before : ∀ b ∈ s.clearedTable.take i, b.config.start ≤ s.clock.minute)
    (after : ∀ b ∈ s.clearedTable.drop i, s.clock.minute < b.config.start) : s.Closes none none i (s.reevaluate Before.nothing) := by
  let v : State := { s with timetable := { s.timetable with table := s.clearedTable, active := none, cursor := i } }
  have decided : s.reevaluate Before.nothing = (v.decideState none).expireEmptyGrace := by
    have none : s.clearedTable.findIdx? (fun b => b.contains s.clock.minute) = .none := by
      simpa [List.findIdx?_eq_none_iff] using outside
    rw [State.reevaluate_eq state, none]
    have base : v = { s with timetable := { s.timetable with
        table := s.clearedTable, cursor := cursorAt s.clearedTable s.clock.minute } } := by
      rw [cursorAt_eq hi before after]
      simp only [v, ← active]
    rw [base]
    rfl
  rw [decided]
  refine ⟨fun b awaited leads => ?_, fun unled => ⟨fun graced => ?_, fun _ => ?_⟩⟩
  · obtain ⟨lead, near, far⟩ := leads
    have leading : v.leading = some b := by
      rw [State.leading, Option.filter_eq_some_iff]
      refine ⟨v.timetable.awaited_eq.trans awaited, ?_⟩
      exact (v.inLeadWindow_iff b).mpr ⟨⟨⟨rfl, lead⟩, near⟩, far⟩
    have led : v.decideState none = v.enterLead b := by
      rw [State.decideState, leading]
      rfl
    let w := v.editTimetable fun t => { t with state := .lead, grace := none }
    obtain ⟨aside, claimed⟩ := w.addClaim_demand .schedule
    have kept : (v.enterLead b).expireEmptyGrace = v.enterLead b := by
      have none : (v.enterLead b).timetable.grace = .none := congrArg Timetable.grace aside.timetable
      rw [State.expireEmptyGrace, none]
      rfl
    rw [led, kept]
    refine ⟨aside.timetable, claimed, aside.lockout, aside.bookingPreset, aside.acq, aside.inputs, aside.clock, aside.staging, aside.ports,
      aside.lines, fun _ claim => ?_⟩
    have empty : s.convertedDemand none = ⟨false, false, false⟩ := demand
    simp [empty] at claim
  · exact absurd (state.symm.trans graced) (by decide)
  · let w := v.editTimetable fun t => { t with state := .idle, grace := none }
    have leading : v.leading = none := State.leading_none fun b awaited window =>
      unled b (v.timetable.awaited_eq.symm.trans awaited) ⟨by omega, window⟩
    have idle : v.decideState none = w := by
      have unclaimed : v.enterIdle = w := State.removeClaim_none _ demand
        (blank.timed rfl (by simp only [State.blankTiming, v, State.editTimetable, active]))
      have notGrace : ¬ v.timetable.state = .grace := fun grace => absurd (state.symm.trans grace) (by decide)
      rw [State.decideState, leading, ← unclaimed]
      exact if_neg notGrace
    have kept : w.expireEmptyGrace = w := if_neg nofun
    have whole : w = { v with
        power.demand := { s.convertedDemand none with schedule := false }
        timetable := { v.timetable with state := .idle, grace := none } } := by
      have same : ({ s.power.demand with schedule := false } : Demand) = s.power.demand := by rw [demand]
      show w = { v with
        power := { s.power with demand := { s.power.demand with schedule := false } }
        timetable := { v.timetable with state := .idle, grace := none } }
      rw [same]
      rfl
    rw [idle, kept]
    exact ⟨rfl, congrArg (fun x : State => x.power.demand) whole, rfl, rfl, rfl, rfl, rfl, rfl, rfl, rfl, fun _ _ => whole⟩

/-- R153: a re-evaluation in IDLE with no claim, no booking having been ACTIVE and no lead having run. -/
theorem State.reevaluate_idle {s : State} (state : s.timetable.state = .idle) (demand : s.power.demand = ⟨false, false, false⟩) :
    s.Reevaluates none none (s.reevaluate Before.nothing) := by
  intro legal blank active
  refine ⟨fun i b at_i within => ⟨nofun, fun _ => ?_⟩, fun i outside hi before after => ?_⟩
  · exact State.reevaluate_starts state legal at_i ((b.contains_iff _).mpr within)
  · exact State.reevaluate_closes state demand blank (active rfl) (fun b hb => (b.contains_iff _).not.mpr (outside b hb)) hi before after

/-! ### What the reset makes of the lamps (R23, R49, R69) -/

/-- R49: a lamp at service reset. -/
theorem LampCondition.tripped_eq (c : LampCondition) (coolDown : Nat) : c.tripped coolDown =
    if c.state == .lit || c.state == .striking then .cooling coolDown false
    else match c with
      | .cooling timer _ => .cooling timer false
      | c => c := by
  cases c <;> rfl

/-- R60: a lamp at rest is at rest after the reset. -/
theorem LampCondition.tripped_resting (c : LampCondition) (coolDown : Nat) :
    (c.tripped coolDown).resting = (c == .dark || c == .failed 0) := by
  cases c with
  | failed fan => cases fan <;> rfl
  | _ => rfl

theorem LampState.savesOnLeaving_eq (x : LampState) : x.savesOnLeaving = (x == .lit || x == .striking) := by cases x <;> rfl

/-- R23: the LAU saves where a lamp was burning. -/
theorem State.serviceLamps_eq (s : State) : s.serviceLamps =
    { s with
      lamps := ⟨s.lamps.lamp.map (fun x => ⟨x.condition.tripped s.lamps.params.coolDown, 0⟩), false, s.lamps.params⟩
      accounts.litTicks := if s.burning.a || s.burning.b then 0 else s.accounts.litTicks
      store.accounts := if s.burning.a || s.burning.b then some s.accounts.saved else s.store.accounts } := by
  have saved (w : State) : (if s.burning.count = 0 then w else w.saveAccounts) = { w with
      accounts.litTicks := if s.burning.a || s.burning.b then 0 else w.accounts.litTicks
      store.accounts := if s.burning.a || s.burning.b then some w.accounts.saved else w.store.accounts } := by
    unfold PerLamp.count
    cases s.burning.a <;> cases s.burning.b <;> rfl
  exact saved _

/-- R69, R86, R103, R123, R136, R156, R166, R183: the other blocks at service reset. -/
def State.serviceRest (s : State) : State :=
  let s := s.servicePower.serviceSelection
  ({ s with
    tilt := s.tilt.serviceReset
    lockout := openLockout s.lockout.manual
    timetable := openingTimetable s.timetable.enable (s.timetable.table.map Booking.config) s.clock.valid
    staging := closedStaging } : State).clearQueues

theorem State.serviceBlocks_eq (s : State) : s.serviceBlocks = s.serviceLamps.serviceRest := rfl

theorem mapVector_get {α β : Type} {n : Nat} (f : α → β) (v : Vector α n) (i : Fin n) : (mapVector f v)[i] = f v[i] := by
  simp [mapVector]

theorem State.clearLive_row (s : State) (n : Fin 10) : s.clearLive.row n = ⟨(s.row n).config, false, .idle⟩ :=
  mapVector_get _ s.inputs n

theorem openingTimetable_eq (enable valid : Bool) (table : List Booking) :
    openingTimetable enable (table.map Booking.config) valid =
      ⟨enable, table.map (fun b => ⟨b.config, 0, false⟩), 0,
        if enable then (if valid then .idle else .noTime) else .disabled, none, none⟩ := by
  have state : openingState enable valid = if enable then (if valid then .idle else .noTime) else .disabled := by
    cases enable <;> cases valid <;> rfl
  rw [openingTimetable, List.map_map, state]
  rfl

end Sys2Proof.Machine

open Sys2Proof Sys2Proof.Machine in
/-- Settles O48: the state of every block is written outright; the re-evaluation begins in IDLE without a claim, where it starts the one
booking around the minute, leads the awaited one or stays IDLE. -/
theorem serviceReset : Obligations.ServiceReset := by
  intro s ready burning resting state schedule reply
  have hit : (s.burning.a || s.burning.b) = (burning .a || burning .b) := by
    simp only [State.burning, LampState.savesOnLeaving_eq]
    rfl
  let lamps : PerLamp LampControl := s.lamps.lamp.map (fun x => ⟨x.condition.tripped s.lamps.params.coolDown, 0⟩)
  let t : State := State.serviceRest { s with
    lamps := ⟨lamps, false, s.lamps.params⟩
    accounts.litTicks := if burning .a || burning .b then 0 else s.accounts.litTicks
    store.accounts := if burning .a || burning .b then some s.accounts.saved else s.store.accounts }
  have made : s.serviceBlocks = t := by rw [State.serviceBlocks_eq, State.serviceLamps_eq, hit]
  have run {u : State} (hu : t.reevaluate Before.nothing = u) : exec (.serviceReset .facility []) s = .next (reply u) := by
    have done := ready.exec_request .serviceReset (d := []) ⟨0x70, .serviceReset, [.facility], 0⟩ rfl rfl rfl rfl (by simp) nofun
    refine done.trans ?_
    simp only [owner, Sys2Proof.Machine.serviceReset, made, hu]
    rfl
  have timetable : t.timetable = ⟨s.timetable.enable, s.timetable.table.map (fun b => ⟨b.config, 0, false⟩), 0, schedule, none, none⟩ :=
    openingTimetable_eq _ _ _
  have quiet : (lamps.a.condition.resting && lamps.b.condition.resting) = (resting .a && resting .b) :=
    congrArg₂ _ (LampCondition.tripped_resting _ _) (LampCondition.tripped_resting _ _)
  refine ⟨t, fun off => run ?_, fun enable valid => ⟨_, run rfl, ?_⟩, fun l => ⟨?_, ?_⟩, rfl, rfl, rfl, rfl,
    ?_, fun n => ?_, rfl, rfl, ?_, rfl, rfl, timetable, rfl, rfl, rfl, rfl, rfl, rfl, ready.1, rfl⟩
  · have still : t.timetable.state.runs = false := by
      have state : t.timetable.state = schedule := congrArg Timetable.state timetable
      rw [state]
      rcases off with off | off <;> simp only [schedule, off] <;> cases s.timetable.enable <;> rfl
    rw [State.reevaluate, still]
    rfl
  · exact State.reevaluate_idle (by rw [timetable]; simp [schedule, enable, valid]) rfl
  · cases l <;> rfl
  · cases l <;> exact (LampCondition.tripped_eq _ _).trans rfl
  · have state' : (if lamps.a.condition.resting && lamps.b.condition.resting then PowerState.standby else .coolingDown) = state := by
      rw [quiet]
    rw [← state']
    rfl
  · exact State.clearLive_row _ n
  · exact Tilt.freshRecord_form _
end

section
/-! PROOFS. What the lamp events leave of the power registers and of lamps at rest (O57). -/

namespace Sys2Proof.Machine

/-! ### Lamps at rest (R60) -/

theorem State.quiet_iff (s : State) : s.quiet = true ↔ ∀ l, (s.condition l).resting = true := by
  rw [State.quiet, Bool.and_eq_true]
  exact ⟨fun ⟨a, b⟩ l => by cases l; exacts [a, b], fun h => ⟨h .a, h .b⟩⟩

theorem State.quiet_congr {s t : State} (h : t.lamps = s.lamps) : t.quiet = s.quiet := by
  simp only [State.quiet, State.condition, h]

theorem Lamp.eq_or_eq_other (m l : Lamp) : m = l ∨ m = l.other := by cases m <;> cases l <;> simp [Lamp.other]

/-- `t` has the power registers of `s`, and a booking is ACTIVE in both or in neither. -/
structure State.SamePower (s t : State) : Prop where
  power : t.power = s.power
  active : t.timetable.active.isNone = s.timetable.active.isNone

/-- And its lamps are at rest where those of `s` are. -/
structure State.Spares (s t : State) : Prop extends s.SamePower t where
  quiet : s.quiet = true → t.quiet = true

namespace State.SamePower

variable {s t u : State} {w : Work}

theorem trans (st : s.SamePower t) (tu : t.SamePower u) : s.SamePower u := ⟨tu.power.trans st.power, tu.active.trans st.active⟩

theorem spares (h : s.SamePower t) (lamps : t.lamps = s.lamps) : s.Spares t :=
  ⟨h, fun quiet => (State.quiet_congr lamps).trans quiet⟩

/-- A lamp that is not at rest may become anything. -/
theorem busy (h : s.SamePower t) {l : Lamp} (busy : (s.condition l).resting = false) : s.Spares t :=
  ⟨h, fun quiet => absurd (s.quiet_iff.mp quiet l) (by rw [busy]; decide)⟩

/-- A lamp that comes to rest leaves the lamps at rest. -/
theorem rests (h : s.SamePower t) {l : Lamp} (own : (t.condition l).resting = true) (other : t.condition l.other = s.condition l.other) :
    s.Spares t := by
  refine ⟨h, fun quiet => t.quiet_iff.mpr fun m => ?_⟩
  obtain rfl | rfl := Lamp.eq_or_eq_other m l
  · exact own
  · rw [other]; exact s.quiet_iff.mp quiet _

/-! ### Changes of a lamp -/

theorem moveLamp (h : s.SamePower w.s) (l : Lamp) (c : LampCondition) : s.SamePower (w.moveLamp l c).s := by
  simp only [Work.moveLamp, Work.edit_s]
  split <;> exact ⟨h.power, h.active⟩

theorem changeLamp (h : s.SamePower w.s) (l : Lamp) (c : LampCondition) : s.SamePower (w.changeLamp l c).s := h.moveLamp l c

theorem fail (h : s.SamePower w.s) (l : Lamp) (cause : Nat) : s.SamePower (w.fail l cause).s :=
  changeLamp (w := w.edit fun s => s.post (.lampFailed l) cause) ⟨h.power, h.active⟩ l _

theorem dropout (h : s.SamePower w.s) (l : Lamp) : s.SamePower (w.dropout l).s := by
  unfold Work.dropout
  simp only
  split
  · refine changeLamp ?_ l _
    exact ⟨h.power, h.active⟩
  · refine fail ?_ l 2
    exact ⟨h.power, h.active⟩

end State.SamePower

namespace State.Spares

variable {s t u : State} {w : Work}

theorem refl (s : State) : s.Spares s := ⟨⟨rfl, rfl⟩, id⟩

theorem trans (st : s.Spares t) (tu : t.Spares u) : s.Spares u := ⟨st.toSamePower.trans tu.toSamePower, tu.quiet ∘ st.quiet⟩

theorem frame (st : s.Spares t) (power : u.power = t.power) (active : u.timetable.active.isNone = t.timetable.active.isNone)
    (lamps : u.lamps = t.lamps) : s.Spares u := st.trans (SamePower.spares ⟨power, active⟩ lamps)

theorem abandonStrike (h : s.Spares w.s) (l : Lamp) : s.Spares (w.abandonStrike l).s := by
  refine h.trans ?_
  unfold Work.abandonStrike
  split
  case h_1 c => exact SamePower.busy ⟨rfl, rfl⟩ (l := l) (by rw [c]; rfl)
  case h_2 c => exact (SamePower.moveLamp ⟨rfl, rfl⟩ l _).busy (l := l) (by rw [c]; rfl)
  all_goals exact refl _

theorem recomputeLife (h : s.Spares w.s) (l : Lamp) : s.Spares (w.recomputeLife l).s := by
  have computed : s.Spares (w.s.recomputeLife l) := h.frame (by simp) (by simp) (by simp)
  unfold Work.recomputeLife
  simp only
  repeat' split
  exacts [computed, abandonStrike (w := (w.edit fun s => s.recomputeLife l).hand (.lifeChanged l)) computed l, computed]

theorem pulse (h : s.Spares w.s) (l : Lamp) : s.Spares (w.pulse l).s := by
  have charged : s.Spares (w.edit fun s => s.setAccount l ((s.account l).chargePulse s.accounts.weights)).s := h.frame rfl rfl rfl
  unfold Work.pulse
  simp only
  split
  exacts [charged.recomputeLife l, charged.recomputeLife l]

theorem lightAtOpening (h : s.Spares w.s) (l : Lamp) : s.Spares (w.lightAtOpening l).s := by
  refine h.trans ?_
  unfold Work.lightAtOpening
  split
  case h_1 c =>
    split
    · exact (SamePower.changeLamp ⟨rfl, rfl⟩ l .lit).busy (l := l) (by rw [c]; rfl)
    · exact refl _
  all_goals exact refl _

end State.Spares

namespace State.SamePower

variable {s : State} {w : Work}

theorem pulse (h : s.SamePower w.s) (l : Lamp) : s.SamePower (w.pulse l).s := h.trans ((State.Spares.refl w.s).pulse l).toSamePower

theorem beginStrike (h : s.SamePower w.s) (l : Lamp) : s.SamePower (w.beginStrike l).s := (h.changeLamp l _).pulse l

theorem strike (h : s.SamePower w.s) (l : Lamp) : s.SamePower (w.strike l).s := by
  unfold Work.strike
  split
  · split
    exacts [h.beginStrike l, h]
  exacts [h, h, h, ⟨h.power, h.active⟩, h]

theorem stop (h : s.SamePower w.s) (l : Lamp) : s.SamePower (w.stop l).s := by
  unfold Work.stop
  split
  exacts [h.changeLamp l _, h.changeLamp l _, h.changeLamp l _, ⟨h.power, h.active⟩, h, h]

end State.SamePower

/-! ### Lamp events -/

namespace Work

theorem windowExpiry_spares (w : Work) (l : Lamp) : w.s.Spares (w.windowExpiry l).s := by
  have same : w.s.SamePower w.s := ⟨rfl, rfl⟩
  unfold Work.windowExpiry
  split
  case h_1 c =>
    have busy : (w.s.condition l).resting = false := by rw [c]; rfl
    repeat' split
    exacts [(same.moveLamp l _).busy busy, State.SamePower.busy ⟨rfl, rfl⟩ busy, (same.fail l 1).busy busy]
  all_goals exact .refl _

theorem retryExpiry_spares (w : Work) (l : Lamp) : w.s.Spares (w.retryExpiry l).s := by
  unfold Work.retryExpiry
  split
  case h_1 c =>
    have busy : (w.s.condition l).resting = false := by rw [c]; rfl
    split
    · refine State.SamePower.busy (State.SamePower.pulse ?_ l) busy
      exact ⟨rfl, rfl⟩
    · exact (State.SamePower.fail ⟨rfl, rfl⟩ l 1).busy busy
  all_goals exact .refl _

theorem coolDownExpiry_spares (w : Work) (l : Lamp) : w.s.Spares (w.coolDownExpiry l).s := by
  have same : w.s.SamePower w.s := ⟨rfl, rfl⟩
  unfold Work.coolDownExpiry
  split
  case h_1 c =>
    have busy : (w.s.condition l).resting = false := by rw [c]; rfl
    repeat' split
    exacts [(same.beginStrike l).busy busy, (same.moveLamp l _).busy busy, (same.changeLamp l _).busy busy]
  all_goals exact .refl _

theorem fanTimeEnd_spares (w : Work) (l : Lamp) : w.s.Spares (w.fanTimeEnd l).s := by
  unfold Work.fanTimeEnd
  split
  case h_1 fan c =>
    split
    · exact .refl _
    · next running => exact State.SamePower.busy (l := l) ⟨rfl, rfl⟩ (by rw [c]; simpa [LampCondition.resting] using running)
  all_goals exact .refl _

theorem litRise_spares (w : Work) (l : Lamp) : w.s.Spares (w.litRise l).s := by
  unfold Work.litRise
  simp only
  split
  case h_1 striking =>
    refine State.SamePower.busy (State.SamePower.changeLamp ?_ l .lit) ((w.s.resting_eq_false_iff l).mpr (.inl striking))
    exact ⟨rfl, rfl⟩
  all_goals exact State.SamePower.spares ⟨rfl, rfl⟩ rfl

theorem litFall_spares (w : Work) (l : Lamp) : w.s.Spares (w.litFall l).s := by
  unfold Work.litFall
  simp only
  split
  · next lit =>
    refine State.SamePower.busy (State.SamePower.dropout ?_ l) ((w.s.resting_eq_false_iff l).mpr (.inr (.inl lit)))
    exact ⟨rfl, rfl⟩
  · exact State.SamePower.spares ⟨rfl, rfl⟩ rfl

theorem thermalTrip_spares (w : Work) : w.s.Spares w.thermalTrip.s := by
  let tripped : State := { w.s.mapConditions (·.tripped w.s.lamps.params.coolDown) with lamps.thermalHold := true }
  have cooled : w.s.Spares tripped := by
    refine ⟨⟨rfl, rfl⟩, fun quiet => tripped.quiet_iff.mpr fun l => ?_⟩
    have same : tripped.condition l = (w.s.condition l).tripped w.s.lamps.params.coolDown := by cases l <;> rfl
    have rests := w.s.quiet_iff.mp quiet l
    rw [same, LampCondition.tripped_resting]
    cases c : w.s.condition l <;> simp_all [LampCondition.resting]
  have told (s : State) (hs : w.s.Spares s) :
      w.s.Spares (forLamps w.s.burning (fun l s => s.post (.lampState l) LampState.cooling.number) s) :=
    forLamps_keeps (fun t => w.s.Spares t) _ _ _ (fun _ _ ht => ht.frame rfl rfl rfl) hs
  have posted := told (tripped.post .thermalTrip w.s.burning.count) (cooled.frame rfl rfl rfl)
  simp only [Work.thermalTrip, Work.hand_s, Work.edit_s]
  split
  exacts [posted, posted.frame rfl rfl rfl]

theorem thermalClear_spares (w : Work) : w.s.Spares w.thermalClear.s := by
  unfold Work.thermalClear
  split
  exacts [⟨⟨rfl, rfl⟩, fun quiet => quiet⟩, .refl _]

end Work

end Sys2Proof.Machine
end

section
/-! PROOFS. What the PDU leaves of STANDBY (O57). -/

namespace Sys2Proof.Machine

/-- `t` has the power state, the session and the latched policy of `s`, and its lamps are at rest where those of `s` are. -/
structure State.Alike (s t : State) : Prop where
  state : t.power.state = s.power.state
  session : t.power.session = s.power.session
  latched : t.power.latched = s.power.latched
  quiet : s.quiet = true → t.quiet = true

theorem State.Alike.of_lamps {s t : State} (state : t.power.state = s.power.state) (session : t.power.session = s.power.session)
    (latched : t.power.latched = s.power.latched) (lamps : t.lamps = s.lamps) : s.Alike t :=
  ⟨state, session, latched, fun quiet => (State.quiet_congr lamps).trans quiet⟩

theorem State.Spares.alike {s t : State} (h : s.Spares t) : s.Alike t :=
  ⟨congrArg Power.state h.power, congrArg Power.session h.power, congrArg Power.latched h.power, h.quiet⟩

/-! ### Outside STANDBY -/

namespace Work

variable {w : Work}

theorem strikeSession_power (w : Work) : w.strikeSession.s.power = w.s.power :=
  (forLamps_keeps (fun v => w.s.SamePower v.s) _ _ w (fun l _ h => h.strike l) ⟨rfl, rfl⟩).power

theorem setHeld_state (w : Work) : w.setHeld.s.power.state = w.s.power.state := by
  unfold Work.setHeld
  split <;> rfl

theorem chooseCooling_state (w : Work) : w.chooseCooling.s.power.state = w.s.power.state := by
  unfold Work.chooseCooling
  simp only
  split
  · exact setHeld_state _
  · rw [strikeSession_power]; rfl

theorem strike_power (w : Work) (l : Lamp) : (w.strike l).s.power = w.s.power := (State.SamePower.strike ⟨rfl, rfl⟩ l).power

theorem join_state (w : Work) (l : Lamp) : (w.join l).s.power.state = w.s.power.state := by
  unfold Work.join
  split
  · rw [strike_power]; rfl
  · rfl

theorem failover_state (w : Work) (l : Lamp) : (w.failover l).s.power.state = w.s.power.state := by
  unfold Work.failover
  split
  exacts [rfl, w.join_state _, w.join_state _, w.join_state _]

/-- R58: a loss does not lead to STANDBY. -/
theorem loseLamp_state (l : Lamp) (h : w.s.power.state ≠ .standby) : (w.loseLamp l).s.power.state ≠ .standby := by
  have left : ∀ v : Work, v.s.power.state = w.s.power.state → (if v.s.sessionEmpty then
      let w := v.setHeld
      if w.s.power.state = .warming then w.edit fun s => { s with power.state := .coolingDown } else w
    else v).s.power.state ≠ .standby := by
    intro v hv
    simp only
    repeat' split
    · exact nofun
    · rw [setHeld_state, hv]; exact h
    · rw [hv]; exact h
  unfold Work.loseLamp
  split
  · refine left _ ?_
    split
    exacts [rfl, failover_state _ l]
  · exact h

end Work

/-! ### Legal in STANDBY -/

namespace State.StandbyLegal

variable {s t : State} {w : Work}

theorem of_ne (h : s.power.state ≠ .standby) : s.StandbyLegal := fun standby => absurd standby h

theorem alike (h : s.StandbyLegal) (st : s.Alike t) : t.StandbyLegal := fun standby => by
  obtain ⟨quiet, session, latched⟩ := h (st.state.symm.trans standby)
  exact ⟨st.quiet quiet, st.session.trans session, st.latched.trans latched⟩

/-- What is written beside the lamps, the power state, the session and the latched policy. -/
theorem beside (h : s.StandbyLegal) (state : t.power.state = s.power.state) (session : t.power.session = s.power.session)
    (latched : t.power.latched = s.power.latched) (lamps : t.lamps = s.lamps) : t.StandbyLegal :=
  h.alike (.of_lamps state session latched lamps)

theorem setHeld (h : w.s.StandbyLegal) : w.setHeld.s.StandbyLegal := by
  unfold Work.setHeld
  split
  exacts [h, h.beside rfl rfl rfl rfl]

theorem recheck (h : w.s.StandbyLegal) : w.recheck.s.StandbyLegal := by
  unfold Work.recheck
  split
  · repeat' split
    exacts [h.beside rfl rfl rfl rfl, of_ne nofun, h.setHeld]
  · next cooling =>
    have here (v : Work) (hv : v.s.power.state = w.s.power.state) : v.s.StandbyLegal := of_ne (by rw [hv, cooling]; decide)
    repeat' split
    exacts [here _ rfl, h, here _ (by rw [Work.strikeSession_power]; rfl), here _ w.chooseCooling_state, h,
      here _ w.chooseCooling_state, h]
  · exact h
  · exact h

theorem recheckIdle (h : w.s.StandbyLegal) : w.recheckIdle.s.StandbyLegal := by
  unfold Work.recheckIdle
  split
  exacts [h.recheck, h]

/-- R60: the entry into STANDBY with the lamps at rest. -/
theorem enterStandby (quiet : w.s.quiet = true) : w.enterStandby.s.StandbyLegal := by
  let left : State := { w.s with power.state := .standby, power.session := ⟨false, false⟩, power.latched := none, power.degraded := false }
  have blanked : (left.setBlank false).power.session = ⟨false, false⟩ ∧ (left.setBlank false).power.latched = none := by
    unfold State.setBlank
    split <;> exact ⟨rfl, rfl⟩
  have entered : ((left.setBlank false).zeroSessionDropouts.clearTrims).StandbyLegal := by
    intro _
    refine ⟨?_, ?_, ?_⟩
    · rw [State.quiet_congr (State.clearTrims_lamps _)]
      have same (l : Lamp) : (left.setBlank false).zeroSessionDropouts.condition l = w.s.condition l := by
        cases l <;> simp [State.condition, State.zeroSessionDropouts, State.setSessionDropouts, PerLamp.set, PerLamp.get, left]
      exact (State.quiet_iff _).mpr fun l => by rw [same]; exact w.s.quiet_iff.mp quiet l
    · rw [State.clearTrims_power]; exact blanked.1
    · rw [State.clearTrims_power]; exact blanked.2
  unfold Work.enterStandby
  simp only
  split
  · exact entered
  · exact setHeld (w := w.edit _) entered

theorem standbyTest (h : w.s.StandbyLegal) : w.standbyTest.s.StandbyLegal := by
  unfold Work.standbyTest
  split
  · next entry => exact enterStandby entry.2
  · exact h

/-- R47: in STANDBY no lamp is in the session, so none is lost. -/
theorem loseLamp (h : w.s.StandbyLegal) (l : Lamp) : (w.loseLamp l).s.StandbyLegal := by
  by_cases standby : w.s.power.state = .standby
  · have none : w.s.power.session.get l = false := by
      rw [(h standby).2.1]
      cases l <;> rfl
    unfold Work.loseLamp
    rw [none]
    exact h
  · exact of_ne (Work.loseLamp_state l standby)

theorem followLamp (h : w.s.StandbyLegal) (l : Lamp) (began : Bool) : (w.followLamp l began).s.StandbyLegal := by
  unfold Work.followLamp
  split
  · exact h.recheck
  · split
    exacts [of_ne nofun, h]
  · repeat' split
    all_goals exact of_ne nofun
  · repeat' split
    · exact of_ne nofun
    · next quiet => exact enterStandby quiet
    · exact h.recheck
    · exact h

theorem loseAndFollow (h : w.s.StandbyLegal) (l : Lamp) : (w.loseAndFollow l).s.StandbyLegal := by
  unfold Work.loseAndFollow
  simp only
  split
  exacts [(h.loseLamp l).standbyTest, (h.loseLamp l).followLamp l false]

theorem takeTrip (h : w.s.StandbyLegal) : w.takeTrip.s.StandbyLegal := by
  have held : (if w.s.power.demand.isEmpty then w else w.setHeld).s.StandbyLegal := by
    split
    exacts [h, h.setHeld]
  unfold Work.takeTrip
  generalize (if w.s.power.demand.isEmpty then w else w.setHeld) = v at held
  simp only
  split
  exacts [of_ne nofun, held]

theorem stopSession (w : Work) : w.stopSession.s.StandbyLegal := standbyTest (of_ne nofun)

theorem changeDemand (h : w.s.StandbyLegal) (d : Demand) : (w.changeDemand d).s.StandbyLegal := by
  have changed : (w.edit fun s => { s with power.demand := d }).s.StandbyLegal := h.beside rfl rfl rfl rfl
  unfold Work.changeDemand
  simp only
  repeat' split
  exacts [changed.recheck, changed.recheck, stopSession _, changed]

theorem convertClaim (h : w.s.StandbyLegal) : w.convertClaim.s.StandbyLegal := by
  unfold Work.convertClaim
  simp only
  repeat' split
  exacts [h, h.changeDemand _, h.changeDemand _]

theorem takeBare (h : w.s.StandbyLegal) (x : Handoff) : (w.takeBare x).s.StandbyLegal := by
  cases x with
  | changed l c =>
    cases c with
    | failed => exact h.loseAndFollow l
    | striking => exact h.followLamp l true
    | dark => exact h.followLamp l false
    | lit => exact h.followLamp l false
    | cooling => exact h.followLamp l false
  | abandoned l => exact h.loseAndFollow l
  | declined l => exact h.loseLamp l
  | declinedDark l => exact h.loseAndFollow l
  | fanOver l =>
    simp only [Work.takeBare]
    split
    · next entry => exact enterStandby entry.2
    · exact h.recheckIdle
  | lifeChanged l => exact h.recheckIdle
  | tripped => exact h.takeTrip
  | holdCleared => exact h.recheckIdle
  | recheck => exact h.recheckIdle
  | addClaim c => exact h.changeDemand _
  | removeClaim c => exact h.changeDemand _
  | convert => exact h.convertClaim
  | opening l => exact h.alike ((State.Spares.refl w.s).lightAtOpening l).alike

theorem followBlankTimer (h : s.StandbyLegal) : s.followBlankTimer.StandbyLegal := by
  unfold State.followBlankTimer
  repeat' split
  exacts [h, h.beside rfl rfl rfl rfl, h.beside rfl rfl rfl rfl]

theorem take (h : w.s.StandbyLegal) (x : Handoff) : (w.take x).s.StandbyLegal :=
  followBlankTimer ((h.takeBare x).beside (by simp) (by simp) (by simp) (by simp))

theorem run (n : Nat) (h : w.s.StandbyLegal) : (Work.run n w).StandbyLegal :=
  Work.run_keeps State.StandbyLegal (fun x _ hw => hw.take x) n w h

end State.StandbyLegal

end Sys2Proof.Machine
end

section
/-! PROOFS. What leaves the lamps and the power registers alone (O57). -/

namespace Sys2Proof.Machine

/-- `t` has the lamps and the power registers of `s`, and a booking is ACTIVE in both or in neither. -/
structure State.Apart (s t : State) : Prop extends s.SamePower t where
  lamps : t.lamps = s.lamps

namespace State.Apart

variable {s t u : State}

theorem refl (s : State) : s.Apart s := ⟨⟨rfl, rfl⟩, rfl⟩

theorem trans (st : s.Apart t) (tu : t.Apart u) : s.Apart u := ⟨st.toSamePower.trans tu.toSamePower, tu.lamps.trans st.lamps⟩

/-- As `trans`, the last change first. -/
theorem after (tu : t.Apart u) (st : s.Apart t) : s.Apart u := st.trans tu

theorem spares (h : s.Apart t) : s.Spares t := h.toSamePower.spares h.lamps

/-! ### Shared operations -/

theorem post (s : State) (topic : Topic) (v : Nat) : s.Apart (s.post topic v) := ⟨⟨rfl, rfl⟩, rfl⟩
theorem setPort (s : State) (p : Port) (x : PortUnit) : s.Apart (s.setPort p x) := ⟨⟨rfl, rfl⟩, rfl⟩
theorem setPresent (s : State) (n : Fin 10) (x : Bool) : s.Apart (s.setPresent n x) := ⟨⟨rfl, rfl⟩, rfl⟩
theorem setLockout (s : State) (x : Lockout) : s.Apart (s.setLockout x) := ⟨⟨by simp, by simp⟩, by simp⟩
theorem recomputeGeometry (s : State) : s.Apart s.recomputeGeometry := ⟨⟨by simp, by simp⟩, by simp⟩
theorem handPresets (s : State) (b r : Option (Fin 8)) (clear : Bool) : s.Apart (s.handPresets b r clear) := ⟨⟨by simp, by simp⟩, by simp⟩
theorem clearTrims (s : State) : s.Apart s.clearTrims := ⟨⟨by simp, by simp⟩, by simp⟩
theorem takeHanded (s : State) (p : Port) (t : Topic) (v : BitVec 16) : s.Apart (s.takeHanded p t v) := ⟨⟨by simp, by simp⟩, by simp⟩

theorem editTimetable (s : State) {f : Timetable → Timetable} (h : (f s.timetable).active.isNone = s.timetable.active.isNone) :
    s.Apart (s.editTimetable f) := ⟨⟨rfl, h⟩, rfl⟩

/-! ### Notices, ports and lockout -/

theorem takeNotice (s : State) (p : Port) (d : List Byte) : s.Apart (takeNotice p d s).1 := by
  unfold Machine.takeNotice
  simp only
  split <;> exact ⟨⟨rfl, rfl⟩, rfl⟩

theorem setNoticeMask (s : State) (p : Port) (d : List Byte) : s.Apart (setNoticeMask p d s).1 := by
  unfold Machine.setNoticeMask
  split <;> exact ⟨⟨rfl, rfl⟩, rfl⟩

theorem setManualLockout (s : State) (d : List Byte) : s.Apart (setManualLockout d s).1 := by
  unfold Machine.setManualLockout
  repeat' split
  · exact refl s
  · exact after (setLockout _ _) ⟨⟨rfl, rfl⟩, rfl⟩
  · exact refl s

theorem openServiceWindow (s : State) (d : List Byte) : s.Apart (openServiceWindow d s).1 := by
  unfold Machine.openServiceWindow
  split
  exacts [setLockout s _, refl s]

theorem interByteExpiry (s : State) (p : Port) : s.Apart (s.interByteExpiry p) := by
  unfold State.interByteExpiry
  split
  exacts [refl s, setPort s _ _, setPort s _ _, setPort s _ _, refl s]

theorem replyEnd (s : State) (p : Port) : s.Apart (s.replyEnd p) := by
  unfold State.replyEnd
  split
  exacts [setPort s _ _, refl s]

theorem serviceWindowExpiry (s : State) : s.Apart s.serviceWindowExpiry := by
  unfold State.serviceWindowExpiry
  split
  exacts [setLockout s _, refl s]

/-! ### Selection and the input table -/

theorem kept_by_selection (s : State) : KeptBySelection fun t => s.Apart t where
  acq _ _ st := ⟨⟨st.power, st.active⟩, st.lamps⟩
  status _ _ st := ⟨⟨st.power, st.active⟩, st.lamps⟩
  post _ _ st := ⟨⟨st.power, st.active⟩, st.lamps⟩
  selected _ st := ⟨⟨st.power, st.active⟩, st.lamps⟩
  presets _ _ _ st := st.trans (handPresets _ _ _ _)

theorem restartRow (s : State) (n : Fin 10) (m : SelectMethod) : s.Apart (s.restartRow n m) :=
  (kept_by_selection s).toKeptByAcquisition.restartRow n m (refl s)
theorem selectRow (s : State) (n : Fin 10) (m : SelectMethod) : s.Apart (s.selectRow n m) :=
  (kept_by_selection s).selectRow n m (refl s)
theorem clearSelection (s : State) (cause : Nat) : s.Apart (s.clearSelection cause) :=
  (kept_by_selection s).clearSelection cause (refl s)
theorem selectForBooking (s : State) (c : Byte) : s.Apart (s.selectForBooking c).1 :=
  (kept_by_selection s).selectForBooking c (refl s)

theorem selectInput (s : State) (d : List Byte) : s.Apart (selectInput d s).1 := by
  unfold Machine.selectInput
  repeat' split
  exacts [refl s, selectRow s _ _, refl s, refl s]

theorem selectClass (s : State) (d : List Byte) : s.Apart (selectClass d s).1 := by
  unfold Machine.selectClass
  simp only
  repeat' split
  exacts [refl s, refl s, selectRow s _ _, refl s]

theorem rewritePreset (s : State) (old new : RowConfig) : s.Apart (s.rewritePreset old new) := by
  unfold State.rewritePreset
  split
  exacts [refl s, handPresets s _ _ _]

theorem rewriteKept (s : State) (x : Selection) (old new : RowConfig) : s.Apart (s.rewriteKept x old new).1 := by
  unfold State.rewriteKept
  split
  exacts [rewritePreset s old new, (restartRow s _ _).trans (rewritePreset _ old new)]

theorem rewriteSelected (s : State) (x : Selection) (old new : RowConfig) : s.Apart (s.rewriteSelected x old new).1 := by
  unfold State.rewriteSelected
  simp only
  repeat' split
  exacts [clearSelection s _, rewriteKept s x old new, rewriteKept s x old new, selectRow s _ _, clearSelection s _]

theorem writeRow (s : State) (n : Fin 10) (new : RowConfig) : s.Apart (s.writeRow n new).1 := by
  have written : s.Apart (s.editRow n (fun r => { r with config := new })).saveRows := ⟨⟨rfl, rfl⟩, rfl⟩
  unfold State.writeRow
  simp only
  repeat' split
  exacts [written.trans (rewriteSelected _ _ _ _), written, written]

theorem writeInputRow (s : State) (d : List Byte) : s.Apart (writeInputRow d s).1 := by
  unfold Machine.writeInputRow
  repeat' split
  exacts [refl s, writeRow s _ _, refl s]

theorem readInputRow (s : State) (d : List Byte) : s.Apart (readInputRow d s).1 := by
  unfold Machine.readInputRow
  repeat' split
  all_goals exact refl s

theorem setAcquisitionParameters (s : State) (d : List Byte) : s.Apart (setAcquisitionParameters d s).1 := by
  unfold Machine.setAcquisitionParameters
  split <;> exact ⟨⟨rfl, rfl⟩, rfl⟩

theorem windowExpiry (s : State) : s.Apart s.windowExpiry := by
  unfold State.windowExpiry
  repeat' split
  all_goals exact ⟨⟨rfl, rfl⟩, rfl⟩

theorem syncSelected (s : State) (x : Selection) (locked : Bool) : s.Apart (s.syncSelected x locked) := by
  have lock : s.Apart (s.lockRow x.row) := ⟨⟨rfl, rfl⟩, rfl⟩
  unfold State.syncSelected
  split
  exacts [lock, lock, restartRow s _ _, refl s, refl s, refl s, refl s]

theorem syncReport (s : State) (d : List Byte) : s.Apart (Machine.syncReport d s).1 := by
  have effect (n : Fin 10) (locked : Bool) : s.Apart (s.syncReport n locked) := by
    unfold State.syncReport
    simp only
    repeat' split
    exacts [(setPresent s _ _).trans (syncSelected _ _ _), syncSelected s _ _, setPresent s _ _, setPresent s _ _]
  unfold Machine.syncReport
  repeat' split
  exacts [effect _ _, refl s, refl s]

theorem presenceReport (s : State) (d : List Byte) : s.Apart (Machine.presenceReport d s).1 := by
  have effect (bits : Nat) : s.Apart (s.presenceReport bits) := by
    unfold State.presenceReport
    generalize mapVectorIdx (fun i (r : InputRow) => { r with present := bits.testBit i }) s.inputs = rows
    have seen : s.Apart { s with inputs := rows } := ⟨⟨rfl, rfl⟩, rfl⟩
    simp only
    repeat' split
    exacts [seen.trans (restartRow _ _ _), seen, seen]
  unfold Machine.presenceReport
  repeat' split
  · simp only
    split
    exacts [effect _, refl s]
  · exact refl s

/-! ### Tilt and geometry -/

theorem nudgeCorner (s : State) (d : List Byte) : s.Apart (nudgeCorner d s).1 := by
  unfold Machine.nudgeCorner
  repeat' split
  · exact refl s
  · exact after (recomputeGeometry _) ⟨⟨rfl, rfl⟩, rfl⟩
  · exact refl s

theorem writePreset (s : State) (d : List Byte) : s.Apart (writePreset d s).1 := by
  unfold Machine.writePreset
  repeat' split
  · exact refl s
  · exact refl s
  · simp only
    split
    · exact after (recomputeGeometry _) ⟨⟨rfl, rfl⟩, rfl⟩
    · exact ⟨⟨rfl, rfl⟩, rfl⟩
  · exact refl s

theorem readPreset (s : State) (d : List Byte) : s.Apart (readPreset d s).1 := by
  unfold Machine.readPreset
  repeat' split
  all_goals exact refl s

theorem storeSessionTrims (s : State) (d : List Byte) : s.Apart (storeSessionTrims d s).1 :=
  after (clearTrims _) ⟨⟨rfl, rfl⟩, rfl⟩

theorem setKeystoneCalibration (s : State) (d : List Byte) : s.Apart (setKeystoneCalibration d s).1 := by
  unfold Machine.setKeystoneCalibration
  split
  · exact after (recomputeGeometry _) ⟨⟨rfl, rfl⟩, rfl⟩
  · exact refl s

theorem readCorners (s : State) (d : List Byte) : s.Apart (readCorners d s).1 := by
  unfold Machine.readCorners
  repeat' split
  all_goals exact refl s

theorem encoderPassage (s : State) (ta tb : Bool) : s.Apart (s.encoderPassage ta tb) := by
  have lines : s.Apart { s with lines.ta := ta, lines.tb := tb } := ⟨⟨rfl, rfl⟩, rfl⟩
  have step (t : State) (n : Int) : t.Apart (t.stepCount n) := by
    unfold State.stepCount
    simp only
    split
    · exact after (recomputeGeometry _) ⟨⟨rfl, rfl⟩, rfl⟩
    · exact ⟨⟨rfl, rfl⟩, rfl⟩
  unfold State.encoderPassage
  simp only
  repeat' split
  exacts [lines.trans (step _ _), lines.trans (step _ _), lines.trans (post _ _ _), lines]

theorem indexPulse (s : State) : s.Apart s.indexPulse := by
  have counted : s.Apart s.countToOffset := by
    unfold State.countToOffset
    split <;> exact ⟨⟨rfl, rfl⟩, rfl⟩
  unfold State.indexPulse
  simp only
  repeat' split
  · exact after (recomputeGeometry _) ⟨⟨counted.power, counted.active⟩, counted.lamps⟩
  · exact (counted.trans (post _ _ _)).trans (recomputeGeometry _)
  · exact counted.trans (recomputeGeometry _)
  · exact refl s

theorem settleExpiry (s : State) : s.Apart s.settleExpiry := by
  unfold State.settleExpiry
  simp only
  repeat' split
  · exact refl s
  · exact ⟨⟨rfl, rfl⟩, rfl⟩
  · exact after (recomputeGeometry _) ⟨⟨rfl, rfl⟩, rfl⟩

/-! ### Timetable, staging list and account reads -/

theorem extendBooking (s : State) (d : List Byte) : s.Apart (extendBooking d s).1 := by
  unfold Machine.extendBooking
  repeat' split
  exacts [refl s, refl s, ⟨⟨rfl, rfl⟩, rfl⟩]

theorem readBookings (s : State) (d : List Byte) : s.Apart (readBookings d s).1 := by
  unfold Machine.readBookings
  simp only
  repeat' split
  all_goals exact refl s

theorem stageAppend (s : State) (d : List Byte) : s.Apart (stageAppend d s).1 := by
  unfold Machine.stageAppend
  simp only
  repeat' split
  all_goals exact ⟨⟨rfl, rfl⟩, rfl⟩

theorem readLampAccount (s : State) (d : List Byte) : s.Apart (readLampAccount d s).1 := by
  unfold Machine.readLampAccount
  repeat' split
  all_goals exact refl s

theorem readSnapshot (s : State) (d : List Byte) : s.Apart (readSnapshot d s).1 := by
  unfold Machine.readSnapshot
  repeat' split
  all_goals exact refl s

theorem readReplacementHistory (s : State) (d : List Byte) : s.Apart (readReplacementHistory d s).1 := by
  unfold Machine.readReplacementHistory
  split <;> exact refl s

end State.Apart

end Sys2Proof.Machine
end

section
/-! PROOFS. What the timetable, every request, every event and every step leave of STANDBY and of the blank timer; O57. -/

namespace Sys2Proof.Machine

/-! ### Lamps put right -/

theorem State.setCondition_other (s : State) (l : Lamp) (c : LampCondition) : (s.setCondition l c).condition l.other = s.condition l.other :=
  congrArg LampControl.condition (PerLamp.get_set_ne _ _ (by cases l <;> decide))

theorem State.setSessionDropouts_condition (s : State) (l m : Lamp) (n : Nat) : (s.setSessionDropouts l n).condition m = s.condition m := by
  cases l <;> cases m <;> rfl

theorem Work.changeLamp_lamps (w : Work) (l : Lamp) (c : LampCondition) : (w.changeLamp l c).s.lamps = (w.s.setCondition l c).lamps := by
  simp only [Work.changeLamp, Work.moveLamp, Work.hand_s, Work.edit_s]
  split <;> rfl

/-- R60: a lamp that comes to rest leaves the lamps at rest. -/
theorem Work.changeLamp_spares (w : Work) (l : Lamp) {c : LampCondition} (rest : c.resting = true) : w.s.Spares (w.changeLamp l c).s := by
  refine State.SamePower.rests (.changeLamp ⟨rfl, rfl⟩ l c) (l := l) ?_ ?_
  · rw [State.condition, Work.changeLamp_lamps]
    exact (congrArg LampCondition.resting (State.setCondition_condition _ _ _)).trans rest
  · rw [State.condition, Work.changeLamp_lamps]
    exact State.setCondition_other _ _ _

theorem State.spares_setSessionDropouts (s : State) (l : Lamp) (n : Nat) : s.Spares (s.setSessionDropouts l n) :=
  ⟨⟨rfl, rfl⟩, fun quiet => (State.quiet_iff _).mpr fun m => by
    rw [State.setSessionDropouts_condition]; exact s.quiet_iff.mp quiet m⟩

/-- A property of the lamps, the power registers and whether a booking is ACTIVE that every lamp event and every act of the PDU keeps. -/
structure KeptByPower (P : State → Prop) : Prop where
  legal : ∀ {s : State}, s.StandbyLegal → s.BlankLegal → P s
  spares : ∀ {s t : State}, P s → s.Spares t → P t
  level : ∀ {s : State} (x : PowerLevel), P s → P (s.setLevel x)
  follow : ∀ {s t : State}, P s → s.Alike t → P t.followBlankTimer
  hand : ∀ {s t : State} (x : Handoff), P s → s.Alike t → P (t.handPower x)
  run : ∀ {w : Work} (n : Nat), P w.s → P (Work.run n w)
  elapse : ∀ {s : State}, P s → P s.elapseTimers

/-- R65: the blank timer by its four conditions. -/
theorem State.blankLegal_iff (s : State) : s.BlankLegal ↔
    if s.blankTiming then (s.power.blankTimer.isSome || s.power.blankSpent) = true
    else s.power.blankTimer = none ∧ s.power.blankSpent = false := by
  cases timing : s.blankTiming with
  | false =>
    rw [State.BlankLegal, State.followBlankTimer_off timing]
    constructor
    · intro same
      exact ⟨(congrArg (fun t : State => t.power.blankTimer) same).symm, (congrArg (fun t : State => t.power.blankSpent) same).symm⟩
    · rintro ⟨timer, spent⟩
      rw [← timer, ← spent]
  | true =>
    refine ⟨fun same => ?_, State.followBlankTimer_on timing⟩
    by_contra off
    rw [State.BlankLegal, State.followBlankTimer_start timing (by simpa using off)] at same
    have started := congrArg (fun t : State => t.power.blankTimer) same
    simp [← started] at off

theorem State.elapseTimers_quiet {s : State} (quiet : s.quiet = true) : s.elapseTimers.quiet = true := by
  have still (c : LampCondition) (rest : c.resting = true) : c.elapse.resting = true := by
    cases c with
    | dark => rfl
    | failed fan => simp_all [LampCondition.resting, LampCondition.elapse, tickDown]
    | _ => exact absurd rest nofun
  have elapsed (l : Lamp) : s.elapseTimers.condition l = (s.condition l).elapse := by cases l <;> rfl
  refine (State.quiet_iff _).mpr fun l => ?_
  rw [elapsed]
  exact still _ (s.quiet_iff.mp quiet l)

/-- R65: a blank timer that runs goes on running. -/
theorem State.BlankLegal.elapseTimers {s : State} (h : s.BlankLegal) : s.elapseTimers.BlankLegal := by
  have timing : s.elapseTimers.blankTiming = s.blankTiming := rfl
  have legal := s.blankLegal_iff.mp h
  rw [State.blankLegal_iff, timing]
  have timer : s.elapseTimers.power.blankTimer = s.power.blankTimer.map (tickDown 1) := rfl
  have spent : s.elapseTimers.power.blankSpent = s.power.blankSpent := rfl
  rw [timer, spent, Option.isSome_map, Option.map_eq_none_iff]
  exact legal

/-- R46, R56, R60: STANDBY is such a property. -/
theorem standbyLegal_kept : KeptByPower State.StandbyLegal where
  legal standby _ := standby
  spares h st := h.alike st.alike
  level _ h := h.beside rfl rfl rfl rfl
  follow h st := (h.alike st).followBlankTimer
  hand _ h st := State.StandbyLegal.run _ (h.alike st)
  run n h := h.run n
  elapse h := h.alike ⟨rfl, rfl, rfl, State.elapseTimers_quiet⟩

/-- R65: the blank timer follows its conditions after each hand-off. -/
theorem blankLegal_kept : KeptByPower State.BlankLegal where
  legal _ blank := blank
  spares h st := h.timed st.power (by simp only [State.blankTiming, st.power, st.active])
  level {s} _ h := (State.blankLegal_iff _).mpr ((State.blankLegal_iff s).mp h)
  follow _ _ := State.followBlankTimer_legal _
  hand x _ _ := Work.run_keeps State.BlankLegal (fun _ _ _ => State.followBlankTimer_legal _) 63 _ (State.followBlankTimer_legal _)
  elapse h := h.elapseTimers
  run n h := Work.run_keeps State.BlankLegal (fun _ _ _ => State.followBlankTimer_legal _) n _ h

namespace KeptByPower

variable {P : State → Prop} (h : KeptByPower P)
include h

theorem apart {s t : State} (hs : P s) (st : s.Apart t) : P t := h.spares hs st.spares

theorem post {s : State} (topic : Topic) (value : Nat) (hs : P s) : P (s.post topic value) := h.apart hs (.post _ _ _)

theorem handPower {s : State} (x : Handoff) (hs : P s) : P (s.handPower x) := h.hand x hs (.of_lamps rfl rfl rfl rfl)

theorem settle {f : Work → Work} {s : State} (hs : P s) (hf : s.Spares (f ⟨s, []⟩).s) : P (s.settle f) := h.run _ (h.spares hs hf)

theorem editTimetable {s : State} {f : Timetable → Timetable} (hs : P s) (active : (f s.timetable).active.isNone = s.timetable.active.isNone) :
    P (s.editTimetable f) := h.apart hs (.editTimetable s active)

/-! ### Bookings -/

theorem applyBooking {s : State} (b : Booking) (hs : P s) : P (s.applyBooking b) := by
  have selected : s.Apart (s.bookingSelection b).1 := by
    unfold State.bookingSelection
    split
    exacts [.refl s, .selectForBooking s _]
  have told (x : State) (hx : s.Apart x) (noMatch : Bool) : P (x.bookingApplied b noMatch) := by
    have handed : s.Apart ((x.handBookingPreset b.config.preset).handBookingClaim b.config.lockout b.config.sourceClass) :=
      (hx.trans (.handPresets _ _ _ _)).trans (.setLockout _ _)
    have levelled (y : State) (hy : s.Apart y) : s.Alike (match b.config.mode.level with | none => y | some level => y.setLevel level) := by
      have same := hy.spares.alike
      split
      exacts [same, ⟨same.state, same.session, same.latched, same.quiet⟩]
    have followed := h.post (.booking b.config.id) 2 (h.follow hs (levelled _ handed))
    unfold State.bookingApplied
    simp only
    split
    exacts [h.post _ _ followed, followed]
  rw [State.applyBooking_eq]
  exact told _ selected _

theorem startBooking {s : State} (i : Nat) (b : Booking) (hs : P s) : P (s.startBooking i b) :=
  h.applyBooking b (h.hand _ hs (.of_lamps rfl rfl rfl rfl))

theorem endBooking {s : State} (b : Booking) (hs : P s) : P (s.endBooking b) := by
  let t := s.editTimetable (·.finish b)
  have handed : t.Apart ((t.handBookingClaim 0 0).handBookingPreset none) :=
    (State.Apart.setLockout _ _).trans (.handPresets _ _ _ _)
  have same := handed.spares.alike
  exact h.post _ _ (h.follow hs ⟨same.state, same.session, same.latched, same.quiet⟩)

theorem enterLead {s : State} (b : Booking) (hs : P s) : P (s.enterLead b) := h.post _ _ (h.handPower _ (h.editTimetable hs rfl))

theorem enterIdle {s : State} (hs : P s) : P s.enterIdle := h.handPower _ (h.editTimetable hs rfl)

theorem leadWindowTest {s : State} (hs : P s) : P s.leadWindowTest := by
  unfold State.leadWindowTest
  split
  exacts [h.enterLead _ hs, h.editTimetable hs rfl]

theorem graceExpiry {s : State} (hs : P s) : P s.graceExpiry := by
  unfold State.graceExpiry
  split
  exacts [h.enterLead _ hs, h.enterIdle hs]

theorem enterGrace {s : State} (hs : P s) : P s.enterGrace := h.editTimetable hs rfl

theorem expireEmptyGrace {s : State} (hs : P s) : P s.expireEmptyGrace := by
  unfold State.expireEmptyGrace
  split
  exacts [h.graceExpiry hs, hs]

theorem convertFor {s : State} (b : Booking) (hs : P s) : P (s.convertFor b) := by
  unfold State.convertFor
  split
  exacts [hs, h.handPower _ hs]

theorem followOn {s : State} (b : Booking) (hs : P s) : P (s.followOn b) := by
  unfold State.followOn
  split
  exacts [h.expireEmptyGrace (h.enterGrace hs), h.leadWindowTest (h.convertFor b hs)]

/-! ### The minute tick -/

theorem tickEnd {s : State} (hs : P s) : P s.tickEnd := by
  unfold State.tickEnd
  split
  · split
    exacts [h.followOn _ (h.endBooking _ hs), hs]
  · exact hs

theorem tickRollover {s : State} (hs : P s) : P s.tickRollover := by
  unfold State.tickRollover
  split
  exacts [h.editTimetable hs rfl, hs]

theorem tickLead {s : State} (hs : P s) : P s.tickLead := by
  have leads (b : Booking) : P (s.leadEvent b) := by
    unfold State.leadEvent
    split
    exacts [h.enterLead b hs, h.enterLead b hs, hs, hs, hs, hs]
  unfold State.tickLead
  split
  · split
    exacts [leads _, hs]
  · exact hs

theorem tickStart {s : State} (hs : P s) : P s.tickStart := by
  unfold State.tickStart
  split
  · split
    exacts [h.startBooking _ _ hs, hs]
  · exact hs

theorem timetableTick {s : State} (hs : P s) : P s.timetableTick := by
  unfold State.timetableTick
  split
  exacts [h.tickStart (h.tickLead (h.tickRollover (h.tickEnd hs))), h.tickRollover hs]

theorem accountsTick {s : State} (hs : P s) : P s.accountsTick := by
  have charged : s.Spares (s.chargeLit s.litLamps) := by
    rw [State.chargeLit_eq]
    exact State.SamePower.spares ⟨rfl, rfl⟩ rfl
  have computed : s.Spares (forLamps s.litLamps (fun l (w : Work) => w.recomputeLife l) ⟨s.chargeLit s.litLamps, []⟩).s :=
    forLamps_keeps (fun w : Work => s.Spares w.s) _ _ _ (fun l _ hw => State.Spares.recomputeLife hw l) charged
  unfold State.accountsTick
  refine h.run _ (h.spares hs ?_)
  split
  · unfold State.countLitTick
    simp only [Work.edit_s]
    split <;> exact computed.frame rfl rfl rfl
  · exact computed

theorem minuteTick {s : State} (first : TickTaker) (hs : P s) : P (s.minuteTick first) := by
  have clocked : P { s with clock := s.clock.tick } := h.apart hs ⟨⟨rfl, rfl⟩, rfl⟩
  unfold State.minuteTick
  simp only
  split
  · cases first with
    | accounts => exact h.timetableTick (h.accountsTick clocked)
    | timetable => exact h.accountsTick (h.timetableTick clocked)
  · exact clocked

/-! ### Re-evaluation -/

theorem endForReevaluation {s : State} (p : Booking) (hs : P s) : P (s.endForReevaluation p) := by
  have ended := h.endBooking p hs
  unfold State.endForReevaluation
  simp only
  split
  exacts [h.enterGrace ended, h.convertFor p ended]

theorem decideState {s : State} (ran : Option Nat) (hs : P s) : P (s.decideState ran) := by
  unfold State.decideState
  split
  · unfold State.leadOn
    split
    exacts [h.handPower _ (h.editTimetable hs rfl), h.enterLead _ hs]
  · split
    exacts [hs, h.enterIdle hs]

theorem reevaluateEmpty {s : State} (before : Before) (hs : P s) : P (s.reevaluateEmpty before) := by
  have ended : P (match before.active with | some p => s.endForReevaluation p | none => s) := by
    split
    exacts [h.endForReevaluation _ hs, hs]
  exact h.expireEmptyGrace (h.decideState _ (h.editTimetable ended rfl))

theorem reapply {s : State} (was now : BookingConfig) (hs : P s) : P (s.reapply was now) := by
  have selected : s.Apart (if now.sourceClass ≠ was.sourceClass ∧ now.sourceClass ≠ 0 then s.selectForBooking now.sourceClass
      else (s, false)).1 := by
    split
    exacts [.selectForBooking s _, .refl s]
  refine h.apart hs ?_
  unfold State.reapply
  generalize (if now.sourceClass ≠ was.sourceClass ∧ now.sourceClass ≠ 0 then s.selectForBooking now.sourceClass
      else (s, false)) = r at selected
  have told : s.Apart (if r.2 = true then r.1.post (.booking now.id) 4 else r.1) := by
    split
    exacts [selected.trans (.post _ _ _), selected]
  have claimed (t : State) (st : s.Apart t) : s.Apart (if now.lockout ≠ was.lockout ∨ now.sourceClass ≠ was.sourceClass then
      t.handBookingClaim now.lockout now.sourceClass else t) := by
    split
    exacts [st.trans (.setLockout _ _), st]
  simp only
  split
  exacts [(claimed _ told).trans (.handPresets _ _ _ _), claimed _ told]

theorem reevaluateWithin {s : State} (before : Before) (i : Nat) (b : Booking)
    (active : before.active.isSome = true → s.timetable.active.isNone = false) (hs : P s) : P (s.reevaluateWithin before i b) := by
  unfold State.reevaluateWithin
  split
  · next was =>
    split
    · exact h.reapply _ _ (h.editTimetable hs (active (by rw [was]; rfl)).symm)
    · exact h.startBooking i b (h.endForReevaluation _ hs)
  · exact h.startBooking i b hs

/-- R153: a re-evaluation; the booking that was ACTIVE before the change that causes it is still named as the active one. -/
theorem reevaluate {s : State} (before : Before) (active : before.active.isSome = true → s.timetable.active.isNone = false)
    (hs : P s) : P (s.reevaluate before) := by
  have counted := h.editTimetable (f := fun t => { t with table := carryLive t.table before.active }) hs rfl
  unfold State.reevaluate
  simp only
  repeat' split
  exacts [h.reevaluateWithin before _ _ active counted, counted, h.reevaluateEmpty before counted, hs]

/-- R137: a booking that is found is ACTIVE. -/
theorem reevaluateChanged {s t : State} (active : t.timetable.active = s.timetable.active) (ht : P t) :
    P (t.reevaluate s.before) := by
  refine h.reevaluate _ (fun some => ?_) ht
  rw [active]
  cases id : s.timetable.active with
  | none => simp [State.before, State.activeBooking, id] at some
  | some _ => rfl

/-! ### Requests -/

theorem dismiss {s : State} (hs : P s) : P s.dismiss := by
  unfold State.dismiss
  repeat' split
  exacts [hs, hs, h.handPower _ (h.editTimetable hs rfl)]

theorem facilityPowerClaim {s : State} (d : List Byte) (hs : P s) : P (facilityPowerClaim d s).1 := by
  unfold Machine.facilityPowerClaim
  repeat' split
  exacts [hs, h.handPower _ hs, h.handPower _ hs, hs]

theorem setLampPower {s : State} (d : List Byte) (hs : P s) : P (setLampPower d s).1 := by
  unfold Machine.setLampPower
  repeat' split
  exacts [hs, h.level _ hs, hs]

theorem setBlank {s : State} (d : List Byte) (hs : P s) : P (setBlank d s).1 := by
  have blanked (on : Bool) : s.Alike (s.setBlank on) := by
    unfold State.setBlank
    split <;> exact .of_lamps rfl rfl rfl rfl
  unfold Machine.setBlank
  repeat' split
  exacts [hs, h.follow hs (blanked _), hs]

theorem setPowerDefaults {s : State} (d : List Byte) (hs : P s) : P (setPowerDefaults d s).1 := by
  unfold Machine.setPowerDefaults
  repeat' split
  exacts [h.follow hs (.of_lamps rfl rfl rfl rfl), hs, hs]

theorem setTime {s : State} (d : List Byte) (hs : P s) : P (setTime d s).1 := by
  have left : s.timetable.leaveNoTime.active = s.timetable.active := by
    unfold Timetable.leaveNoTime
    split <;> rfl
  unfold Machine.setTime
  split
  · refine h.reevaluateChanged (s := s) left (h.apart hs ⟨⟨rfl, ?_⟩, rfl⟩)
    exact congrArg Option.isNone left
  · exact hs

theorem setTable {s : State} (table : List Booking) (hs : P s) : P (s.setTable table) := h.apart hs ⟨⟨rfl, rfl⟩, rfl⟩

theorem stageCommit {s : State} (d : List Byte) (hs : P s) : P (stageCommit d s).1 := by
  unfold Machine.stageCommit
  repeat' split
  exacts [hs, hs, h.reevaluateChanged (s := s) rfl (h.apart hs ⟨⟨rfl, rfl⟩, rfl⟩)]

theorem insertBooking {s : State} (d : List Byte) (hs : P s) : P (insertBooking d s).1 := by
  unfold Machine.insertBooking
  repeat' split
  exacts [hs, hs, hs, hs, hs, h.reevaluateChanged (s := s) rfl (h.setTable _ hs)]

theorem deleteBooking {s : State} (d : List Byte) (hs : P s) : P (deleteBooking d s).1 := by
  unfold Machine.deleteBooking
  simp only
  repeat' split
  exacts [h.reevaluateChanged (s := s) rfl (h.setTable _ hs), hs, hs]

theorem setScheduleEnable {s : State} (d : List Byte) (hs : P s) : P (setScheduleEnable d s).1 := by
  have disabled {t : State} (ht : P t) : P t.disableSchedule := by
    have ended : P (match t.activeBooking with | some b => t.endBooking b | none => t) := by
      split
      exacts [h.endBooking _ ht, ht]
    exact h.editTimetable (f := fun t => { t with state := .disabled, cursor := 0 })
      (h.handPower _ (h.editTimetable (f := fun t => { t with grace := none }) ended rfl)) rfl
  have enabled {t : State} (ht : P t) : P t.enableSchedule := h.reevaluate _ nofun (h.editTimetable ht rfl)
  have set (on : Bool) : P (s.setEnable on) := by
    have written : P { s with timetable.enable := on, store.scheduleEnable := some on } := h.apart hs ⟨⟨rfl, rfl⟩, rfl⟩
    unfold State.setEnable
    simp only
    repeat' split
    exacts [written, enabled written, disabled written]
  unfold Machine.setScheduleEnable
  repeat' split
  exacts [hs, set _, hs]

theorem setLampThresholds {s : State} (d : List Byte) (hs : P s) : P (setLampThresholds d s).1 := by
  unfold Machine.setLampThresholds
  split
  · split
    · exact hs
    · next l _ =>
      have set (rated warn grace : Nat) : s.Spares (Work.setLampThresholds ⟨s, []⟩ l rated warn grace).s :=
        (State.Spares.recomputeLife (w := ⟨s.setThresholds l rated warn grace, []⟩) ((State.Spares.refl s).frame rfl rfl rfl) l).frame
          rfl rfl rfl
      exact h.run _ (h.spares hs (set _ _ _))
  · exact hs

theorem setLampParameters {s : State} (d : List Byte) (hs : P s) : P (setLampParameters d s).1 := by
  unfold Machine.setLampParameters
  split
  exacts [h.spares hs ⟨⟨rfl, rfl⟩, fun quiet => quiet⟩, hs]

/-- R19, R39: a lamp that is put right is at rest, or was not at rest before. -/
theorem lampReplaced {s : State} (d : List Byte) (hs : P s) : P (lampReplaced d s).1 := by
  have renewed (l : Lamp) : s.Spares (Work.replaceLamp ⟨s, []⟩ l).s := by
    have dark (v : Work) : v.s.Spares (v.renewLamp l).s := by
      unfold Work.renewLamp
      simp only
      split
      · exact (v.s.spares_setSessionDropouts l 0).trans (Work.changeLamp_spares (v.edit fun s => s.setSessionDropouts l 0) l rfl)
      · exact v.s.spares_setSessionDropouts l 0
    have life (v : Work) : v.s.Spares (v.renewLife l).s := by
      unfold Work.renewLife
      simp only
      split <;> exact (State.Spares.refl _).frame rfl rfl rfl
    have retired : s.Spares (s.retireLamp l) := (State.Spares.refl s).frame rfl rfl rfl
    exact ((retired.trans (dark ⟨s.retireLamp l, []⟩)).trans (life _)).frame rfl rfl rfl
  unfold Machine.lampReplaced
  repeat' split
  exacts [hs, h.run _ (h.spares hs (renewed _)), hs, hs]

theorem clearLampFault {s : State} (d : List Byte) (hs : P s) : P (clearLampFault d s).1 := by
  have cleared (l : Lamp) (c : LampCondition) (may : (s.condition l).cleared = some c) :
      s.Spares (Work.changeLamp ⟨s.setSessionDropouts l 0, []⟩ l c).s := by
    cases failed : s.condition l with
    | failed fan =>
      obtain rfl : (if fan = 0 then .dark else .cooling fan false) = c := by simpa [failed, LampCondition.cleared] using may
      by_cases cold : fan = 0
      · rw [if_pos cold]
        exact (s.spares_setSessionDropouts l 0).trans (Work.changeLamp_spares ⟨s.setSessionDropouts l 0, []⟩ l rfl)
      · refine State.SamePower.busy (.changeLamp ?_ l _) (l := l) (by rw [failed]; simpa [LampCondition.resting] using cold)
        exact ⟨rfl, rfl⟩
    | _ => simp [failed, LampCondition.cleared] at may
  unfold Machine.clearLampFault
  repeat' split
  · exact hs
  · exact hs
  · next may => exact h.run _ (h.spares hs (cleared _ _ may))
  · exact hs

end KeptByPower

end Sys2Proof.Machine
end

section
/-! PROOFS. STANDBY and the blank timer through every request, event and step; O57. -/

namespace Sys2Proof.Machine

/-! ### Resets (R69, R174) -/

/-- R69: the blank timer does not run after a service reset, and STANDBY is entered with the lamps at rest. -/
theorem State.serviceBlocks_legal (s : State) : s.serviceBlocks.StandbyLegal ∧ s.serviceBlocks.BlankLegal := by
  have quiet : s.serviceBlocks.quiet = s.serviceLamps.quiet := rfl
  have state : s.serviceBlocks.power.state = if s.serviceLamps.quiet then .standby else .coolingDown := rfl
  refine ⟨fun standby => ⟨?_, rfl, rfl⟩, (State.blankLegal_iff_off ?_).mpr ⟨rfl, rfl⟩⟩
  · rw [quiet]
    by_contra busy
    rw [state, if_neg busy] at standby
    cases standby
  · rw [state]
    split <;> decide

/-- R68: nor does it after a restore, which is into COOLING-DOWN. -/
theorem State.restored_legal (s : State) : s.restored.StandbyLegal ∧ s.restored.BlankLegal :=
  ⟨.of_ne (by simp [State.restored, restoredPower]), (State.blankLegal_iff_off (by simp [State.restored, restoredPower])).mpr ⟨rfl, rfl⟩⟩

/-- R174: Factory Reset keeps STANDBY, its lamps and what is clear in it; the blank timer does not run. -/
theorem State.factoryMade_alike {s : State} (standby : s.power.state = .standby) :
    s.Alike s.factoryMade ∧ s.factoryMade.followBlankTimer = s.factoryMade := by
  let emptied : State := { s with
    timetable := ⟨false, [], 0, .disabled, none, none⟩, staging := closedStaging
    store.scheduleEnable := some false, store.liveTable := some [] }
  obtain ⟨queues, handed, claim⟩ := State.removeSchedule_standby (s := emptied) standby
  have made : s.factoryMade = { ({ emptied with
      power := { emptied.power with
        demand := { s.power.demand with schedule := false }, held := s.power.held && s.power.demand != ⟨false, true, false⟩
        blankTimer := none, blankSpent := false }
      queues := queues, handed := handed } : State).factoryLamps.factorySelection.factoryGeometry.clearQueues with handed := s.handed } :=
    congrArg (fun t : State => { t.factoryLamps.factorySelection.factoryGeometry.clearQueues with handed := s.handed }) claim
  rw [made]
  refine ⟨⟨rfl, rfl, rfl, fun quiet => quiet⟩, ?_⟩
  exact (State.blankLegal_iff_off (by show s.power.state ≠ .on; rw [standby]; decide)).mpr ⟨rfl, rfl⟩

namespace KeptByPower

variable {P : State → Prop} (h : KeptByPower P)
include h

theorem serviceReset {s : State} (d : List Byte) : P (serviceReset d s).1 :=
  h.reevaluate Before.nothing nofun (h.legal s.serviceBlocks_legal.1 s.serviceBlocks_legal.2)

theorem factoryReset {s : State} (d : List Byte) (hs : P s) : P (factoryReset d s).1 := by
  have made (standby : s.power.state = .standby) : P s.factoryMade := by
    obtain ⟨same, still⟩ := State.factoryMade_alike standby
    rw [← still]
    exact h.follow hs same
  unfold Machine.factoryReset
  split
  · next standby =>
    simp only [State.factoryBlocks_eq]
    split
    exacts [h.handPower _ (made standby), made standby]
  · exact hs

theorem owner (r : Request) (p : Port) (d : List Byte) {s : State} (hs : P s) : P (owner r p d s).1 := by
  cases r with
  | readStatus | readGeometry | readTilt | readScheduleState | readLockout => exact hs
  | stageBegin | armHoming | takeAccountSnapshot => exact h.apart hs ⟨⟨rfl, rfl⟩, rfl⟩
  | takeNotice => exact h.apart hs (.takeNotice s p d)
  | setNoticeMask => exact h.apart hs (.setNoticeMask s p d)
  | powerOn => exact h.handPower _ hs
  | powerOff => exact h.dismiss (h.handPower _ hs)
  | setLampPower => exact h.setLampPower d hs
  | setBlank => exact h.setBlank d hs
  | facilityPowerClaim => exact h.facilityPowerClaim d hs
  | setPowerDefaults => exact h.setPowerDefaults d hs
  | selectInput => exact h.apart hs (.selectInput s d)
  | selectClass => exact h.apart hs (.selectClass s d)
  | writeInputRow => exact h.apart hs (.writeInputRow s d)
  | readInputRow => exact h.apart hs (.readInputRow s d)
  | setAcquisitionParameters => exact h.apart hs (.setAcquisitionParameters s d)
  | nudgeCorner => exact h.apart hs (.nudgeCorner s d)
  | clearSessionTrims => exact h.apart hs (.clearTrims s)
  | writePreset => exact h.apart hs (.writePreset s d)
  | readPreset => exact h.apart hs (.readPreset s d)
  | storeSessionTrims => exact h.apart hs (.storeSessionTrims s d)
  | setKeystoneCalibration => exact h.apart hs (.setKeystoneCalibration s d)
  | readCorners => exact h.apart hs (.readCorners s d)
  | extendBooking => exact h.apart hs (.extendBooking s d)
  | setTime => exact h.setTime d hs
  | readBookings => exact h.apart hs (.readBookings s d)
  | stageAppend => exact h.apart hs (.stageAppend s d)
  | stageCommit => exact h.stageCommit d hs
  | insertBooking => exact h.insertBooking d hs
  | deleteBooking => exact h.deleteBooking d hs
  | setScheduleEnable => exact h.setScheduleEnable d hs
  | setManualLockout => exact h.apart hs (.setManualLockout s d)
  | openServiceWindow => exact h.apart hs (.openServiceWindow s d)
  | closeServiceWindow => exact h.apart hs (.setLockout s _)
  | readLampAccount => exact h.apart hs (.readLampAccount s d)
  | readSnapshot => exact h.apart hs (.readSnapshot s d)
  | setLampThresholds => exact h.setLampThresholds d hs
  | setLampParameters => exact h.setLampParameters d hs
  | lampReplaced => exact h.lampReplaced d hs
  | readReplacementHistory => exact h.apart hs (.readReplacementHistory s d)
  | clearLampFault => exact h.clearLampFault d hs
  | serviceReset => exact h.serviceReset d
  | factoryReset => exact h.factoryReset d hs
  | syncReport => exact h.apart hs (.syncReport s d)
  | presenceReport => exact h.apart hs (.presenceReport s d)
  | thermalTrip => exact h.settle (f := Work.thermalTrip) hs (Work.thermalTrip_spares ⟨s, []⟩)
  | thermalClear => exact h.settle (f := Work.thermalClear) hs (Work.thermalClear_spares ⟨s, []⟩)

/-! ### Frames -/

theorem setPort {s : State} (p : Port) (x : PortUnit) (hs : P s) : P (s.setPort p x) := h.apart hs (.setPort s p x)

theorem dispatch (p : Port) (code : Byte) (d : List Byte) {s : State} (hs : P s) : P (dispatch p code d s).1 := by
  obtain ⟨-, hd⟩ | ⟨row, -, ⟨-, hd⟩ | ⟨-, -, x, -, hd⟩ | ⟨-, -, ⟨-, hd⟩ | ⟨-, hd⟩⟩⟩ := dispatch_cases p code d s
  case inr.inr.inr.inr => rw [hd]; exact h.owner _ _ _ hs
  all_goals rw [hd]; exact hs

theorem takeFrame {s : State} (p : Port) (frame : List Byte) (code : Byte) (d : List Byte) (hs : P s) :
    P (s.takeFrame p frame code d) := h.setPort p _ (h.dispatch p code d hs)

theorem receiveByte {s : State} (p : Port) (b : Byte) (hs : P s) : P (s.receiveByte p b) := by
  unfold State.receiveByte
  simp only
  split
  · split
    exacts [h.setPort p _ hs, hs]
  · split <;> exact h.setPort p _ hs
  · split <;> exact h.setPort p _ hs
  · unfold State.completeFrame
    simp only
    split
    · split
      exacts [h.takeFrame _ _ _ _ hs, h.setPort p _ hs]
    · exact h.setPort p _ hs
  · exact hs

theorem receiveBytes {s : State} (p : Port) (bytes : List Byte) (hs : P s) : P (s.receiveBytes p bytes) := by
  induction bytes generalizing s with
  | nil => exact hs
  | cons b rest ih => exact ih (h.receiveByte p b hs)

theorem sendFrame {s : State} (p : Port) (code : Byte) (d : List Byte) (hs : P s) : P (s.sendFrame p code d) := by
  unfold State.sendFrame
  split
  exacts [h.takeFrame _ _ _ _ hs, h.receiveBytes _ _ hs]

/-! ### Events -/

theorem senseLit {s : State} (l : Lamp) (level : Bool) (hs : P s) : P (s.senseLit l level) := by
  unfold State.senseLit
  split
  · exact hs
  · split
    · refine h.settle (f := fun w => if level then w.litRise l else w.litFall l) hs ?_
      cases level
      exacts [Work.litFall_spares ⟨s, []⟩ l, Work.litRise_spares ⟨s, []⟩ l]
    · exact h.apart hs ⟨⟨rfl, rfl⟩, rfl⟩

theorem blankExpiry {s : State} (hs : P s) : P s.blankExpiry := by
  unfold State.blankExpiry
  split
  exacts [hs, h.hand _ hs (.of_lamps rfl rfl rfl rfl)]

theorem graceTimerExpiry {s : State} (hs : P s) : P s.graceTimerExpiry := by
  unfold State.graceTimerExpiry
  split
  exacts [h.graceExpiry hs, hs]

/-- R172: a restore makes its own state of the power registers, whatever they were. -/
theorem restored (s : State) : P s.restored := h.legal s.restored_legal.1 s.restored_legal.2

theorem losePower (s : State) (cut : Option (Byte × List Byte)) (done : List StoreUnit) : P (s.losePower cut done) := by
  unfold State.losePower
  split <;> exact h.restored _

theorem powerUp (s : State) (x : Restart) : P (s.powerUp x) := by
  have reset : P (s.resetAll x.backupGood) := by
    unfold State.resetAll
    simp only
    split
    exacts [h.restored _, h.post _ _ (h.restored _)]
  unfold State.powerUp
  refine h.reevaluate Before.nothing nofun ?_
  split
  exacts [h.sendFrame _ _ _ reset, reset]

/-! ### Commands and steps -/

theorem exec {c : Instr} {s t : State} (hs : P s) (ht : Machine.exec c s = .next t) : P t := by
  cases hf : c.frame? with
  | some frame =>
    obtain ⟨p, code, d⟩ := frame
    rw [exec_of_frame hf] at ht
    exact carry_keeps (f := fun s => s.sendFrame p code d) (h.sendFrame p code d hs) hs ht
  | none =>
    cases c
    case portByteReceived p b => exact carry_keeps (h.receiveByte p b hs) hs ht
    case interByteTimeout p => exact carry_keeps (h.apart hs (.interByteExpiry s p)) hs ht
    case replySent p => exact carry_keeps (h.apart hs (.replyEnd s p)) hs ht
    case noticeAdmission p topic value => exact carry_keeps (h.apart hs (.takeHanded s p topic value)) hs ht
    case minuteTick first => cases ht; exact h.minuteTick first hs
    case ignitionWindowExpiry l => exact carry_keeps (h.settle (f := fun w => w.windowExpiry l) hs (Work.windowExpiry_spares ⟨s, []⟩ l)) hs ht
    case retryWaitExpiry l => exact carry_keeps (h.settle (f := fun w => w.retryExpiry l) hs (Work.retryExpiry_spares ⟨s, []⟩ l)) hs ht
    case coolDownExpiry l => exact carry_keeps (h.settle (f := fun w => w.coolDownExpiry l) hs (Work.coolDownExpiry_spares ⟨s, []⟩ l)) hs ht
    case fanTimeEnd l => exact carry_keeps (h.settle (f := fun w => w.fanTimeEnd l) hs (Work.fanTimeEnd_spares ⟨s, []⟩ l)) hs ht
    case litRise l => cases ht; exact h.senseLit l true hs
    case litFall l => cases ht; exact h.senseLit l false hs
    case acquisitionWindowExpiry => exact carry_keeps (h.apart hs (.windowExpiry s)) hs ht
    case settleTimerExpiry => exact carry_keeps (h.apart hs (.settleExpiry s)) hs ht
    case encoderStep ta tb =>
      cases ht
      split
      exacts [h.apart hs (.encoderPassage s ta tb), h.apart hs ⟨⟨rfl, rfl⟩, rfl⟩]
    case indexPulse => exact carry_keeps (h.apart hs (.indexPulse s)) hs ht
    case blankTimerExpiry => exact carry_keeps (h.blankExpiry hs) hs ht
    case graceExpiry => exact carry_keeps (h.graceTimerExpiry hs) hs ht
    case serviceWindowExpiry => exact carry_keeps (h.apart hs (.serviceWindowExpiry s)) hs ht
    case powerOnReset x => cases ht; exact h.powerUp s x
    case hardwareReset x => exact carry_keeps (h.powerUp s x) hs ht
    case lossOfPower cut done => exact carry_keeps (h.losePower s cut done) hs ht
    all_goals cases hf

/-- What every change of the lamps and of the power registers keeps, every step keeps. -/
theorem step {s t : State} (hs : P s) (ht : Machine.step s = .next t) : P t := by
  have elapsed : P s.elapse := by
    have clocked : P { s with clock := s.clock.elapse } := h.apart hs ⟨⟨rfl, rfl⟩, rfl⟩
    unfold State.elapse whenPowered
    split
    exacts [h.elapse clocked, clocked]
  unfold Machine.step at ht
  split at ht
  · cases ht; exact elapsed
  · next rest _ =>
    have taken : P { s with pending := rest } := h.apart hs ⟨⟨rfl, rfl⟩, rfl⟩
    exact h.exec taken ht

end KeptByPower

end Sys2Proof.Machine

open Sys2Proof Sys2Proof.Machine in
/-- Settles O57: a change of the lamps leaves lamps at rest at rest unless they were not, the PDU enters STANDBY with the lamps at rest
and its registers clear, and each of its acts ends with the blank timer's own rule. -/
theorem standbyAndBlankTimerStayLegal : Obligations.StandbyAndBlankTimerStayLegal :=
  ⟨fun _ _ legal ran => standbyLegal_kept.step legal ran, fun _ _ legal ran => blankLegal_kept.step legal ran⟩
end

section
/-! PROOFS. The loss of a session lamp and what follows it (R47, R58, R59). -/

namespace Sys2Proof.Machine

/-! ### The lamps beside the lost one -/

/-- What decides on a strike of lamp `l` stands in `t` as in `s`, and so do the power registers. -/
structure State.Beside (s t : State) (l : Lamp) : Prop where
  power : t.power = s.power
  control : t.lamps.lamp.get l = s.lamps.lamp.get l
  account : t.account l = s.account l
  life : t.accounts.life.get l = s.accounts.life.get l
  weights : t.accounts.weights = s.accounts.weights
  low : t.lines.lit.get l = s.lines.lit.get l
  hold : t.lamps.thermalHold = s.lamps.thermalHold

namespace State.Beside

variable {s t : State} {l : Lamp} (h : s.Beside t l)
include h

theorem condition : t.condition l = s.condition l := congrArg LampControl.condition h.control
theorem lampState : t.lampState l = s.lampState l := congrArg LampCondition.state h.condition
theorem pulsed : t.pulsed l = s.pulsed l := by simp only [State.pulsed, h.account, h.weights]
theorem available : t.available l = s.available l := by simp only [State.available, h.lampState, h.life, h.hold]

end State.Beside

/-- R47: lamp `l` is out of the session. -/
abbrev State.losing (t : State) (l : Lamp) : State := { t with power.session := t.power.session.set l false }

/-- R47: and the other lamp is in it. -/
abbrev State.joining (t : State) (l : Lamp) : State :=
  { t with power.session := (t.power.session.set l false).set l.other true }

/-- R58, R61: and no lamp is left in it, so that the demand is held. -/
abbrev State.unserved (t : State) (l : Lamp) (state : PowerState) : State :=
  ({ t with power.session := t.power.session.set l false, power.held := true, power.state := state } : State).post .noLamp
    (if t.lamps.thermalHold then 2 else 1)

theorem State.anyLit_eq (s : State) (l : Lamp) : s.anyLit = (s.lampState l == .lit || s.lampState l.other == .lit) := by
  cases l
  exacts [rfl, Bool.or_comm _ _]

theorem State.anyStriking_eq (s : State) (l : Lamp) : s.anyStriking = (s.lampState l == .striking || s.lampState l.other == .striking) := by
  cases l
  exacts [rfl, Bool.or_comm _ _]

theorem State.quiet_eq (s : State) (l : Lamp) : s.quiet = ((s.condition l).resting && (s.condition l.other).resting) := by
  cases l
  exacts [rfl, Bool.and_comm _ _]

theorem State.sessionEmpty_eq (s : State) (l : Lamp) : s.sessionEmpty = (!s.power.session.get l && !s.power.session.get l.other) := by
  cases l
  exacts [rfl, Bool.and_comm _ _]

theorem State.sessionBurning_eq (s : State) (l : Lamp) : s.sessionBurning =
    ((s.power.session.get l && (s.lampState l).savesOnLeaving) ||
      (s.power.session.get l.other && (s.lampState l.other).savesOnLeaving)) := by
  cases l
  exacts [rfl, Bool.or_comm _ _]

/-- R59: the power state written in ON. -/
theorem State.setPowerState_on (s : State) : s.setPowerState .on = { s with power.state := .on, power.degraded := s.degradedNow } := rfl

theorem State.degradedNow_eq (s : State) (l : Lamp) :
    s.degradedNow = (s.power.latched == some .dual && ((s.lampState l == .lit) != (s.lampState l.other == .lit))) := by
  cases l
  · rfl
  · exact congrArg (_ && ·) (Bool.xor_comm _ _)

/-! ### The session after the loss (R47) -/

namespace Work

variable {t : State} {l : Lamp} {rest : List Handoff}

theorem loseLamp_eq (session : t.power.session.get l = true) (demand : t.power.demand ≠ ⟨false, false, false⟩) :
    loseLamp ⟨t, rest⟩ l =
      (let w : Work := if (t.losing l).sessionBurning then ⟨t.losing l, rest⟩ else failover ⟨t.losing l, rest⟩ l
      if w.s.sessionEmpty then
        let w := w.setHeld
        if w.s.power.state = .warming then w.edit fun s => { s with power.state := .coolingDown } else w
      else w) := by
  have lost : (t.power.session.get l && !t.power.demand.isEmpty) = true := by rw [session, Demand.isEmpty_eq_false demand]; rfl
  exact if_pos lost

/-- R47: the other lamp burns on. -/
theorem loseLamp_burning (session : t.power.session.get l = true) (demand : t.power.demand ≠ ⟨false, false, false⟩)
    (other : t.power.session.get l.other = true) (lit : t.lampState l.other = .lit) :
    loseLamp ⟨t, rest⟩ l = ⟨t.losing l, rest⟩ := by
  have still : (t.losing l).power.session.get l.other = true := by simpa using other
  have burning : (t.losing l).sessionBurning = true := by
    rw [State.sessionBurning_eq _ l, still, show (t.losing l).lampState l.other = .lit from lit]
    simp [LampState.savesOnLeaving]
  have nonempty : (t.losing l).sessionEmpty = false := by rw [State.sessionEmpty_eq _ l, still]; simp
  rw [loseLamp_eq session demand]
  simp only [burning, if_true, nonempty, Bool.false_eq_true, if_false]

/-- With the other lamp out of the session no lamp burns in it. -/
theorem loseLamp_alone (session : t.power.session.get l = true) (demand : t.power.demand ≠ ⟨false, false, false⟩)
    (alone : t.power.session.get l.other = false) :
    loseLamp ⟨t, rest⟩ l =
      (let w := failover ⟨t.losing l, rest⟩ l
      if w.s.sessionEmpty then
        let w := w.setHeld
        if w.s.power.state = .warming then w.edit fun s => { s with power.state := .coolingDown } else w
      else w) := by
  have burning : (t.losing l).sessionBurning = false := by
    rw [State.sessionBurning_eq _ l]
    simp [alone]
  rw [loseLamp_eq session demand]
  simp only [burning, Bool.false_eq_true, if_false]

/-- R47: the other lamp joins and takes a strike order. -/
theorem loseLamp_joins {policy : LampPolicy} (session : t.power.session.get l = true) (demand : t.power.demand ≠ ⟨false, false, false⟩)
    (alone : t.power.session.get l.other = false) (latched : t.power.latched = some policy) (single : policy ≠ .dual)
    (available : t.available l.other = true)
    (plain : t.condition l.other = .dark → t.lines.lit.get l.other = false ∧
      (t.pulsed l.other).lifeState = t.accounts.life.get l.other) :
    loseLamp ⟨t, rest⟩ l = ⟨State.ordered l.other (t.joining l), rest ++ t.strikeNews l.other⟩ := by
  have struck : Work.strike l.other ⟨t.joining l, rest⟩ = ⟨State.ordered l.other (t.joining l), rest ++ t.strikeNews l.other⟩ :=
    Work.strike_eq (s := t.joining l) available plain ⟨rfl, rfl, rfl, rfl, rfl, rfl⟩
  have joins : failover ⟨t.losing l, rest⟩ l = ⟨State.ordered l.other (t.joining l), rest ++ t.strikeNews l.other⟩ := by
    rw [← struck]
    unfold failover Work.join
    rw [if_pos (show (t.losing l).available l.other = true from available)]
    simp only [latched, Option.getD_some]
    cases policy
    case dual => exact absurd rfl single
    all_goals rfl
  have ordered : (State.ordered l.other (t.joining l)).power = (t.joining l).power := by
    unfold State.ordered
    split <;> rfl
  have nonempty : (State.ordered l.other (t.joining l)).sessionEmpty = false := by
    rw [State.sessionEmpty_eq _ l, ordered]
    simp
  rw [loseLamp_alone session demand alone, joins]
  simp only [nonempty, Bool.false_eq_true, if_false]

/-- R58, R61: no lamp joins, and the demand is held. -/
theorem loseLamp_none (session : t.power.session.get l = true) (demand : t.power.demand ≠ ⟨false, false, false⟩)
    (alone : t.power.session.get l.other = false) (none : t.power.latched = some .dual ∨ t.available l.other = false)
    (held : t.power.held = false) :
    loseLamp ⟨t, rest⟩ l = ⟨t.unserved l (if t.power.state = .warming then .coolingDown else t.power.state), rest⟩ := by
  have stays : failover ⟨t.losing l, rest⟩ l = ⟨t.losing l, rest⟩ := by
    unfold failover
    rcases none with dual | unavailable
    · simp only [dual, Option.getD_some]
    · unfold Work.join
      rw [if_neg (by rw [show (t.losing l).available l.other = t.available l.other from rfl, unavailable]; decide)]
      split <;> rfl
  have empty : (t.losing l).sessionEmpty = true := by rw [State.sessionEmpty_eq _ l]; simp [alone]
  rw [loseLamp_alone session demand alone, stays]
  simp only [empty, if_true, setHeld, held, Bool.false_eq_true, if_false, Work.edit]
  by_cases warming : t.power.state = .warming
  · rw [if_pos warming, if_pos (by exact warming)]; rfl
  · rw [if_neg warming, if_neg (by exact warming)]

/-! ### The power state after the loss (R58, R59) -/

/-- Where the session is not emptied in COOLING-DOWN, the power state follows the lamps. -/
theorem loseAndFollow_followed {u : State} {out : List Handoff} (lost : loseLamp ⟨t, rest⟩ l = ⟨u, out⟩)
    (serves : u.power.state ≠ .coolingDown ∨ u.sessionEmpty = false) :
    loseAndFollow ⟨t, rest⟩ l = followLamp ⟨u, out⟩ l false := by
  unfold loseAndFollow
  simp only [lost]
  rw [if_neg]
  rintro ⟨cooling, empty, -⟩
  rcases serves with state | serves
  · exact state cooling
  · rw [serves] at empty; cases empty

/-- Where it is emptied in COOLING-DOWN with a lamp not at rest, nothing follows. -/
theorem loseAndFollow_emptied {u : State} {out : List Handoff} (lost : loseLamp ⟨t, rest⟩ l = ⟨u, out⟩)
    (session : t.power.session.get l = true) (cooling : u.power.state = .coolingDown) (empty : u.sessionEmpty = true)
    (busy : u.quiet = false) : loseAndFollow ⟨t, rest⟩ l = ⟨u, out⟩ := by
  have was : t.sessionEmpty = false := by rw [State.sessionEmpty_eq _ l, session]; rfl
  unfold loseAndFollow
  simp only [lost]
  rw [if_pos ⟨cooling, empty, by rw [was]; rfl⟩]
  unfold standbyTest
  rw [if_neg (by rw [busy]; simp)]

/-- R59: in WARMING and in ON with one lamp LIT under DUAL. -/
theorem followLamp_degraded (began : Bool) (dual : t.power.latched = some .dual) (lit : t.lampState l.other = .lit)
    (out : t.lampState l ≠ .lit ∧ t.lampState l ≠ .striking) (state : t.power.state = .warming ∨ t.power.state = .on) :
    followLamp ⟨t, rest⟩ l began = ⟨{ t with power.state := .on, power.degraded := true }, rest⟩ := by
  have some : t.anyLit = true := by rw [State.anyLit_eq _ l, lit]; simp
  have none : t.anyStriking = false := by rw [State.anyStriking_eq _ l, lit]; simp [out.2]
  have one : t.degradedNow = true := by rw [State.degradedNow_eq _ l, dual, lit]; simp [out.1]
  unfold followLamp
  rcases state with state | state <;>
    simp only [state, some, none, Bool.not_false, Bool.and_self, if_true, Work.edit, State.setPowerState_on, one]

/-- R58: in ON with no lamp LIT. -/
theorem followLamp_unlit (began : Bool) (on : t.power.state = .on) (unlit : t.anyLit = false) :
    followLamp ⟨t, rest⟩ l began =
      ⟨{ t with power.state := if t.anyStriking then .warming else .coolingDown, power.degraded := false }, rest⟩ := by
  unfold followLamp
  simp only [on, unlit, Bool.false_eq_true, if_false, Work.edit, State.setPowerState]
  split <;> rfl

/-- R58: in WARMING with no lamp LIT. -/
theorem followLamp_warming (began : Bool) (warming : t.power.state = .warming) (unlit : t.anyLit = false) :
    followLamp ⟨t, rest⟩ l began = ⟨t, rest⟩ := by
  unfold followLamp
  simp only [warming, unlit, Bool.false_and, Bool.false_eq_true, if_false]

end Work

end Sys2Proof.Machine
end

section
/-! PROOFS. A hand-off that loses a session lamp, and its end (R47, R56, R58, R59, R65). -/

namespace Sys2Proof.Machine

/-- R56: POWER-STATE where its value has changed. -/
theorem State.reportPower_changed {t : State} {before n : Nat} (number : t.power.number = n) (changed : n ≠ before) :
    t.reportPower before = t.post .powerState n := by
  subst number
  exact if_neg changed

theorem Power.number_on (q : Power) (on : q.state = .on) (held : q.held = false) : q.number = 2 ∨ q.number = 34 := by
  cases h : q.degraded <;> simp [Power.number, PowerState.number, on, held, h]

/-- R47: hand-off `x` takes lamp `l`, which burns no more, out of the session; a demand is present that is not held. -/
structure State.Loses (t : State) (l : Lamp) (x : Handoff) : Prop where
  takes : ∀ w : Work, w.takeBare x = w.loseAndFollow l
  session : t.power.session.get l = true
  demand : t.power.demand ≠ ⟨false, false, false⟩
  held : t.power.held = false
  out : t.lampState l ≠ .lit ∧ t.lampState l ≠ .striking

/-- R47: the other lamp joins by failover. -/
structure State.Joins (t : State) (l : Lamp) : Prop where
  alone : t.power.session.get l.other = false
  policy : ∃ policy, t.power.latched = some policy ∧ policy ≠ .dual
  available : t.available l.other = true
  plain : t.condition l.other = .dark → t.lines.lit.get l.other = false ∧ (t.pulsed l.other).lifeState = t.accounts.life.get l.other

/-- R47: no lamp joins. -/
structure State.JoinsNot (t : State) (l : Lamp) : Prop where
  alone : t.power.session.get l.other = false
  none : t.power.latched = some .dual ∨ t.available l.other = false

/-! ### Beside a lamp that the LCU has dropped -/

theorem State.available_of {s : State} {l : Lamp} (state : s.lampState l = .dark ∨ s.lampState l = .cooling)
    (life : s.accounts.life.get l ≠ .blocked) (hold : s.lamps.thermalHold = false) : s.available l = true := by
  rcases state with state | state <;> simp [State.available, state, life, hold]

theorem State.Beside.joinsNot {s t : State} {l : Lamp} (h : s.Beside t l.other) (alone : s.power.session.get l.other = false)
    (none : s.power.latched = some .dual ∨ s.available l.other = false) : t.JoinsNot l :=
  ⟨h.power ▸ alone, by rw [h.power, h.available]; exact none⟩

theorem State.Beside.joins {s t : State} {l : Lamp} (h : s.Beside t l.other) (alone : s.power.session.get l.other = false)
    {policy : LampPolicy} (single : policy ∈ [LampPolicy.alternate, .fixedA, .fixedB]) (latched : s.power.latched = some policy)
    (available : s.available l.other = true)
    (plain : s.condition l.other = .dark → s.lines.lit.get l.other = false ∧
      (s.pulsed l.other).lifeState = s.accounts.life.get l.other) : t.Joins l where
  alone := h.power ▸ alone
  policy := ⟨policy, h.power ▸ latched, by rintro rfl; simp at single⟩
  available := h.available.trans available
  plain := by
    rw [h.condition, h.low, h.pulsed, h.life]
    exact plain

variable {t : State} {l : Lamp} {x : Handoff} {n : Nat}

/-! ### The lamps when the other one has joined -/

/-- R28, R47: the other lamp has joined the session of `t` and taken its order. -/
def State.joined (t : State) (l : Lamp) : State := State.ordered l.other (t.joining l)

theorem State.ordered_power_eq (s : State) (m : Lamp) : (State.ordered m s).power = s.power := by
  unfold State.ordered
  split <;> rfl

theorem State.joined_power (t : State) (l : Lamp) : (t.joined l).power = (t.joining l).power := State.ordered_power_eq _ _

theorem State.joined_lampState (t : State) (l : Lamp) : (t.joined l).lampState l = t.lampState l := by
  have other := (t.joining l).ordered_condition_other l.other
  have twice : l.other.other = l := by cases l <;> rfl
  rw [twice] at other
  exact congrArg LampCondition.state other

theorem State.joined_window (dark : t.condition l.other = .dark) : (t.joined l).condition l.other = .window 1 3 false :=
  State.ordered_window (s := t.joining l) dark

theorem State.joined_cooling {timer : Nat} {b : Bool} (cooling : t.condition l.other = .cooling timer b) :
    t.joined l = { t.joining l with lamps.lamp := t.placed l.other (.cooling timer true) } := by
  unfold State.joined State.ordered
  rw [show (t.joining l).condition l.other = _ from cooling]
  rfl

/-- R28: a DARK lamp that has joined and been struck. -/
theorem State.joined_struck {t : State} {l : Lamp} (dark : t.condition l.other = .dark) : t.joined l =
    ({ t with
      lamps.lamp := t.placed l.other (.window 1 3 false), accounts.lamps := t.accounts.lamps.set l.other (t.pulsed l.other)
      power.session := (t.power.session.set l false).set l.other true } : State).post (.lampState l.other) 1 := by
  unfold State.joined State.ordered
  rw [show (t.joining l).condition l.other = .dark from dark]
  rfl

/-- R28: the other lamp is STRIKING or COOLING. -/
theorem State.Joins.joined_lampState (h : t.Joins l) :
    (t.condition l.other = .dark ∧ (t.joined l).lampState l.other = .striking) ∨
      (t.condition l.other ≠ .dark ∧ (t.joined l).lampState l.other = .cooling) := by
  have available := h.available
  cases hc : t.condition l.other with
  | dark => exact .inl ⟨rfl, congrArg LampCondition.state (State.joined_window hc)⟩
  | cooling timer b =>
    refine .inr ⟨nofun, ?_⟩
    rw [State.joined_cooling hc]
    exact congrArg LampCondition.state (State.setCondition_condition t l.other (.cooling timer true))
  | _ => simp [State.available, State.lampState, hc, LampCondition.state] at available

theorem State.Joins.unlit (h : t.Joins l) (out : t.lampState l ≠ .lit) : (t.joined l).anyLit = false := by
  rw [State.anyLit_eq _ l, State.joined_lampState]
  rcases h.joined_lampState with ⟨-, state⟩ | ⟨-, state⟩ <;> rw [state] <;> simpa using out

/-! ### The whole hand-off -/

/-- In WARMING, where the other lamp has joined, what its strike hands over changes nothing. -/
theorem State.run_joinedNews (u : State) (lamps : u.lamps = (t.joined l).lamps) (warming : u.power.state = .warming) (held : u.power.held = false) :
    Work.run n ⟨u.followBlankTimer, t.strikeNews l.other⟩ = u.followBlankTimer := by
  have off : u.blankTiming = false := by simp [State.blankTiming, warming]
  have legal := u.followBlankTimer_legal
  rw [State.followBlankTimer_off off] at legal ⊢
  refine Work.run_warming _ (by exact warming) (by exact held) legal (fun y hy => .inr ?_) n
  obtain ⟨dark, rfl⟩ := mem_strikeNews.mp hy
  have struck : u.condition l.other = (t.joined l).condition l.other := by simp only [State.condition, lamps]
  exact ⟨l.other, rfl, congrArg LampCondition.state (struck.trans (State.joined_window dark))⟩

/-- R58, R59: in COOLING-DOWN the strike of a session lamp takes the projector to WARMING. -/
theorem Work.take_striking_cooling {rest : List Handoff} (cooling : t.power.state = .coolingDown) (session : t.power.session.get l = true)
    (held : t.power.held = false) (blank : t.BlankLegal) :
    Work.take (.changed l .striking) ⟨t, rest⟩ =
      ⟨({ t with power.state := .warming, power.degraded := false } : State).post .powerState 1, rest⟩ := by
  have bare : Work.takeBare (.changed l .striking) ⟨t, rest⟩ = ⟨{ t with power.state := .warming, power.degraded := false }, rest⟩ := by
    simp only [Work.takeBare, Work.followLamp, cooling, session, Bool.and_self, if_true, Work.edit]
    rfl
  rw [Work.take, bare, Work.edit, State.reportPower_changed (n := 1)]
  · exact congrArg (Work.mk · rest) ((State.blankLegal_iff_off (by simp)).mpr
      ((State.blankLegal_iff_off (s := t) (by rw [cooling]; decide)).mp blank))
  · simp [Power.number, PowerState.number, held]
  · cases degraded : t.power.degraded <;> simp [Power.number, PowerState.number, held, degraded, cooling]

namespace State.Loses

variable (h : t.Loses l x)
include h

theorem take (rest : List Handoff) : Work.take x ⟨t, rest⟩ =
    (Work.loseAndFollow ⟨t, rest⟩ l).edit fun u => (u.reportPower t.power.number).followBlankTimer := by
  rw [Work.take, h.takes]

/-- R59: the other lamp burns on under DUAL. -/
theorem run_burning (state : t.power.state = .warming ∨ t.power.state = .on) (degraded : t.power.degraded = false)
    (dual : t.power.latched = some .dual) (other : t.power.session.get l.other = true) (lit : t.lampState l.other = .lit) :
    Work.run (n + 1) ⟨t, [x]⟩ = (({ t with
      power.session := t.power.session.set l false, power.state := .on, power.degraded := true } : State).post .powerState
        34).followBlankTimer := by
  have lost := Work.loseLamp_burning (rest := []) h.session h.demand other lit
  have serves : (t.losing l).sessionEmpty = false := by rw [State.sessionEmpty_eq _ l]; simp [other]
  have follows := Work.followLamp_degraded (t := t.losing l) (rest := []) false dual lit h.out state
  rw [Work.run_cons, h.take, Work.loseAndFollow_followed lost (.inr serves), follows, Work.edit, Work.run_empty,
    State.reportPower_changed (n := 34)]
  · simp [Power.number, PowerState.number, h.held]
  · rcases state with state | state <;> simp [Power.number, PowerState.number, h.held, state, degraded]

theorem joins (j : t.Joins l) : Work.loseLamp ⟨t, []⟩ l = ⟨t.joined l, t.strikeNews l.other⟩ := by
  obtain ⟨policy, latched, single⟩ := j.policy
  exact Work.loseLamp_joins h.session h.demand j.alone latched single j.available j.plain

theorem joinsNot (j : t.JoinsNot l) :
    Work.loseLamp ⟨t, []⟩ l = ⟨t.unserved l (if t.power.state = .warming then .coolingDown else t.power.state), []⟩ :=
  Work.loseLamp_none h.session h.demand j.alone j.none h.held

/-- R47: in WARMING the other lamp joins. -/
theorem run_joined_warming (j : t.Joins l) (warming : t.power.state = .warming) :
    Work.run (n + 1) ⟨t, [x]⟩ = (t.joined l).followBlankTimer := by
  have state : (t.joined l).power.state = .warming := by rw [State.joined_power]; exact warming
  have held : (t.joined l).power.held = false := by rw [State.joined_power]; exact h.held
  have same : (t.joined l).reportPower t.power.number = t.joined l := if_pos (by rw [State.joined_power]; rfl)
  rw [Work.run_cons, h.take, Work.loseAndFollow_followed (h.joins j) (.inl (by rw [state]; decide)),
    Work.followLamp_warming _ state (j.unlit h.out.1), Work.edit, same]
  exact State.run_joinedNews _ rfl state held

/-- R47, R58: in ON the other lamp joins: the power state follows it, and POWER-STATE tells. -/
theorem take_joined_on (j : t.Joins l) (on : t.power.state = .on) (state : PowerState)
    (burns : (if (t.joined l).anyStriking then PowerState.warming else .coolingDown) = state) :
    Work.take x ⟨t, []⟩ =
      ⟨(({ t.joined l with power.state := state, power.degraded := false } : State).post .powerState state.number).followBlankTimer,
        t.strikeNews l.other⟩ := by
  have state' : (t.joined l).power.state = .on := by rw [State.joined_power]; exact on
  have held : (t.joined l).power.held = false := by rw [State.joined_power]; exact h.held
  rw [h.take, Work.loseAndFollow_followed (h.joins j) (.inl (by rw [state']; decide)),
    Work.followLamp_unlit _ state' (j.unlit h.out.1), burns, Work.edit, State.reportPower_changed (n := state.number)]
  · simp [Power.number, held]
  · subst burns
    rcases t.power.number_on on h.held with before | before <;> rw [before] <;> split <;> decide

/-- R47, R58: in ON the other lamp, DARK, joins and is struck. -/
theorem run_struck_on (j : t.Joins l) (on : t.power.state = .on) (dark : t.condition l.other = .dark) :
    Work.run (n + 1) ⟨t, [x]⟩ =
      (({ t.joined l with power.state := .warming, power.degraded := false } : State).post .powerState 1).followBlankTimer := by
  have striking : (t.joined l).lampState l.other = .striking := congrArg LampCondition.state (State.joined_window dark)
  have held : (t.joined l).power.held = false := by rw [State.joined_power]; exact h.held
  rw [Work.run_cons, h.take_joined_on j on .warming (if_pos (State.anyStriking_of striking))]
  exact State.run_joinedNews _ rfl rfl held

/-- R47, R58: in ON the other lamp, in COOLING, joins. -/
theorem run_pending_on (j : t.Joins l) (on : t.power.state = .on) (cooling : t.condition l.other ≠ .dark) :
    Work.run (n + 1) ⟨t, [x]⟩ =
      (({ t.joined l with power.state := .coolingDown, power.degraded := false } : State).post .powerState 3).followBlankTimer := by
  have unstruck : (t.joined l).anyStriking = false := by
    obtain ⟨dark, -⟩ | ⟨-, state⟩ := j.joined_lampState
    · exact absurd dark cooling
    · rw [State.anyStriking_eq _ l, State.joined_lampState, state]
      simpa using h.out.2
  have none : t.strikeNews l.other = [] := if_neg cooling
  rw [Work.run_cons, h.take_joined_on j on .coolingDown (by rw [unstruck]; rfl), none, Work.run_empty]
  rfl

/-- R58, R61: in WARMING no lamp joins. -/
theorem run_unserved_warming (j : t.JoinsNot l) (warming : t.power.state = .warming) (degraded : t.power.degraded = false)
    (busy : (t.condition l).resting = false) :
    Work.run (n + 1) ⟨t, [x]⟩ = ((t.unserved l .coolingDown).post .powerState 19).followBlankTimer := by
  have lost := h.joinsNot j
  rw [if_pos warming] at lost
  have empty : (t.unserved l .coolingDown).sessionEmpty = true := by
    rw [State.sessionEmpty_eq _ l]; simp [State.unserved, j.alone]
  have unquiet : (t.unserved l .coolingDown).quiet = false := by
    rw [State.quiet_eq _ l, show (t.unserved l .coolingDown).condition l = t.condition l from rfl, busy]; rfl
  rw [Work.run_cons, h.take, Work.loseAndFollow_emptied lost h.session rfl empty unquiet, Work.edit, Work.run_empty,
    State.reportPower_changed (n := 19)]
  · simp [Power.number, PowerState.number, State.unserved, degraded]
  · simp [Power.number, PowerState.number, h.held, degraded, warming]

/-- R58, R61: in ON no lamp joins. -/
theorem run_unserved_on (j : t.JoinsNot l) (on : t.power.state = .on)
    (other : t.lampState l.other ≠ .lit ∧ t.lampState l.other ≠ .striking) :
    Work.run (n + 1) ⟨t, [x]⟩ =
      (({ t.unserved l .coolingDown with power.degraded := false } : State).post .powerState 19).followBlankTimer := by
  have lost := h.joinsNot j
  rw [on, if_neg nofun] at lost
  have unlit : (t.unserved l .on).anyLit = false := by
    show t.anyLit = false
    rw [State.anyLit_eq _ l]
    simp [h.out.1, other.1]
  have unstruck : (t.unserved l .on).anyStriking = false := by
    show t.anyStriking = false
    rw [State.anyStriking_eq _ l]
    simp [h.out.2, other.2]
  rw [Work.run_cons, h.take, Work.loseAndFollow_followed lost (.inl nofun), Work.followLamp_unlit _ rfl unlit, unstruck, Work.edit,
    Work.run_empty, State.reportPower_changed (n := 19)]
  · rfl
  · rfl
  · rcases t.power.number_on on h.held with before | before <;> rw [before] <;> decide

/-- R47, R58: in COOLING-DOWN the other lamp, DARK, joins and is struck. -/
theorem run_struck_cooling (j : t.Joins l) (cooling : t.power.state = .coolingDown) (degraded : t.power.degraded = false)
    (blank : t.BlankLegal) (dark : t.condition l.other = .dark) :
    Work.run (n + 2) ⟨t, [x]⟩ = ({ t.joined l with power.state := .warming } : State).post .powerState 1 := by
  have power := State.joined_power t l
  have window := State.joined_window dark
  have state : (t.joined l).power.state = .coolingDown := by rw [power]; exact cooling
  have held : (t.joined l).power.held = false := by rw [power]; exact h.held
  have legal : (t.joined l).BlankLegal := by
    rw [State.blankLegal_iff_off (by rw [state]; decide), power]
    exact (State.blankLegal_iff_off (s := t) (by rw [cooling]; decide)).mp blank
  have serves : (t.joined l).sessionEmpty = false := by rw [State.sessionEmpty_eq _ l, power]; simp
  have unquiet : (t.joined l).quiet = false := by rw [State.quiet_eq _ l, window]; simp [LampCondition.resting]
  have news : t.strikeNews l.other = [.changed l.other .striking] := if_pos dark
  have stays : Work.followLamp ⟨t.joined l, [.changed l.other .striking]⟩ l false = ⟨t.joined l, [.changed l.other .striking]⟩ := by
    simp only [Work.followLamp, state, Bool.false_and, Bool.false_eq_true, if_false, unquiet, held]
  have taken : Work.take x ⟨t, []⟩ = ⟨t.joined l, [.changed l.other .striking]⟩ := by
    have same : (t.joined l).reportPower t.power.number = t.joined l := if_pos (by rw [power]; rfl)
    rw [h.take, Work.loseAndFollow_followed (h.joins j) (.inr serves), news, stays, Work.edit, same]
    exact congrArg (Work.mk · _) legal
  have warmed : ({ t.joined l with power.state := .warming, power.degraded := false } : State) =
      { t.joined l with power.state := .warming } := by
    rw [← show (t.joined l).power.degraded = false by rw [power]; exact degraded]
  rw [Work.run_cons, taken, Work.run_cons, Work.take_striking_cooling state (by rw [power]; simp) held legal, Work.run_empty, warmed]

/-- R58, R61: in COOLING-DOWN no lamp joins. -/
theorem run_unserved_cooling (j : t.JoinsNot l) (cooling : t.power.state = .coolingDown) (degraded : t.power.degraded = false)
    (blank : t.BlankLegal) (busy : (t.condition l.other).resting = false) :
    Work.run (n + 1) ⟨t, [x]⟩ = (t.unserved l .coolingDown).post .powerState 19 := by
  have lost := h.joinsNot j
  rw [cooling, if_neg nofun] at lost
  have empty : (t.unserved l .coolingDown).sessionEmpty = true := by
    rw [State.sessionEmpty_eq _ l]; simp [State.unserved, j.alone]
  have unquiet : (t.unserved l .coolingDown).quiet = false := by
    rw [State.quiet_eq _ l, show (t.unserved l .coolingDown).condition l.other = t.condition l.other from rfl, busy, Bool.and_false]
  rw [Work.run_cons, h.take, Work.loseAndFollow_emptied lost h.session rfl empty unquiet, Work.edit, Work.run_empty,
    State.reportPower_changed (n := 19)]
  · exact (State.blankLegal_iff_off (by simp [State.unserved])).mpr
      ((State.blankLegal_iff_off (s := t) (by rw [cooling]; decide)).mp blank)
  · simp [Power.number, PowerState.number, State.unserved, degraded]
  · simp [Power.number, PowerState.number, h.held, degraded, cooling]

end State.Loses

end Sys2Proof.Machine
end

section
/-! PROOFS. Ignition windows, retries and lost strikes (O17). -/

namespace Sys2Proof.Machine

/-! ### The LCU and the LAU on a STRIKING lamp (R10, R21, R32, R38) -/

/-- R21: lamp `l` leaves STRIKING or LIT for condition `c`, with the save. -/
def State.quit (s : State) (l : Lamp) (c : LampCondition) : State :=
  { s with lamps.lamp := s.placed l c, store.accounts := some s.accounts.saved, accounts.litTicks := 0 }

namespace Work

variable {w : Work} {l : Lamp}

theorem moveLamp_saving (burning : (w.s.lampState l).savesOnLeaving = true) (c : LampCondition) :
    w.moveLamp l c = ⟨(w.s.quit l c).post (.lampState l) c.state.number, w.out⟩ := by
  simp only [moveLamp, burning, if_true, Work.edit]
  rfl

/-- R38: a burning lamp fails. -/
theorem fail_eq (burning : (w.s.lampState l).savesOnLeaving = true) (cause : Nat) :
    w.fail l cause = ⟨((w.s.quit l (.failed w.s.lamps.params.coolDown)).post (.lampFailed l) cause).post (.lampState l) 4,
      w.out ++ [.changed l .failed]⟩ := by
  unfold fail changeLamp
  rw [moveLamp_saving (by exact burning)]
  rfl

/-- R10, R32: the life state becomes BLOCKED. -/
theorem recomputeLife_blocked (now : (w.s.account l).lifeState = .blocked) (was : w.s.accounts.life.get l ≠ .blocked) :
    w.recomputeLife l = abandonStrike ⟨({ w.s with accounts.life := w.s.accounts.life.set l .blocked } : State).post (.lampLife l) 3,
      w.out ++ [.lifeChanged l]⟩ l := by
  have computed : w.s.recomputeLife l =
      ({ w.s with accounts.life := w.s.accounts.life.set l .blocked } : State).post (.lampLife l) 3 := by
    unfold State.recomputeLife
    simp only [now]
    exact if_neg (Ne.symm was)
  have life : (({ w.s with accounts.life := w.s.accounts.life.set l .blocked } : State).post (.lampLife l) 3).accounts.life.get l =
      .blocked := PerLamp.get_set_same _ _ _
  unfold recomputeLife
  simp only [Work.edit, computed, life, if_neg (Ne.symm was), if_true, Work.hand]

/-- R32: in its ignition window the strike is marked abandoned. -/
theorem abandonStrike_window {k timer : Nat} {b : Bool} (window : w.s.condition l = .window k timer b) :
    w.abandonStrike l = ⟨w.s.setCondition l (.window k timer true), w.out⟩ := by
  unfold abandonStrike
  rw [window]
  rfl

/-- R32: in its retry wait the lamp cools at once. -/
theorem abandonStrike_retry {k timer : Nat} (retry : w.s.condition l = .retry k timer) :
    w.abandonStrike l = ⟨(w.s.quit l (w.s.fullCooling false)).post (.lampState l) 3, w.out ++ [.abandoned l]⟩ := by
  have burning : (w.s.lampState l).savesOnLeaving = true := by rw [State.lampState, retry]; rfl
  unfold abandonStrike
  rw [retry]
  simp only
  rw [moveLamp_saving burning]
  rfl

/-- R5, R32: a pulse that makes the lamp BLOCKED in its ignition window. -/
theorem pulse_blocked {k timer : Nat} {b : Bool} (window : w.s.condition l = .window k timer b) (low : w.s.lines.lit.get l = false)
    (now : (w.s.pulsed l).lifeState = .blocked) (was : w.s.accounts.life.get l ≠ .blocked) :
    w.pulse l = ⟨(({ w.s.setAccount l (w.s.pulsed l) with accounts.life := w.s.accounts.life.set l .blocked } : State).post
      (.lampLife l) 3).setCondition l (.window k timer true), w.out ++ [.lifeChanged l]⟩ := by
  have charged : ((w.edit fun s => s.setAccount l ((s.account l).chargePulse s.accounts.weights)).s.account l).lifeState = .blocked := by
    rw [Work.edit_s, State.setAccount_account]; exact now
  have told : (w.edit fun s => s.setAccount l ((s.account l).chargePulse s.accounts.weights)).recomputeLife l =
      ⟨(({ w.s.setAccount l (w.s.pulsed l) with accounts.life := w.s.accounts.life.set l .blocked } : State).post
        (.lampLife l) 3).setCondition l (.window k timer true), w.out ++ [.lifeChanged l]⟩ := by
    rw [recomputeLife_blocked charged (by exact was), abandonStrike_window (by exact window)]
    rfl
  unfold pulse
  simp only [told]
  refine if_neg ?_
  show ¬ w.s.lines.lit.get l = true
  rw [low]
  decide

end Work

/-- R47: the LCU and the LAU leave `t`, whose lamp `l` they have taken from STRIKING to FAILED or COOLING and hand over as lost by `x`. -/
structure State.Drops (s t : State) (l : Lamp) (x : Handoff) : Prop where
  takes : ∀ w : Work, w.takeBare x = w.loseAndFollow l
  beside : s.Beside t l.other
  out : t.lampState l ≠ .lit ∧ t.lampState l ≠ .striking
  busy : 0 < s.lamps.params.coolDown → (t.condition l).resting = false

theorem State.Drops.loses {s t : State} {l : Lamp} {x : Handoff} (h : s.Drops t l x) (session : s.power.session.get l = true)
    (demand : s.power.demand ≠ ⟨false, false, false⟩) (held : s.power.held = false) : t.Loses l x :=
  ⟨h.takes, h.beside.power ▸ session, h.beside.power ▸ demand, h.beside.power ▸ held, h.out⟩

theorem State.placed_other (s : State) (l : Lamp) (c : LampCondition) : (s.placed l c).get l.other = s.lamps.lamp.get l.other :=
  PerLamp.get_set_other _ _ _

theorem State.placed_own (s : State) (l : Lamp) (c : LampCondition) : ((s.placed l c).get l).condition = c :=
  congrArg LampControl.condition (PerLamp.get_set_same _ _ _)

/-- R38: a lamp that has failed. -/
theorem State.drops_failed (s : State) (l : Lamp) :
    s.Drops (((s.quit l (.failed s.lamps.params.coolDown)).post (.lampFailed l) 1).post (.lampState l) 4) l (.changed l .failed) where
  takes _ := rfl
  beside := ⟨rfl, s.placed_other _ _, rfl, rfl, rfl, rfl, rfl⟩
  out := by
    have state : (State.post (State.post (s.quit l (.failed s.lamps.params.coolDown)) (.lampFailed l) 1) (.lampState l) 4).lampState l =
        .failed := congrArg LampCondition.state (s.placed_own _ _)
    rw [state]
    decide
  busy runs := (congrArg LampCondition.resting (s.placed_own l (.failed s.lamps.params.coolDown))).trans
    (by simpa [LampCondition.resting] using Nat.pos_iff_ne_zero.mp runs)

/-- R32: a lamp whose strike has been abandoned. -/
theorem State.drops_cooled {s t : State} {l : Lamp}
    (lamps : t.lamps = ⟨s.placed l (.cooling s.lamps.params.coolDown false), s.lamps.thermalHold, s.lamps.params⟩)
    (power : t.power = s.power) (account : t.account l.other = s.account l.other)
    (life : t.accounts.life.get l.other = s.accounts.life.get l.other) (weights : t.accounts.weights = s.accounts.weights)
    (lines : t.lines = s.lines) : s.Drops t l (.abandoned l) where
  takes _ := rfl
  beside := ⟨power, by rw [lamps]; exact s.placed_other _ _, account, life, weights, by rw [lines], by rw [lamps]⟩
  out := by rw [State.lampState, State.condition, lamps, State.placed_own]; exact ⟨nofun, nofun⟩
  busy _ := by rw [State.condition, lamps, State.placed_own]; rfl

/-- R13, R32: Set Lamp Thresholds that makes lamp `l` BLOCKED. -/
theorem Work.setLampThresholds_blocked {s : State} {l : Lamp} {rated warn grace : Nat}
    (now : LampAccount.lifeState { s.account l with ratedLife := rated, warnOffset := warn, grace := grace } = .blocked)
    (was : s.accounts.life.get l ≠ .blocked) :
    Work.setLampThresholds ⟨s, []⟩ l rated warn grace =
      (abandonStrike ⟨({ s.setThresholds l rated warn grace with accounts.life := s.accounts.life.set l .blocked } : State).post
        (.lampLife l) 3, [.lifeChanged l]⟩ l).edit fun s => s.saveAccounts := by
  unfold Work.setLampThresholds
  rw [recomputeLife_blocked (by rw [Work.edit_s]; unfold State.setThresholds; rw [State.setAccount_account]; exact now) (by exact was)]
  rfl

/-- R13, R177: the run and the reply of Set Lamp Thresholds. -/
theorem setLampThresholds_run {s : State} {l : Lamp} {r0 r1 w0 w1 g0 g1 : Byte} {w : Work}
    (did : Work.setLampThresholds ⟨s, []⟩ l (max 500 (min 20000 (readU16 r0 r1))) (min 2000 (readU16 w0 w1))
      (min 1000 (readU16 g0 g1)) = w) :
    setLampThresholds [lampByte l, r0, r1, w0, w1, g0, g1] s =
      (Work.run settleFuel w,
        ⟨if max 500 (min 20000 (readU16 r0 r1)) = readU16 r0 r1 ∧ min 2000 (readU16 w0 w1) = readU16 w0 w1 ∧
            min 1000 (readU16 g0 g1) = readU16 g0 g1 then .ok else .clamped,
          [byteOf (w.s.accounts.life.get l).number]⟩) := by
  have clamped : (max 500 (min 20000 (readU16 r0 r1)) != readU16 r0 r1 || min 2000 (readU16 w0 w1) != readU16 w0 w1 ||
      min 1000 (readU16 g0 g1) != readU16 g0 g1) = !decide (max 500 (min 20000 (readU16 r0 r1)) = readU16 r0 r1 ∧
        min 2000 (readU16 w0 w1) = readU16 w0 w1 ∧ min 1000 (readU16 g0 g1) = readU16 g0 g1) := by
    simp [bne, Bool.beq_eq_decide_eq, Bool.or_assoc]
  rw [← okOrClamped_eq clamped, ← did]
  simp only [setLampThresholds, readLamp_lampByte, clampNat_zero]
  rfl

end Sys2Proof.Machine

open Sys2Proof Sys2Proof.Machine in
/-- Settles O17: each expiry is evaluated on the LCU and the LAU; a lamp that they drop is one hand-off to the PDU, whose four ends are
the lemmas on a lost lamp. -/
theorem ignitionWindowsAndRetries : Obligations.IgnitionWindowsAndRetries := by
  intro s l powered put pulsed charged ends left failed
  have ends_of {c : Instr} {t : State} {reply : State → State} {x : Handoff} (n : Nat) (drops : s.Drops t l x)
      (run : s.power.held = false → s.power.state = .warming → exec c s = .next (reply (Work.run (n + 1) ⟨t, [x]⟩))) : ends c t reply := by
    intro session demand warming held degraded without other
    have loses := drops.loses session demand held
    have power := drops.beside.power
    have state : t.power.state = .warming := power ▸ warming
    have undegraded : t.power.degraded = false := power ▸ degraded
    have control : other = t.lamps.lamp.get l.other := drops.beside.control.symm
    have pulse : pulsed l.other = t.pulsed l.other := drops.beside.pulsed.symm
    have without_eq : without = t.power.session.set l false := by rw [power]
    rw [run held warming, without_eq, control, pulse]
    refine ⟨fun dual session lit => ?_, fun alone => ⟨fun policy single latched life hold => ⟨fun dark low plain => ?_,
      fun timer b cooling => ?_⟩, fun none busy => ?_⟩⟩
    · rw [loses.run_burning (.inl state) undegraded (power ▸ dual) (power ▸ session) (drops.beside.lampState.trans lit)]
    · have joins := drops.beside.joins alone single latched (State.available_of (.inl (by rw [State.lampState, dark]; rfl)) life hold)
        fun _ => ⟨low, by rw [← drops.beside.pulsed]; exact plain⟩
      rw [loses.run_joined_warming joins state, State.joined_struck (drops.beside.condition.trans dark)]
      rfl
    · have joins := drops.beside.joins alone single latched (State.available_of (.inr (by rw [State.lampState, cooling]; rfl)) life hold)
        fun dark => by rw [cooling] at dark; cases dark
      rw [loses.run_joined_warming joins state, State.joined_cooling (drops.beside.condition.trans cooling)]
      rfl
    · rw [loses.run_unserved_warming (drops.beside.joinsNot alone none) state undegraded (drops.busy busy), State.unserved, drops.beside.hold]
  have burns {c : LampCondition} (h : s.condition l = c) (striking : c.state = .striking) : (s.lampState l).savesOnLeaving = true := by
    rw [State.lampState, h, striking]; rfl
  refine ⟨fun k t wait window more listed => ?_, fun k t retry more low => ⟨fun plain => ?_, fun blank held state was now => ?_⟩,
    fun k t limit => ⟨fun window => ?_, fun retry => ?_⟩, fun k t window => ?_, ?_⟩
  · have waits : wait = retryWait k := by
      simp only [List.mem_cons, Prod.mk.injEq, List.not_mem_nil, or_false] at listed
      rcases listed with ⟨rfl, rfl⟩ | ⟨rfl, rfl⟩ | ⟨rfl, rfl⟩ | ⟨rfl, rfl⟩ | ⟨rfl, rfl⟩ <;> rfl
    have done : Work.windowExpiry ⟨s, []⟩ l = ⟨s.setCondition l (.retry k wait), []⟩ := by
      simp only [Work.windowExpiry, window, Bool.false_eq_true, if_false, more, if_true, waits, Work.edit]
    refine (carry_powered _ powered).trans ?_
    rw [State.settle, done, Work.run_empty]
    rfl
  · have done : Work.retryExpiry ⟨s, []⟩ l =
        ⟨(s.setCondition l (.window (k + 1) 3 false)).setAccount l (s.pulsed l), []⟩ := by
      simp only [Work.retryExpiry, retry, more, if_true, Work.edit]
      exact Work.pulse_eq low plain
    refine (carry_powered _ powered).trans ?_
    rw [State.settle, done, Work.run_empty]
    rfl
  · have done : Work.retryExpiry ⟨s, []⟩ l = ⟨({ s with
        lamps.lamp := put (.window (k + 1) 3 true), accounts.lamps := charged l
        accounts.life := s.accounts.life.set l .blocked } : State).post (.lampLife l) 3, [.lifeChanged l]⟩ := by
      simp only [Work.retryExpiry, retry, more, if_true, Work.edit]
      rw [Work.pulse_blocked (State.setCondition_condition _ _ _) (by exact low) (by exact now) (by exact was)]
      have twice : (put (.window (k + 1) 3 false)).set l { (put (.window (k + 1) 3 false)).get l with
          condition := .window (k + 1) 3 true } = put (.window (k + 1) 3 true) := by
        rw [PerLamp.set_set, PerLamp.get_set_same]
      rw [← twice]
      rfl
    refine (carry_powered _ powered).trans ?_
    rw [State.settle, done]
    refine congrArg Host.Outcome.next (Work.run_all_idle (fun y hy rest => ?_) _)
    obtain rfl := List.mem_singleton.mp hy
    exact Work.take_lifeChanged_self l rest state held (blank.frame rfl rfl)
  · refine ends_of (c := .ignitionWindowExpiry l) (t := failed) (reply := fun x => x) 63 (s.drops_failed l) fun _ _ =>
      (carry_powered _ powered).trans ?_
    have done : Work.windowExpiry ⟨s, []⟩ l = Work.fail ⟨s, []⟩ l 1 := by
      simp only [Work.windowExpiry, window, Bool.false_eq_true, if_false, Nat.not_lt.mpr limit]
    rw [State.settle, done, Work.fail_eq (burns window rfl)]
    rfl
  · refine ends_of (c := .retryWaitExpiry l) (t := failed) (reply := fun x => x) 63 (s.drops_failed l) fun _ _ =>
      (carry_powered _ powered).trans ?_
    have done : Work.retryExpiry ⟨s, []⟩ l = Work.fail ⟨s, []⟩ l 1 := by
      simp only [Work.retryExpiry, retry, if_neg (Nat.not_lt.mpr limit)]
    rw [State.settle, done, Work.fail_eq (burns retry rfl)]
    rfl
  · refine ends_of (c := .ignitionWindowExpiry l) (t := (left (.cooling s.lamps.params.coolDown false)).post (.lampState l) 3)
      (reply := fun x => x) 63 (State.drops_cooled rfl rfl rfl rfl rfl rfl) fun _ _ => (carry_powered _ powered).trans ?_
    have done : Work.windowExpiry ⟨s, []⟩ l = (Work.moveLamp ⟨s, []⟩ l (s.fullCooling false)).hand (.abandoned l) := by
      simp only [Work.windowExpiry, window, if_true]
    rw [State.settle, done, Work.moveLamp_saving (burns window rfl)]
    rfl
  · rintro x r0 r1 w0 w1 g0 g1 ready blank rfl rated warn grace account now was req lamps blocked reply
    have run {w : Work} (did : Work.setLampThresholds ⟨s, []⟩ l rated warn grace = w) (life : w.s.accounts.life.get l = .blocked) :
        exec req s = .next (reply (Work.run settleFuel w)) := by
      refine (ready.exec_request .setLampThresholds (d := [lampByte l, r0, r1, w0, w1, g0, g1])
        ⟨0x63, .setLampThresholds, [.facility], 7⟩ rfl rfl rfl rfl (by simp) nofun).trans ?_
      rw [owner, setLampThresholds_run did, life]
      rfl
    have lifeBlocked (c : LampCondition) : (blocked c).accounts.life.get l = .blocked := PerLamp.get_set_same _ _ _
    have idle (c : LampCondition) (rest : List Handoff) (held : s.power.held = false) (state : s.power.state ≠ .standby) :
        Work.take (.lifeChanged l) ⟨blocked c, rest⟩ = ⟨blocked c, rest⟩ :=
      Work.take_lifeChanged_self l rest state held (blank.frame rfl rfl)
    have thresholds := Work.setLampThresholds_blocked (s := s) (l := l) now was
    refine ⟨fun k t b window held state => ?_, fun k t retry => ?_⟩
    · have did : Work.setLampThresholds ⟨s, []⟩ l rated warn grace = ⟨blocked (.window k t true), [.lifeChanged l]⟩ := by
        rw [thresholds, Work.abandonStrike_window (by exact window)]
        rfl
      rw [run did (lifeBlocked _), settleFuel, Work.run_cons, idle _ _ held state, Work.run_empty]
    · let cooled : State := (blocked (.cooling s.lamps.params.coolDown false)).post (.lampState l) 3
      have did : Work.setLampThresholds ⟨s, []⟩ l rated warn grace = ⟨cooled, [.lifeChanged l, .abandoned l]⟩ := by
        rw [thresholds, Work.abandonStrike_retry (by exact retry)]
        rfl
      refine ends_of (c := req) (t := cooled) (reply := reply) 62
        (State.drops_cooled rfl rfl (PerLamp.get_set_other _ _ _) (PerLamp.get_set_other _ _ _) rfl rfl) fun held warming => ?_
      have state : s.power.state ≠ .standby := by rw [warming]; decide
      rw [run did (lifeBlocked (.cooling s.lamps.params.coolDown false)), settleFuel, Work.run_cons,
        Work.take_lifeChanged_self (s := cooled) l _ state held (blank.frame rfl rfl)]
end

section
/-! PROOFS. Ends of cool-downs and fan times (O18). -/

namespace Sys2Proof.Machine

/-- R44: a lamp that was neither STRIKING nor LIT passes to condition `c`. -/
theorem Work.moveLamp_plain {w : Work} {l : Lamp} (h : (w.s.lampState l).savesOnLeaving = false) (c : LampCondition) :
    w.moveLamp l c = ⟨(w.s.setCondition l c).post (.lampState l) c.state.number, w.out⟩ := by
  simp only [Work.moveLamp, Work.edit, h, Bool.false_eq_true, if_false]

/-- R35: a deferred strike is carried out. -/
theorem Work.beginStrike_cooled {s : State} {l : Lamp} (unsaved : (s.lampState l).savesOnLeaving = false) (low : s.lines.lit.get l = false)
    (kept : (s.pulsed l).lifeState = s.accounts.life.get l) :
    Work.beginStrike ⟨s, []⟩ l = ⟨({ s with
      lamps.lamp := s.placed l (.window 1 3 false), accounts.lamps := s.accounts.lamps.set l (s.pulsed l) } : State).post
        (.lampState l) 1, [.changed l .striking]⟩ := by
  rw [Work.beginStrike, Work.changeLamp_plain unsaved, Work.pulse_eq (by exact low) (by exact kept)]
  rfl

end Sys2Proof.Machine

open Sys2Proof Sys2Proof.Machine in
/-- Settles O18: beside a burning lamp nothing follows; a strike carried out takes the projector to WARMING; a strike declined loses the
lamp, with the ends of a lost lamp in COOLING-DOWN. -/
theorem coolDownsAndFanTimes : Obligations.CoolDownsAndFanTimes := by
  intro s l powered blank held put pulsed struck
  refine ⟨fun on lit degraded => ⟨fun t cooling => ?_, fun fan runs failed => ?_⟩,
    fun t cooling state session hold => ⟨fun life strikes => ?_, ?_⟩⟩
  · have unsaved : (s.lampState l).savesOnLeaving = false := by rw [State.lampState, cooling]; rfl
    have done : Work.coolDownExpiry ⟨s, []⟩ l = ⟨(s.setCondition l .dark).post (.lampState l) 0, [.changed l .dark]⟩ := by
      simp only [Work.coolDownExpiry, cooling, Bool.false_eq_true, if_false]
      exact Work.changeLamp_plain unsaved .dark
    refine (carry_powered _ powered).trans ?_
    rw [State.settle, done, settleFuel, Work.run_cons, Work.take_dark_unmoved, Work.run_empty]
    · rfl
    · exact State.setCondition_condition _ _ _
    · have other : (s.setCondition l .dark).lampState l.other = .lit := (congrArg LampCondition.state (s.setCondition_other l .dark)).trans lit
      exact ⟨fun standby => absurd (on.symm.trans standby) (by decide), fun warming => absurd (on.symm.trans warming) (by decide),
        fun _ => ⟨other, degraded⟩, fun down => absurd (on.symm.trans down) (by decide)⟩
    · exact blank.frame rfl rfl
  · have done : Work.fanTimeEnd ⟨s, []⟩ l = ⟨s.setCondition l (.failed 0), [.fanOver l]⟩ := by
      simp only [Work.fanTimeEnd, failed, Nat.pos_iff_ne_zero.mp runs, if_false, Work.edit, Work.hand]
      rfl
    refine (carry_powered _ powered).trans ?_
    rw [State.settle, done, settleFuel, Work.run_cons, Work.take_self, Work.run_empty]
    · rfl
    · have idle := Work.recheckIdle_unheld (s := s.setCondition l (.failed 0)) [] held (fun standby => by
        rw [show s.power.state = .standby from standby] at on; cases on)
      refine (if_neg ?_).trans idle
      rintro ⟨down, -⟩
      rw [show s.power.state = .coolingDown from down] at on
      cases on
    · exact blank.frame rfl rfl
  · obtain ⟨low, plain⟩ := strikes
    have unsaved : (s.lampState l).savesOnLeaving = false := by rw [State.lampState, cooling]; rfl
    have allowed : s.strikeAllowed l = true := by simp [State.strikeAllowed, life, hold]
    have done : Work.coolDownExpiry ⟨s, []⟩ l = Work.beginStrike ⟨s, []⟩ l := by
      simp only [Work.coolDownExpiry, cooling, allowed, if_true]
    refine (carry_powered _ powered).trans ?_
    rw [State.settle, done, Work.beginStrike_cooled unsaved low plain, settleFuel, Work.run_cons,
      Work.take_striking_cooling (by exact state) (by exact session) (by exact held) (by exact blank.frame rfl rfl), Work.run_empty]
    rfl
  · intro life demand degraded alone dark without
    have unsaved : (s.lampState l).savesOnLeaving = false := by rw [State.lampState, cooling]; rfl
    have refused : s.strikeAllowed l = false := by simp [State.strikeAllowed, life]
    have done : Work.coolDownExpiry ⟨s, []⟩ l = ⟨dark, [.declinedDark l]⟩ := by
      simp only [Work.coolDownExpiry, cooling, refused, if_true, Bool.false_eq_true, if_false]
      rw [Work.moveLamp_plain unsaved]
      rfl
    have runs : exec (.coolDownExpiry l) s = .next (Work.run 64 ⟨dark, [.declinedDark l]⟩) := by
      refine (carry_powered _ powered).trans ?_
      rw [State.settle, done, settleFuel]
    have beside : s.Beside dark l.other := ⟨rfl, s.placed_other _ _, rfl, rfl, rfl, rfl, rfl⟩
    have own : dark.lampState l = .dark := congrArg LampCondition.state (s.placed_own l .dark)
    have loses : dark.Loses l (.declinedDark l) := ⟨fun _ => rfl, session, demand, held, by rw [own]; decide⟩
    have legal : dark.BlankLegal := blank.frame rfl rfl
    refine ⟨fun policy single latched isDark usable strikes => ?_, fun fan fanRuns failed => ?_⟩
    · have joins := beside.joins alone single latched
        (State.available_of (.inl ((s.lampState_dark_iff _).mpr isDark)) usable hold) fun _ => strikes
      have darkOther := beside.condition.trans isDark
      rw [runs, loses.run_struck_cooling joins state degraded legal darkOther, State.joined_struck darkOther, ← beside.control]
      rfl
    · have unavailable : s.available l.other = false := by
        simp [State.available, State.lampState, failed, LampCondition.state]
      have busy : (dark.condition l.other).resting = false := by
        rw [beside.condition, failed]; simpa [LampCondition.resting] using Nat.pos_iff_ne_zero.mp fanRuns
      rw [runs, loses.run_unserved_cooling (beside.joinsNot alone (.inr unavailable)) state degraded legal busy, State.unserved,
        beside.hold, hold, ← show dark.power.state = .coolingDown from state]
      rfl
end

section
/-! PROOFS. The rise and the fall of a LIT line (O19). -/

namespace Sys2Proof.Machine

theorem Power.number_warming (q : Power) (warming : q.state = .warming) (held : q.held = false) : q.number = 1 ∨ q.number = 33 := by
  cases h : q.degraded <;> simp [Power.number, PowerState.number, warming, held, h]

/-- R21, R44: a burning lamp passes to condition `c`. -/
theorem Work.changeLamp_quit {w : Work} {l : Lamp} (burning : (w.s.lampState l).savesOnLeaving = true) (c : LampCondition) :
    w.changeLamp l c = ⟨(w.s.quit l c).post (.lampState l) c.state.number, w.out ++ [.changed l c.state]⟩ := by
  rw [Work.changeLamp, Work.moveLamp_saving burning]
  rfl

/-! ### A lamp lights (R29, R58, R59) -/

/-- R58, R59: in WARMING a lamp has become LIT and none is STRIKING. -/
theorem Work.followLamp_lit {t : State} {l : Lamp} {rest : List Handoff} (began : Bool) (warming : t.power.state = .warming)
    (lit : t.lampState l = .lit) (other : t.lampState l.other ≠ .striking) :
    Work.followLamp ⟨t, rest⟩ l began = ⟨{ t with
      power.state := .on, power.degraded := t.power.latched == some .dual && t.lampState l.other != .lit }, rest⟩ := by
  have some : t.anyLit = true := by rw [State.anyLit_eq _ l, lit]; rfl
  have none : t.anyStriking = false := by rw [State.anyStriking_eq _ l, lit]; simpa using other
  have degraded : t.degradedNow = (t.power.latched == Option.some .dual && t.lampState l.other != .lit) := by
    rw [State.degradedNow_eq _ l, lit]
    cases h : t.lampState l.other <;> rfl
  simp only [Work.followLamp, warming, some, none, Bool.not_false, Bool.and_self, if_true, Work.edit, State.setPowerState_on, degraded]

/-- R58, R59: in WARMING the last lamp to strike has lit. -/
theorem Work.run_lit {t : State} {l : Lamp} {n : Nat} (warming : t.power.state = .warming) (held : t.power.held = false)
    (lit : t.lampState l = .lit) (other : t.lampState l.other ≠ .striking) :
    let degraded := t.power.latched == some .dual && t.lampState l.other != .lit
    Work.run (n + 1) ⟨t, [.changed l .lit]⟩ =
      (({ t with power.state := .on, power.degraded := degraded } : State).post .powerState (if degraded then 34 else 2)).followBlankTimer := by
  intro degraded
  have follows : Work.takeBare (.changed l .lit) ⟨t, []⟩ = ⟨{ t with power.state := .on, power.degraded := degraded }, []⟩ :=
    Work.followLamp_lit false warming lit other
  rw [Work.run_cons, Work.take, follows, Work.edit, Work.run_empty, State.reportPower_changed (n := if degraded then 34 else 2)]
  · cases degraded <;> simp [Power.number, PowerState.number, held]
  · rcases t.power.number_warming warming held with before | before <;> rw [before] <;> split <;> decide

/-- R58: in ON the last burning lamp has begun to cool. -/
theorem Work.run_cooled {t : State} {l : Lamp} {n : Nat} (on : t.power.state = .on) (held : t.power.held = false)
    (own : t.lampState l = .cooling) (other : t.lampState l.other ≠ .lit ∧ t.lampState l.other ≠ .striking) :
    Work.run (n + 1) ⟨t, [.changed l .cooling]⟩ =
      (({ t with power.state := .coolingDown, power.degraded := false } : State).post .powerState 3).followBlankTimer := by
  have unlit : t.anyLit = false := by rw [State.anyLit_eq _ l, own]; simpa using other.1
  have unstruck : t.anyStriking = false := by rw [State.anyStriking_eq _ l, own]; simpa using other.2
  have follows : Work.takeBare (.changed l .cooling) ⟨t, []⟩ = ⟨{ t with power.state := .coolingDown, power.degraded := false }, []⟩ := by
    refine (Work.followLamp_unlit (t := t) (l := l) false on unlit).trans ?_
    rw [unstruck]
    rfl
  rw [Work.run_cons, Work.take, follows, Work.edit, Work.run_empty, State.reportPower_changed (n := 3)]
  · simp [Power.number, PowerState.number, held]
  · rcases t.power.number_on on held with before | before <;> rw [before] <;> decide

theorem Demand.not_isEmpty (d : Demand) : (!d.isEmpty) = (d != ⟨false, false, false⟩) := by
  obtain ⟨p, s, f⟩ := d
  cases p <;> cases s <;> cases f <;> rfl

/-! ### A LIT lamp drops out (R6, R21, R36) -/

/-- R6, R21, R36: a LIT lamp has dropped out into condition `c`: its line is low, the dropout is counted, the account saved. -/
def State.fallen (s : State) (l : Lamp) (c : LampCondition) : State :=
  let old := s.account l
  let lamps := s.accounts.lamps.set l { old with dropouts := min 65535 (old.dropouts + 1) }
  { s with
    lines.lit := s.lines.lit.set l false, lamps.lamp := s.lamps.lamp.set l ⟨c, (s.lamps.lamp.get l).sessionDropouts + 1⟩
    accounts.lamps := lamps, accounts.litTicks := 0
    store.accounts := some ⟨lamps, s.accounts.weights, s.accounts.history, s.accounts.replacements⟩ }

namespace State

variable {s : State} {l : Lamp}

theorem fallen_condition (s : State) (l : Lamp) (c : LampCondition) : (s.fallen l c).condition l = c :=
  congrArg LampControl.condition (PerLamp.get_set_same _ _ _)

theorem beside_fallen (s : State) (l : Lamp) (c : LampCondition) : s.Beside (s.fallen l c) l.other :=
  ⟨rfl, PerLamp.get_set_other _ _ _, PerLamp.get_set_other _ _ _, rfl, rfl, PerLamp.get_set_other _ _ _, rfl⟩

/-- The dropout counted, before the lamp leaves LIT. -/
def dropped (s : State) (l : Lamp) : State :=
  (({ s with lines.lit := s.lines.lit.set l false } : State).setSessionDropouts l ((s.lamps.lamp.get l).sessionDropouts + 1)).setAccount l
    (s.account l).chargeDropout

theorem dropped_quit (s : State) (l : Lamp) (c : LampCondition) : (s.dropped l).quit l c = s.fallen l c := by cases l <;> rfl

theorem dropped_lampState (s : State) (l : Lamp) : (s.dropped l).lampState l = s.lampState l :=
  congrArg LampCondition.state (State.setSessionDropouts_condition _ l l _)

end State

namespace Work

variable {s : State} {l : Lamp}

/-- R36: the first and the second dropout of a session. -/
theorem litFall_cooling (lit : s.lampState l = .lit) (few : (s.lamps.lamp.get l).sessionDropouts + 1 ≤ 2) :
    litFall ⟨s, []⟩ l =
      ⟨(s.fallen l (.cooling s.lamps.params.coolDown (s.power.session.get l && !s.power.demand.isEmpty))).post (.lampState l) 3,
        [.changed l .cooling]⟩ := by
  have burning : ((s.dropped l).lampState l).savesOnLeaving = true := by rw [State.dropped_lampState, lit]; rfl
  have drops : litFall ⟨s, []⟩ l =
      changeLamp ⟨s.dropped l, []⟩ l (.cooling s.lamps.params.coolDown (s.power.session.get l && !s.power.demand.isEmpty)) :=
    (if_pos (show _ = LampState.lit from lit)).trans (if_pos (Nat.lt_succ_of_le few))
  rw [drops, changeLamp_quit burning, State.dropped_quit]
  rfl

/-- R36, R38: the third one. -/
theorem litFall_failed (lit : s.lampState l = .lit) (third : (s.lamps.lamp.get l).sessionDropouts + 1 = 3) :
    litFall ⟨s, []⟩ l =
      ⟨((s.fallen l (.failed s.lamps.params.coolDown)).post (.lampFailed l) 2).post (.lampState l) 4, [.changed l .failed]⟩ := by
  have burning : ((s.dropped l).lampState l).savesOnLeaving = true := by rw [State.dropped_lampState, lit]; rfl
  have drops : litFall ⟨s, []⟩ l = fail ⟨s.dropped l, []⟩ l 2 :=
    (if_pos (show _ = LampState.lit from lit)).trans (if_neg (Nat.not_lt.mpr third.ge))
  rw [drops, fail_eq burning, State.dropped_quit]
  rfl

end Work

end Sys2Proof.Machine

open Sys2Proof Sys2Proof.Machine in
/-- Settles O19: the LCU's part of a rise or a fall is evaluated; a lamp that lights or cools is one hand-off that moves the power state,
the third dropout one that loses the lamp, with the ends of a lost lamp in ON. -/
theorem litLinesRiseAndFall : Obligations.LitLinesRiseAndFall := by
  intro s l powered put
  refine ⟨?_, fun high => ⟨fun unlit => ?_, ?_⟩⟩
  · intro low risen
    have rises {w : Work} (did : Work.litRise ⟨s, []⟩ l = w) : exec (.litRise l) s = .next (Work.run settleFuel w) := by
      have senses : s.senseLit l true = s.settle (fun w => w.litRise l) := by
        rw [State.senseLit, if_neg (by rw [low]; decide), if_pos powered]
        rfl
      exact congrArg Host.Outcome.next (senses.trans (congrArg (Work.run settleFuel) did))
    refine ⟨fun dull => ?_, ?_⟩
    · have did : Work.litRise ⟨s, []⟩ l = ⟨risen.post (.senseFault l) (s.lampState l).number, []⟩ := by
        have same : risen.lampState l = s.lampState l := rfl
        unfold Work.litRise
        simp only [Work.edit]
        rcases dull with state | state | state <;> rw [show State.lampState _ l = _ from same.trans state, state]
      rw [rises did, Work.run_empty]
    · intro striking warming held other degraded
      let t : State := (risen.quit l .lit).post (.lampState l) 2
      have burning : (risen.lampState l).savesOnLeaving = true := by
        rw [show risen.lampState l = .striking from striking]; rfl
      have did : Work.litRise ⟨s, []⟩ l = ⟨t, [.changed l .lit]⟩ := by
        unfold Work.litRise
        simp only [Work.edit]
        have same : risen.lampState l = s.lampState l := rfl
        rw [show State.lampState _ l = _ from same.trans striking]
        exact Work.changeLamp_quit (w := ⟨risen, []⟩) burning .lit
      have otherState : t.lampState l.other = s.lampState l.other := congrArg LampCondition.state (risen.setCondition_other l .lit)
      have lights := Work.run_lit (t := t) (l := l) (n := 63) warming held (congrArg LampCondition.state (risen.placed_own l .lit))
        (by rw [otherState]; exact other)
      rw [otherState] at lights
      rw [rises did]
      exact congrArg Host.Outcome.next lights
  · have drops : Work.litFall ⟨s, []⟩ l = ⟨{ s with lines.lit := s.lines.lit.set l false }, []⟩ := if_neg unlit
    have senses : s.senseLit l false = s.settle (fun w => w.litFall l) := by
      rw [State.senseLit, if_neg (by rw [high]; decide), if_pos powered]
      rfl
    refine congrArg Host.Outcome.next (senses.trans ?_)
    rw [State.settle, drops, Work.run_empty]
  · intro lit on held old lamps count other fallen
    have falls {w : Work} (did : Work.litFall ⟨s, []⟩ l = w) : exec (.litFall l) s = .next (Work.run settleFuel w) := by
      have senses : s.senseLit l false = s.settle (fun w => w.litFall l) := by
        rw [State.senseLit, if_neg (by rw [high]; decide), if_pos powered]
        rfl
      exact congrArg Host.Outcome.next (senses.trans (congrArg (Work.run settleFuel) did))
    refine ⟨?_, ?_⟩
    · intro few otherLit otherStriking wanted
      let t : State := (s.fallen l (.cooling s.lamps.params.coolDown wanted)).post (.lampState l) 3
      have same : (s.power.session.get l && !s.power.demand.isEmpty) = wanted :=
        congrArg (s.power.session.get l && ·) s.power.demand.not_isEmpty
      have did := Work.litFall_cooling lit few
      rw [same] at did
      have ownState : t.lampState l = .cooling := congrArg LampCondition.state (s.fallen_condition l _)
      have otherState : t.lampState l.other = s.lampState l.other := (s.beside_fallen l _).lampState
      rw [falls did]
      exact congrArg Host.Outcome.next (Work.run_cooled (t := t) (n := 63) on held ownState (by rw [otherState]; exact ⟨otherLit, otherStriking⟩))
    · intro third session demand failed without
      have did := falls (Work.litFall_failed lit third)
      have beside : s.Beside failed l.other := by
        obtain ⟨power, control, account, life, weights, low, hold⟩ := s.beside_fallen l (.failed s.lamps.params.coolDown)
        exact ⟨power, control, account, life, weights, low, hold⟩
      have own : failed.lampState l = .failed := congrArg LampCondition.state (s.fallen_condition l _)
      have loses : failed.Loses l (.changed l .failed) := ⟨fun _ => rfl, session, demand, held, by rw [own]; decide⟩
      refine ⟨fun otherLit dual joined degraded => ?_, fun alone => ⟨?_, fun none otherLit otherStriking => ?_⟩⟩
      · have ended := loses.run_burning (n := 63) (.inr on) degraded dual joined (beside.lampState.trans otherLit)
        rw [← show failed.power.state = .on from on] at ended
        rw [did]
        exact congrArg Host.Outcome.next ended
      · intro policy single latched life hold pulsed
        refine ⟨fun dark low plain => ?_, fun timer b cooling => ?_⟩
        · have joins := beside.joins alone single latched
            (State.available_of (.inl ((s.lampState_dark_iff _).mpr dark)) life hold) fun _ => ⟨low, plain⟩
          have darkOther := beside.condition.trans dark
          have ended := loses.run_struck_on (n := 63) joins on darkOther
          rw [State.joined_struck darkOther, beside.pulsed] at ended
          have control : other = failed.lamps.lamp.get l.other := beside.control.symm
          rw [did, control]
          exact congrArg Host.Outcome.next ended
        · have joins := beside.joins alone single latched
            (State.available_of (.inr (by rw [State.lampState, cooling]; rfl)) life hold) fun dark => by rw [cooling] at dark; cases dark
          have coolingOther := beside.condition.trans cooling
          have ended := loses.run_pending_on (n := 63) joins on (by rw [coolingOther]; exact nofun)
          rw [State.joined_cooling coolingOther] at ended
          have control : other = failed.lamps.lamp.get l.other := beside.control.symm
          rw [did, control]
          exact congrArg Host.Outcome.next ended
      · have joinsNot := beside.joinsNot alone none
        rw [did]
        exact congrArg Host.Outcome.next (loses.run_unserved_on (n := 63) joinsNot on
          (by rw [beside.lampState]; exact ⟨otherLit, otherStriking⟩))
end

section
/-! PROOFS. Thermal Clear and Clear Lamp Fault (O21). -/

namespace Sys2Proof.Machine

/-! ### The held session taken up again (R61) -/

/-- R61: the lamps of a held session ordered, POWER-STATE 3 told, before the begun strikes are taken. -/
def State.takenUp (s : State) (first : Lamp) : State :=
  { (inTurn first s.power.session State.ordered s).post .powerState 3 with
    power := { s.power with held := false, blankTimer := none, blankSpent := false } }

theorem State.takingUp_eq {s : State} (first : Lamp) (held : s.power.held = true) :
    s.takingUp s.power.session first =
      if s.strikesNow s.power.session then ({ s.takenUp first with power.state := .warming } : State).post .powerState 1
      else s.takenUp first := by
  unfold State.takingUp
  simp only [held, if_true]
  rw [inTurn_power State.ordered_power]
  rfl

theorem State.inTurn_ordered_struck {s : State} {first l : Lamp} (session : s.power.session.get l = true) (dark : s.condition l = .dark) :
    (s.takenUp first).lampState l = .striking := State.inTurn_striking (s := s) session dark

/-- R58, R61: a held demand whose session lamps are available again is taken up in COOLING-DOWN. -/
theorem Work.run_takingUp {s : State} {x : Handoff} {n : Nat} (checks : Work.takeBare x ⟨s, []⟩ = Work.recheck ⟨s, []⟩)
    (held : s.power.held = true) (cooling : s.power.state = .coolingDown) (degraded : s.power.degraded = false)
    (demand : s.power.demand ≠ ⟨false, false, false⟩) (session : s.power.session ≠ ⟨false, false⟩)
    (hold : s.lamps.thermalHold = false) (available : ∀ l, s.power.session.get l = true → s.available l = true)
    (plain : s.StrikesPlainly s.power.session) :
    ∃ first : Lamp, Work.run (n + 2) ⟨s, [x]⟩ = s.takingUp s.power.session first := by
  have serves : s.sessionEmpty = false := by
    unfold State.sessionEmpty
    generalize s.power.session = sel at session
    obtain ⟨a, b⟩ := sel
    cases a <;> cases b <;> simp_all
  let q : Power := { s.power with held := false }
  have present := Demand.isEmpty_eq_false demand
  have orders : Work.recheck ⟨s, []⟩ = Work.strikeSession ⟨{ s with power := q }, []⟩ := by
    simp only [Work.recheck, cooling, held, present, hold, serves, Bool.not_false, if_true, Bool.false_eq_true, if_false, Work.edit]
    rw [← cooling]
  obtain ⟨first, struck⟩ := Work.strikeSession_eq (s := { s with power := q }) (out := []) available plain
  refine ⟨first, ?_⟩
  have number : q.number = 3 := by simp [Power.number, PowerState.number, q, cooling, degraded]
  have before : s.power.number = 19 := by simp [Power.number, PowerState.number, held, cooling, degraded]
  have taken : Work.take x ⟨s, []⟩ = ⟨s.takenUp first, outcomes first s.power.session s.strikeNews⟩ := by
    rw [Work.take, checks, orders, struck, inTurn_power State.ordered_power, Work.edit]
    rw [State.reported_off (n := 3) number (by rw [before]; decide) (by show s.power.state ≠ .on; rw [cooling]; decide)]
    rfl
  have legal : (s.takenUp first).BlankLegal :=
    (State.blankLegal_iff_off (by show s.power.state ≠ .on; rw [cooling]; decide)).mpr ⟨rfl, rfl⟩
  rw [Work.run_cons, taken, State.takingUp_eq first held]
  cases strikes : s.strikesNow s.power.session with
  | false =>
    have none : outcomes first s.power.session s.strikeNews = [] := by
      refine List.eq_nil_iff_forall_not_mem.mpr (fun y hy => ?_)
      obtain ⟨l, hl, hy⟩ := mem_outcomes.mp hy
      have := State.strikesNow_iff.mpr ⟨l, hl, (mem_strikeNews.mp hy).1⟩
      rw [strikes] at this
      cases this
    rw [none, Work.run_empty]
    rfl
  | true =>
    have all : ∀ y ∈ outcomes first s.power.session s.strikeNews, ∃ l, y = .changed l .striking ∧
        s.power.session.get l = true ∧ (s.takenUp first).lampState l = .striking := by
      intro y hy
      obtain ⟨l, hl, hy⟩ := mem_outcomes.mp hy
      obtain ⟨dark, rfl⟩ := mem_strikeNews.mp hy
      exact ⟨l, rfl, hl, State.inTurn_ordered_struck hl dark⟩
    obtain ⟨l, hl, dark⟩ := State.strikesNow_iff.mp strikes
    obtain ⟨y, others, list⟩ := List.exists_cons_of_ne_nil
      (List.ne_nil_of_mem (mem_outcomes.mpr ⟨l, hl, mem_strikeNews.mpr ⟨dark, rfl⟩⟩))
    rw [list] at all ⊢
    obtain ⟨m, rfl, ordered, -⟩ := all y (by simp)
    have warmed : ({ s.takenUp first with power.state := .warming, power.degraded := false } : State) =
        { s.takenUp first with power.state := .warming } := by
      rw [← show (s.takenUp first).power.degraded = false from degraded]
    rw [Work.run_cons, Work.take_striking_cooling (by exact cooling) (by exact ordered) rfl legal, warmed, if_pos rfl]
    refine Work.run_warming others rfl rfl ((State.blankLegal_iff_off (by simp)).mpr ⟨rfl, rfl⟩) (fun y hy => ?_) n
    obtain ⟨k, rfl, -, striking⟩ := all y (by simp [hy])
    exact .inr ⟨k, rfl, striking⟩

/-! ### A lamp that has come out of FAILED, or to DARK (R58 to R61) -/

/-- R57, R61: where a demand is held, a change of a lamp that leaves some lamp not at rest is a re-check. -/
theorem Work.followLamp_held {s : State} {l : Lamp} (rest : List Handoff) (held : s.power.held = true)
    (state : s.power.state = .standby ∨ s.power.state = .coolingDown) (busy : s.power.state = .coolingDown → s.quiet = false) :
    Work.followLamp ⟨s, rest⟩ l false = Work.recheck ⟨s, rest⟩ := by
  unfold Work.followLamp
  rcases state with standby | cooling
  · simp [standby]
  · simp [cooling, busy cooling, held]

/-- R58 to R60: a change of a lamp that is not LIT where it moves nothing. -/
theorem Work.followLamp_unmoved {s : State} {l : Lamp} (rest : List Handoff) (own : s.lampState l ≠ .lit)
    (moves : s.Unmoved l ∨ (s.power.state = .coolingDown ∧ s.power.held = false ∧ (s.condition l).resting = false)) :
    Work.followLamp ⟨s, rest⟩ l false = ⟨s, rest⟩ := by
  unfold Work.followLamp
  cases state : s.power.state with
  | standby =>
    obtain ⟨held, demand⟩ := (moves.resolve_right fun down => by rw [state] at down; exact absurd down.1 (by decide)).1 state
    have idle := Work.recheckIdle_unheld rest held (fun _ => demand)
    rwa [Work.recheckIdle, if_pos (.inl state)] at idle
  | warming =>
    have striking := (moves.resolve_right fun down => by rw [state] at down; exact absurd down.1 (by decide)).2.1 state
    simp [State.anyStriking_of striking]
  | on =>
    obtain ⟨lit, degraded⟩ := (moves.resolve_right fun down => by rw [state] at down; exact absurd down.1 (by decide)).2.2.1 state
    have any : s.anyLit = true := by rw [State.anyLit_eq _ l, lit]; simp
    have one : s.degradedNow = s.power.degraded := by rw [State.degradedNow_eq _ l, lit, degraded]; simp [own]
    simp only [any, if_true, Work.edit, State.setPowerState_on, one]
    rw [← state]
  | coolingDown =>
    have still : s.power.held = false ∧ s.quiet = false := by
      rcases moves with ⟨-, -, -, cooling⟩ | ⟨-, held, busy⟩
      · exact ⟨(cooling state).1, State.quiet_of_other (cooling state).2⟩
      · exact ⟨held, by rw [State.quiet_eq _ l, busy]; rfl⟩
    simp [still]

/-- R38, R39: the condition in which a FAILED lamp is cleared. -/
def clearedTo (fan : Nat) : LampCondition := if fan = 0 then .dark else .cooling fan false

theorem clearedTo_resting (fan : Nat) : (clearedTo fan).resting = decide (fan = 0) := by
  unfold clearedTo
  split <;> simp_all [LampCondition.resting]

theorem clearedTo_state (fan : Nat) : (clearedTo fan).state.number = (if fan = 0 then 0 else 3) ∧ (clearedTo fan).state ≠ .lit ∧
    ∀ l w, Work.takeBare (.changed l (clearedTo fan).state) w = Work.followLamp w l false := by
  unfold clearedTo
  split <;> exact ⟨rfl, nofun, fun _ _ => rfl⟩

/-- R37, R39: lamp `l` out of FAILED, its session dropouts at 0. -/
def State.repaired (s : State) (l : Lamp) (fan : Nat) : State :=
  ({ s with lamps.lamp := s.lamps.lamp.set l ⟨clearedTo fan, 0⟩ } : State).post (.lampState l) (if fan = 0 then 0 else 3)

theorem Work.changeLamp_repaired {s : State} {l : Lamp} {fan : Nat} (failed : s.condition l = .failed fan) :
    Work.changeLamp ⟨s.setSessionDropouts l 0, []⟩ l (clearedTo fan) =
      ⟨s.repaired l fan, [.changed l (clearedTo fan).state]⟩ := by
  have unsaved : ((s.setSessionDropouts l 0).lampState l).savesOnLeaving = false := by
    rw [State.lampState, State.setSessionDropouts_condition, failed]; rfl
  rw [Work.changeLamp_plain unsaved, (clearedTo_state fan).1]
  cases l <;> rfl

theorem State.repaired_condition (s : State) (l : Lamp) (fan : Nat) : (s.repaired l fan).condition l = clearedTo fan :=
  congrArg LampControl.condition (PerLamp.get_set_same _ _ _)

theorem State.repaired_other (s : State) (l : Lamp) (fan : Nat) : (s.repaired l fan).condition l.other = s.condition l.other :=
  congrArg LampControl.condition (PerLamp.get_set_other _ _ _)

end Sys2Proof.Machine

open Sys2Proof Sys2Proof.Machine in
/-- Settles O21: the end of the hold and the change out of FAILED are one hand-off each, which changes nothing where no demand waits or
the hold keeps it, and re-checks a demand that waits or is held. -/
theorem thermalClearAndClearLampFault : Obligations.ThermalClearAndClearLampFault := by
  refine ⟨fun s ready blank => ?_, fun s l x ready hx => ?_⟩
  · intro reply cleared
    have run {w : Work} (did : Work.thermalClear ⟨s, []⟩ = w) :
        exec (.thermalClear .engine []) s = .next (reply (Work.run settleFuel w)) := by
      refine (ready.exec_request .thermalClear (d := []) ⟨0x83, .thermalClear, [.engine], 0⟩ rfl rfl rfl rfl (by simp) nofun).trans ?_
      rw [← did]
      rfl
    refine ⟨fun clear => ?_, fun hold => ?_⟩
    · rw [run (if_neg (by rw [clear]; decide)), Work.run_empty]
    have did : Work.thermalClear ⟨s, []⟩ = ⟨cleared, [.holdCleared]⟩ := if_pos hold
    have legal : cleared.BlankLegal := blank.frame rfl rfl
    have checks (held : s.power.held = true) : Work.takeBare .holdCleared ⟨cleared, []⟩ = Work.recheck ⟨cleared, []⟩ := if_pos (.inr held)
    refine ⟨fun held demand => ?_, fun waits => ⟨_, run did, ?_⟩, fun held cooling degraded demand session available plain => ?_⟩
    · rw [run did, settleFuel, Work.run_cons, Work.take_self (x := .holdCleared) (w := ⟨cleared, []⟩) (Work.recheckIdle_unheld (s := cleared) [] held demand) legal,
        Work.run_empty]
    · have after : cleared.Waits := waits.frame rfl rfl
      exact after.rechecks (rest := []) (n := 63) (checks waits.1) nofun (by decide)
    · obtain ⟨first, taken⟩ := Work.run_takingUp (n := 62) (checks held) held cooling degraded demand session rfl available plain
      exact ⟨first, (run did).trans (congrArg (fun t => Host.Outcome.next (reply t)) taken)⟩
  · subst hx
    have request (y : Byte) := ready.exec_request .clearLampFault (d := [y]) ⟨0x66, .clearLampFault, [.facility], 1⟩ rfl rfl rfl rfl (by simp)
      nofun
    refine ⟨fun fan failed blank => ?_, fun notFailed => ?_, fun y hy => ?_⟩
    · intro number cleared reply cools
      have same : s.repaired l fan = cleared := rfl
      have run : exec (.clearLampFault .facility [lampByte l]) s =
          .next (reply (Work.run 64 ⟨cleared, [.changed l (clearedTo fan).state]⟩)) := by
        refine (request _).trans ?_
        have may : (s.condition l).cleared = some (clearedTo fan) := by rw [failed]; rfl
        simp only [owner, clearLampFault, readLamp_lampByte, may, Work.changeLamp_repaired failed, (clearedTo_state fan).1]
        rfl
      obtain ⟨-, unlit, bare⟩ := clearedTo_state fan
      have legal : cleared.BlankLegal := blank.frame rfl rfl
      have own : cleared.condition l = clearedTo fan := s.repaired_condition l fan
      have other : cleared.condition l.other = s.condition l.other := s.repaired_other l fan
      have otherState : cleared.lampState l.other = s.lampState l.other := congrArg LampCondition.state other
      have stays (still : Work.followLamp ⟨cleared, []⟩ l false = ⟨cleared, []⟩) :
          exec (.clearLampFault .facility [lampByte l]) s = .next (reply cleared) := by
        rw [run, Work.run_cons, Work.take_self ((bare l _).trans still) legal, Work.run_empty]
      have busy (cool : cools) (cooling : s.power.state = .coolingDown) : cleared.quiet = false := by
        rw [State.quiet_eq _ l, own, other, clearedTo_resting]
        rcases cool cooling with fanRuns | rests
        · simp [Nat.pos_iff_ne_zero.mp fanRuns]
        · rw [rests, Bool.and_false]
      refine ⟨fun moves => stays (Work.followLamp_unmoved [] (by rw [State.lampState, own]; exact unlit) ?_),
        fun waits cool => ⟨_, run, ?_⟩, fun held demand hold cool state => stays ?_⟩
      · rcases moves with ⟨standby, warming, on, cooling⟩ | ⟨down, held, fanRuns⟩
        · refine .inl ⟨standby, ?_, ?_, ?_⟩
          · rw [otherState]; exact warming
          · rw [otherState]; exact on
          · rw [other]; exact cooling
        · exact .inr ⟨down, held, by rw [own, clearedTo_resting]; simp [Nat.pos_iff_ne_zero.mp fanRuns]⟩
      · have after : cleared.Waits := waits.frame rfl rfl
        obtain ⟨held, -, -, -, state, -⟩ := waits
        exact after.rechecks (rest := []) (n := 63) ((bare l _).trans (Work.followLamp_held (s := cleared) [] held state (busy cool)))
          nofun (by decide)
      · exact (Work.followLamp_held (s := cleared) [] held state (busy cool)).trans
          (Work.recheck_unusable (s := cleared) held demand (.inl hold))
    · have may : (s.condition l).cleared = none := by
        cases h : s.condition l with
        | failed fan => exact absurd h (notFailed fan)
        | _ => rfl
      refine (request _).trans ?_
      simp only [owner, clearLampFault, readLamp_lampByte, may]
      rfl
    · refine (request _).trans ?_
      simp only [owner, clearLampFault, readLamp_none hy]
      rfl
end

section
/-! PROOFS. Entry into STANDBY (O27). -/

namespace Sys2Proof.Machine

/-! ### What the entry leaves (R37, R60, R64, R115) -/

/-- R60, R64: the power registers in STANDBY. -/
def Power.rested (q : Power) : Power := { q with
  state := .standby, session := ⟨false, false⟩, latched := none, degraded := false, blank := false, blankTimer := none, blankSpent := false }

/-- R60, R64, R115: `t` in STANDBY with the lamps as given, the trims clear and POWER-STATE not told yet, with power registers `q`. -/
def State.resting (t : State) (lamps : PerLamp LampControl) (q : Power) : State :=
  let y : State := { t with lamps.lamp := lamps, power := q }
  let z : State := if t.power.blank then y.post .blank 0 else y
  ({ z with tilt.trims := noTrims } : State).recomputeGeometry

/-- R56, R60: and with POWER-STATE told. -/
def State.rested (t : State) (lamps : PerLamp LampControl) : State :=
  (t.resting lamps t.power.rested).post .powerState (if t.power.held then 16 else 0)

theorem State.recomputeGeometry_setPower (s : State) (q : Power) :
    { s.recomputeGeometry with power := q } = ({ s with power := q } : State).recomputeGeometry :=
  apply_ite (fun t : State => { t with power := q }) _ _ _

theorem State.resting_power (t : State) (lamps : PerLamp LampControl) (q : Power) : (t.resting lamps q).power = q := by
  unfold State.resting
  simp only [State.recomputeGeometry_power]
  split <;> rfl

theorem State.resting_setPower (t : State) (lamps : PerLamp LampControl) (q r : Power) :
    { t.resting lamps q with power := r } = t.resting lamps r := by
  unfold State.resting
  simp only
  rw [State.recomputeGeometry_setPower]
  split <;> rfl

theorem State.setBlank_false (s : State) : s.setBlank false =
    if s.power.blank then ({ s with power.blank := false } : State).post .blank 0 else { s with power.blank := false } := by
  unfold State.setBlank
  cases lit : s.power.blank with
  | false => rw [if_pos rfl, if_neg nofun, ← lit]
  | true => rfl

/-- R37: both lamps with their session dropouts at 0. -/
def State.zeroedLamps (t : State) : PerLamp LampControl := t.lamps.lamp.map fun x => { x with sessionDropouts := 0 }

/-- R37, R60, R64, R115: the entry into STANDBY, its notices but POWER-STATE posted. -/
theorem Work.enterStandby_eq {t : State} {rest : List Handoff} (held : t.power.held = !t.power.demand.isEmpty) :
    Work.enterStandby ⟨t, rest⟩ =
      ⟨t.resting t.zeroedLamps { t.power with state := .standby, session := ⟨false, false⟩, latched := none, degraded := false, blank := false },
        if t.power.demand.isEmpty then rest else rest ++ [.recheck]⟩ := by
  let q : Power := { t.power with state := .standby, session := ⟨false, false⟩, latched := none, degraded := false }
  have entered : ((({ t with power := q } : State).setBlank false).zeroSessionDropouts).clearTrims =
      t.resting t.zeroedLamps { q with blank := false } := by
    rw [State.setBlank_false]
    unfold State.resting
    show ((if t.power.blank then _ else _ : State).zeroSessionDropouts).clearTrims = _
    cases t.power.blank <;> rfl
  have shape (u : State) (hu : ((({ t with power := q } : State).setBlank false).zeroSessionDropouts).clearTrims = u) :
      Work.enterStandby ⟨t, rest⟩ = if u.power.demand.isEmpty then ⟨u, rest⟩ else (Work.setHeld ⟨u, rest⟩).hand .recheck := by
    subst hu; rfl
  rw [shape _ entered, Work.setHeld, State.resting_power]
  cases empty : t.power.demand.isEmpty with
  | true => exact if_pos rfl
  | false =>
    rw [empty] at held
    exact (if_neg nofun).trans (congrArg (Work.hand · .recheck) (if_pos held))

/-- R56, R65: POWER-STATE told. -/
theorem Work.enterStandby_told {t : State} {rest : List Handoff} (cooling : t.power.state = .coolingDown)
    (held : t.power.held = !t.power.demand.isEmpty) :
    ((Work.enterStandby ⟨t, rest⟩).edit fun u => (u.reportPower t.power.number).followBlankTimer) =
      ⟨t.rested t.zeroedLamps, if t.power.demand.isEmpty then rest else rest ++ [.recheck]⟩ := by
  rw [Work.enterStandby_eq held, Work.edit,
    State.reported_off (n := if t.power.held then 16 else 0), State.resting_power]
  · refine congrArg (Work.mk · _) ?_
    show State.post { t.resting t.zeroedLamps _ with power := t.power.rested } .powerState _ = _
    rw [State.resting_setPower]
    rfl
  · rw [State.resting_power]
    simp [Power.number, PowerState.number]
  · simp only [Power.number, cooling, PowerState.number]
    split <;> split <;> omega
  · rw [State.resting_power]; exact nofun

/-- R60: a change that brings the lamps to rest in COOLING-DOWN. -/
theorem Work.followLamp_rests {t : State} {l : Lamp} (rest : List Handoff) (cooling : t.power.state = .coolingDown) (quiet : t.quiet = true) :
    Work.followLamp ⟨t, rest⟩ l false = Work.enterStandby ⟨t, rest⟩ := by
  simp only [Work.followLamp, cooling, Bool.false_and, Bool.false_eq_true, if_false, quiet, if_true]

/-- R57, R60, R61: the lamps come to rest in COOLING-DOWN: STANDBY is entered, and a held demand is checked again there. -/
theorem Work.run_enterStandby {t : State} {x : Handoff} (cooling : t.power.state = .coolingDown)
    (bare : Work.takeBare x ⟨t, []⟩ = Work.enterStandby ⟨t, []⟩) :
    (t.power.demand = ⟨false, false, false⟩ → t.power.held = false → Work.run 64 ⟨t, [x]⟩ = t.rested t.zeroedLamps) ∧
    (t.power.demand ≠ ⟨false, false, false⟩ → t.power.held = true →
      (t.rested t.zeroedLamps).Rechecks (Work.run 64 ⟨t, [x]⟩)) := by
  have taken (held : t.power.held = !t.power.demand.isEmpty) :
      Work.take x ⟨t, []⟩ = ⟨t.rested t.zeroedLamps, if t.power.demand.isEmpty then [] else [.recheck]⟩ := by
    rw [Work.take, bare]
    exact Work.enterStandby_told cooling held
  refine ⟨fun demand held => ?_, fun demand held => ?_⟩
  · have empty : t.power.demand.isEmpty = true := (Demand.isEmpty_iff _).mpr demand
    rw [Work.run_cons, taken (by rw [held, empty]; rfl), if_pos empty, Work.run_empty]
  · have present := Demand.isEmpty_eq_false demand
    have power : (t.rested t.zeroedLamps).power = t.power.rested := State.resting_power _ _ _
    have waits : (t.rested t.zeroedLamps).Waits := by
      refine ⟨?_, ?_, ?_, ?_, ?_, (State.blankLegal_iff_off ?_).mpr ?_⟩ <;> rw [power]
      exacts [held, demand, rfl, rfl, .inl rfl, nofun, ⟨rfl, rfl⟩]
    have checks : Work.takeBare .recheck ⟨t.rested t.zeroedLamps, []⟩ = Work.recheck ⟨t.rested t.zeroedLamps, []⟩ :=
      if_pos (.inr waits.1)
    rw [Work.run_cons, taken (by rw [held, present]; rfl), if_neg (by rw [present]; decide)]
    exact waits.rechecks (n := 62) checks nofun (by simp)

end Sys2Proof.Machine

open Sys2Proof Sys2Proof.Machine in
/-- Settles O27: the lamp's change is one hand-off: beside a lamp that is not at rest it re-checks, and else it enters STANDBY. -/
theorem entryIntoStandby : Obligations.EntryIntoStandby := by
  have cools (s : State) (l : Lamp) (t : Nat) (powered : s.powered = true) (cooling : s.condition l = .cooling t false) :
      exec (.coolDownExpiry l) s = .next (Work.run 64
        ⟨({ s with lamps.lamp := s.placed l .dark } : State).post (.lampState l) 0, [.changed l .dark]⟩) := by
    have unsaved : (s.lampState l).savesOnLeaving = false := by rw [State.lampState, cooling]; rfl
    have done : Work.coolDownExpiry ⟨s, []⟩ l = Work.changeLamp ⟨s, []⟩ l .dark := by
      simp only [Work.coolDownExpiry, cooling, Bool.false_eq_true, if_false]
    refine (carry_powered _ powered).trans ?_
    rw [State.settle, done, Work.changeLamp_plain unsaved]
    rfl
  have ends (s : State) (l : Lamp) (fan : Nat) (powered : s.powered = true) (runs : 0 < fan) (failed : s.condition l = .failed fan) :
      exec (.fanTimeEnd l) s = .next (Work.run 64 ⟨{ s with lamps.lamp := s.placed l (.failed 0) }, [.fanOver l]⟩) := by
    have done : Work.fanTimeEnd ⟨s, []⟩ l = ⟨{ s with lamps.lamp := s.placed l (.failed 0) }, [.fanOver l]⟩ := by
      simp only [Work.fanTimeEnd, failed, Nat.pos_iff_ne_zero.mp runs, if_false, Work.edit, Work.hand]
      rfl
    refine (carry_powered _ powered).trans ?_
    rw [State.settle, done]
    rfl
  refine ⟨fun s l powered waits cooling busy => ⟨fun t cool => ⟨_, cools s l t powered cool, ?_⟩,
    fun fan runs failed => ⟨_, ends s l fan powered runs failed, ?_⟩⟩, ?_⟩
  · have other : ({ s with lamps.lamp := s.placed l .dark } : State).condition l.other = s.condition l.other := s.setCondition_other l .dark
    have after : (({ s with lamps.lamp := s.placed l .dark } : State).post (.lampState l) 0).Waits := waits.frame rfl rfl
    obtain ⟨held, -⟩ := waits
    exact after.rechecks (rest := []) (n := 63)
      (Work.takeBare_dark_held l [] held (.inr cooling) fun _ => (congrArg LampCondition.resting other).trans busy) nofun (by decide)
  · have other : ({ s with lamps.lamp := s.placed l (.failed 0) } : State).condition l.other = s.condition l.other :=
      s.setCondition_other l (.failed 0)
    have unquiet := State.quiet_of_other ((congrArg LampCondition.resting other).trans busy)
    have after : ({ s with lamps.lamp := s.placed l (.failed 0) } : State).Waits := waits.frame rfl rfl
    obtain ⟨held, -⟩ := waits
    have checks : Work.takeBare (.fanOver l) ⟨{ s with lamps.lamp := s.placed l (.failed 0) }, []⟩ =
        Work.recheck ⟨{ s with lamps.lamp := s.placed l (.failed 0) }, []⟩ :=
      (if_neg (by rintro ⟨-, quiet⟩; rw [unquiet] at quiet; cases quiet)).trans (if_pos (.inr held))
    exact after.rechecks (n := 63) checks nofun (by decide)
  · intro s l powered cooling other rest enters
    have otherRests : (s.condition l.other).resting = true := by rcases other with h | h <;> rw [h] <;> rfl
    have quiet (c : LampCondition) (cRests : c.resting = true) : (s.setCondition l c).quiet = true := by
      rw [State.quiet_eq _ l, State.setCondition_condition, State.setCondition_other, cRests, otherRests]
      rfl
    have zeroed (c : LampCondition) : (s.setCondition l c).zeroedLamps =
        (s.lamps.lamp.set l ⟨c, 0⟩).set l.other ⟨s.condition l.other, 0⟩ := by
      cases l <;> rfl
    have enters_of {c : Instr} {t entered : State} {x : Handoff} (run : exec c s = .next (Work.run 64 ⟨t, [x]⟩))
        (bare : Work.takeBare x ⟨t, []⟩ = Work.enterStandby ⟨t, []⟩) (power : t.power = s.power)
        (same : t.rested t.zeroedLamps = entered) : enters c entered := by
      obtain ⟨unheld, held⟩ := Work.run_enterStandby (t := t) (x := x) (by rw [power]; exact cooling) bare
      rw [same, power] at unheld held
      exact ⟨fun demand no => by rw [run, unheld demand no], fun demand yes => ⟨_, run, held demand yes⟩⟩
    refine ⟨fun t cool => ?_, fun fan runs failed => ?_⟩
    · refine enters_of (cools s l t powered cool) ?_ rfl ?_
      · exact Work.followLamp_rests (l := l) [] cooling (quiet .dark rfl)
      · exact (congrArg (State.rested _) (zeroed .dark)).trans rfl
    · refine enters_of (ends s l fan powered runs failed) (if_pos ⟨cooling, quiet (.failed 0) rfl⟩) rfl ?_
      exact (congrArg (State.rested _) (zeroed (.failed 0))).trans rfl
end

section
/-! PROOFS. A re-evaluation that begins in IDLE without the SCHEDULE claim (R153). -/

namespace Sys2Proof.Machine

/-- R52, log 33: a claim that leaves the demand set as empty or as non-empty as it was changes that claim alone. -/
theorem State.handPower_beside {s : State} {x : Handoff} {d : Demand} (bare : Work.takeBare x ⟨s, []⟩ = Work.changeDemand ⟨s, []⟩ d)
    (same : d.isEmpty = s.power.demand.isEmpty) (blank : s.BlankLegal) : s.handPower x = { s with power.demand := d } := by
  have legal : ({ s with power.demand := d } : State).BlankLegal := (State.blankLegal_iff _).mpr (s.blankLegal_iff.mp blank)
  have untold : ({ s with power.demand := d } : State).reportPower s.power.number = { s with power.demand := d } := if_pos rfl
  show Work.run 63 (Work.take x ⟨s, []⟩) = _
  rw [Work.take, bare, Work.changeDemand_same (w := ⟨s, []⟩) same, Work.edit, Work.edit, untold, legal, Work.run_empty]

theorem Demand.set_same {d : Demand} {c : Claim} {v : Bool} (h : d.get c = v) : d.set c v = d := by
  subst h
  cases c <;> rfl

theorem Demand.isEmpty_set_true {d : Demand} (c : Claim) (h : d ≠ ⟨false, false, false⟩) : (d.set c true).isEmpty = d.isEmpty :=
  (Demand.set_ne_empty d c).trans (Demand.isEmpty_eq_false h).symm

/-- R153: a re-evaluation in IDLE that finds no booking around the minute goes on from the cursor. -/
theorem State.reevaluate_outside {s : State} (state : s.timetable.state = .idle) (active : s.timetable.active = none) {i : Nat}
    (outside : ∀ b ∈ s.clearedTable, ¬ b.contains s.clock.minute = true) (hi : i ≤ s.clearedTable.length)
    (before : ∀ b ∈ s.clearedTable.take i, b.config.start ≤ s.clock.minute)
    (after : ∀ b ∈ s.clearedTable.drop i, s.clock.minute < b.config.start) :
    s.reevaluate Before.nothing =
      (({ s with timetable := { s.timetable with table := s.clearedTable, active := none, cursor := i } } : State).decideState
        none).expireEmptyGrace := by
  have none : s.clearedTable.findIdx? (fun b => b.contains s.clock.minute) = .none := by
    simpa [List.findIdx?_eq_none_iff] using outside
  have base : ({ s with timetable := { s.timetable with table := s.clearedTable, active := .none, cursor := i } } : State) =
      { s with timetable := { s.timetable with table := s.clearedTable, cursor := cursorAt s.clearedTable s.clock.minute } } := by
    rw [cursorAt_eq hi before after, ← active]
  rw [State.reevaluate_eq state, none, base]
  rfl

/-- R153, steps 4 and 5, where another claim is in force. -/
theorem State.reevaluate_closes_beside {s : State} (state : s.timetable.state = .idle) (absent : s.power.demand.schedule = false)
    (present : s.power.demand ≠ ⟨false, false, false⟩) (blank : s.BlankLegal) (active : s.timetable.active = none) {i : Nat}
    (outside : ∀ b ∈ s.clearedTable, ¬ b.contains s.clock.minute = true) (hi : i ≤ s.clearedTable.length)
    (before : ∀ b ∈ s.clearedTable.take i, b.config.start ≤ s.clock.minute)
    (after : ∀ b ∈ s.clearedTable.drop i, s.clock.minute < b.config.start) : s.Closes none none i (s.reevaluate Before.nothing) := by
  let v : State := { s with timetable := { s.timetable with table := s.clearedTable, active := none, cursor := i } }
  have legal (x : Timetable) (none : x.active = none) : ({ v with timetable := x } : State).BlankLegal :=
    blank.timed rfl (by simp only [State.blankTiming, v, active, none])
  rw [State.reevaluate_outside state active outside hi before after]
  refine ⟨fun b awaited leads => ?_, fun unled => ⟨fun graced => ?_, fun _ => ?_⟩⟩
  · obtain ⟨lead, near, far⟩ := leads
    have leading : v.leading = some b := by
      rw [State.leading, Option.filter_eq_some_iff]
      exact ⟨v.timetable.awaited_eq.trans awaited, (v.inLeadWindow_iff b).mpr ⟨⟨⟨rfl, lead⟩, near⟩, far⟩⟩
    let w := v.editTimetable fun t => { t with state := .lead, grace := none }
    have claims : w.handPower (.addClaim .schedule) = { w with power.demand := s.power.demand.set .schedule true } :=
      State.handPower_beside rfl (Demand.isEmpty_set_true .schedule present) (legal _ rfl)
    have led : (v.decideState none).expireEmptyGrace =
        ({ w with power.demand := s.power.demand.set .schedule true } : State).post (.booking b.config.id) 1 := by
      have decided : v.decideState none = (w.handPower (.addClaim .schedule)).post (.booking b.config.id) 1 := by
        rw [State.decideState, leading]
        rfl
      rw [decided, claims]
      exact if_neg nofun
    rw [led]
    exact ⟨rfl, rfl, rfl, rfl, rfl, rfl, rfl, rfl, rfl, rfl, fun _ _ => rfl⟩
  · exact absurd (state.symm.trans graced) (by decide)
  · let w := v.editTimetable fun t => { t with state := .idle, grace := none }
    have leading : v.leading = none := State.leading_none fun b awaited window =>
      unled b (v.timetable.awaited_eq.symm.trans awaited) ⟨by omega, window⟩
    have unset : s.power.demand.set .schedule false = s.power.demand := Demand.set_same absent
    have claims : w.handPower (.removeClaim .schedule) = { w with power.demand := s.power.demand.set .schedule false } :=
      State.handPower_beside rfl (congrArg Demand.isEmpty unset) (legal _ rfl)
    have idle : (v.decideState none).expireEmptyGrace = { w with power.demand := s.power.demand.set .schedule false } := by
      have notGrace : ¬ v.timetable.state = .grace := fun grace => absurd (state.symm.trans grace) (by decide)
      have decided : v.decideState none = w.handPower (.removeClaim .schedule) := by
        rw [State.decideState, leading]
        exact if_neg notGrace
      rw [decided, claims]
      exact if_neg nofun
    rw [idle]
    exact ⟨rfl, rfl, rfl, rfl, rfl, rfl, rfl, rfl, rfl, rfl, fun _ _ => rfl⟩

/-- R153: a re-evaluation in IDLE without the SCHEDULE claim, no booking having been ACTIVE and no lead having run. -/
theorem State.reevaluate_unscheduled {s : State} (state : s.timetable.state = .idle) (absent : s.power.demand.schedule = false) :
    s.Reevaluates none none (s.reevaluate Before.nothing) := by
  by_cases none : s.power.demand = ⟨false, false, false⟩
  · exact State.reevaluate_idle state none
  · intro legal blank active
    refine ⟨fun i b at_i within => ⟨nofun, fun _ => ?_⟩, fun i outside hi before after => ?_⟩
    · exact State.reevaluate_starts state legal at_i ((b.contains_iff _).mpr within)
    · exact State.reevaluate_closes_beside state absent none blank (active rfl) (fun b hb => (b.contains_iff _).not.mpr (outside b hb))
        hi before after

end Sys2Proof.Machine
end

section
/-! PROOFS. What a request of the PANEL leaves of the timetable while no booking is ACTIVE (R135, log 32). -/

namespace Sys2Proof.Machine

/-- `t` has the timetable of `s`, and the SCHEDULE claim is in force in both or in neither. -/
structure State.Unscheduled (s t : State) : Prop where
  timetable : t.timetable = s.timetable
  claim : t.power.demand.schedule = s.power.demand.schedule

namespace State.Unscheduled

variable {s t u : State}

theorem refl (s : State) : s.Unscheduled s := ⟨rfl, rfl⟩

theorem trans (st : s.Unscheduled t) (tu : t.Unscheduled u) : s.Unscheduled u :=
  ⟨tu.timetable.trans st.timetable, tu.claim.trans st.claim⟩

/-- As `trans`, the last change first. -/
theorem after (tu : t.Unscheduled u) (st : s.Unscheduled t) : s.Unscheduled u := st.trans tu

/-! ### Shared operations -/

theorem followBlankTimer (s : State) : s.Unscheduled s.followBlankTimer := by
  unfold State.followBlankTimer
  repeat' split
  all_goals exact ⟨rfl, rfl⟩

theorem setBlank (s : State) (on : Bool) : s.Unscheduled (s.setBlank on) := by
  unfold State.setBlank
  split <;> exact ⟨rfl, rfl⟩

theorem recomputeGeometry (s : State) : s.Unscheduled s.recomputeGeometry := ⟨by simp, by simp⟩
theorem clearTrims (s : State) : s.Unscheduled s.clearTrims := ⟨by simp, by simp⟩

theorem kept_by_selection (s : State) : KeptBySelection fun t => s.Unscheduled t where
  acq _ _ st := ⟨st.timetable, st.claim⟩
  status _ _ st := ⟨st.timetable, st.claim⟩
  post _ _ st := ⟨st.timetable, st.claim⟩
  selected _ st := ⟨st.timetable, st.claim⟩
  presets _ _ _ st := st.trans ⟨by simp, by simp⟩

theorem selectRow (s : State) (n : Fin 10) (m : SelectMethod) : s.Unscheduled (s.selectRow n m) :=
  (kept_by_selection s).selectRow n m (refl s)

/-! ### The requests of the PANEL -/

theorem takeNotice (s : State) (p : Port) (d : List Byte) : s.Unscheduled (takeNotice p d s).1 := by
  unfold Machine.takeNotice
  simp only
  split <;> exact ⟨rfl, rfl⟩

theorem setNoticeMask (s : State) (p : Port) (d : List Byte) : s.Unscheduled (setNoticeMask p d s).1 := by
  unfold Machine.setNoticeMask
  split <;> exact ⟨rfl, rfl⟩

/-- R53: the claim of the PANEL is not the SCHEDULE claim. -/
theorem powerOn (s : State) (d : List Byte) : s.Unscheduled (powerOn d s).1 := by
  obtain ⟨aside, demand⟩ := s.addClaim_demand .panel
  have claim : (s.handPower (.addClaim .panel)).power.demand.schedule = s.power.demand.schedule := by rw [demand]; rfl
  exact ⟨aside.timetable, claim⟩

theorem dismiss (active : s.timetable.active = none) : s.dismiss = s := by
  unfold State.dismiss State.activeBooking
  rw [active]
  rfl

/-- R54, R150: with no booking ACTIVE there is none to dismiss. -/
theorem powerOff (active : s.timetable.active = none) (d : List Byte) : s.Unscheduled (powerOff d s).1 := by
  obtain ⟨aside, demand⟩ := s.removeClaim_demand .panel
  have claim : (s.handPower (.removeClaim .panel)).power.demand.schedule = s.power.demand.schedule := by rw [demand]; rfl
  unfold Machine.powerOff
  rw [dismiss (by rw [aside.timetable, active])]
  exact ⟨aside.timetable, claim⟩

theorem setLampPower (s : State) (d : List Byte) : s.Unscheduled (setLampPower d s).1 := by
  unfold Machine.setLampPower
  repeat' split
  all_goals exact ⟨rfl, rfl⟩

theorem setBlankRequest (s : State) (d : List Byte) : s.Unscheduled (Machine.setBlank d s).1 := by
  unfold Machine.setBlank
  repeat' split
  exacts [refl s, (setBlank s _).trans (followBlankTimer _), refl s]

theorem selectInput (s : State) (d : List Byte) : s.Unscheduled (selectInput d s).1 := by
  unfold Machine.selectInput
  repeat' split
  exacts [refl s, selectRow s _ _, refl s, refl s]

theorem selectClass (s : State) (d : List Byte) : s.Unscheduled (selectClass d s).1 := by
  unfold Machine.selectClass
  simp only
  repeat' split
  exacts [refl s, refl s, selectRow s _ _, refl s]

theorem readInputRow (s : State) (d : List Byte) : s.Unscheduled (readInputRow d s).1 := by
  unfold Machine.readInputRow
  repeat' split
  all_goals exact refl s

theorem nudgeCorner (s : State) (d : List Byte) : s.Unscheduled (nudgeCorner d s).1 := by
  unfold Machine.nudgeCorner
  repeat' split
  · exact refl s
  · exact after (recomputeGeometry _) ⟨rfl, rfl⟩
  · exact refl s

theorem readPreset (s : State) (d : List Byte) : s.Unscheduled (readPreset d s).1 := by
  unfold Machine.readPreset
  repeat' split
  all_goals exact refl s

theorem readCorners (s : State) (d : List Byte) : s.Unscheduled (readCorners d s).1 := by
  unfold Machine.readCorners
  repeat' split
  all_goals exact refl s

/-- R151: with no booking ACTIVE, Extend Booking is refused. -/
theorem extendBooking (active : s.timetable.active = none) (d : List Byte) : s.Unscheduled (extendBooking d s).1 := by
  have none : s.activeBooking = .none := by
    unfold State.activeBooking
    rw [active]
    rfl
  unfold Machine.extendBooking
  rw [none]
  exact refl s

theorem readBookings (s : State) (d : List Byte) : s.Unscheduled (readBookings d s).1 := by
  unfold Machine.readBookings
  simp only
  repeat' split
  all_goals exact refl s

theorem readLampAccount (s : State) (d : List Byte) : s.Unscheduled (readLampAccount d s).1 := by
  unfold Machine.readLampAccount
  repeat' split
  all_goals exact refl s

end State.Unscheduled

/-! ### Its frames -/

/-- R171: the requests that the PANEL port takes. -/
def panelRequests : List Request := [
  .readStatus, .takeNotice, .setNoticeMask, .powerOn, .powerOff, .setLampPower, .setBlank, .selectInput, .selectClass, .readInputRow,
  .nudgeCorner, .clearSessionTrims, .readPreset, .readGeometry, .readCorners, .readTilt, .extendBooking, .readScheduleState,
  .readBookings, .readLockout, .readLampAccount]

theorem lookupCode_panel {code : Byte} {row : CatalogueRow} (h : lookupCode code = some row) (panel : .panel ∈ row.ports) :
    row.request ∈ panelRequests := by
  have listed : ∀ row ∈ catalogue, .panel ∈ row.ports → row.request ∈ panelRequests := by decide
  exact listed row (List.mem_of_find?_eq_some h) panel

theorem owner_panel {s : State} (active : s.timetable.active = none) (d : List Byte) :
    ∀ r ∈ panelRequests, s.Unscheduled (owner r .panel d s).1 := by
  simp only [panelRequests, List.forall_mem_cons]
  exact ⟨.refl s, .takeNotice s _ d, .setNoticeMask s _ d, .powerOn s d, .powerOff active d, .setLampPower s d, .setBlankRequest s d,
    .selectInput s d, .selectClass s d, .readInputRow s d, .nudgeCorner s d, .clearTrims s, .readPreset s d, .refl s, .readCorners s d,
    .refl s, .extendBooking active d, .refl s, .readBookings s d, .refl s, .readLampAccount s d, nofun⟩

theorem dispatch_panel {s : State} (active : s.timetable.active = none) (code : Byte) (d : List Byte) :
    s.Unscheduled (dispatch .panel code d s).1 := by
  obtain ⟨-, hd⟩ | ⟨row, found, ⟨-, hd⟩ | ⟨-, -, x, -, hd⟩ | ⟨panel, -, ⟨-, hd⟩ | ⟨-, hd⟩⟩⟩ := dispatch_cases .panel code d s
  · rw [hd]; exact .refl s
  · rw [hd]; exact .refl s
  · rw [hd]; exact .refl s
  · rw [hd]; exact .refl s
  · rw [hd]; exact owner_panel active d _ (lookupCode_panel found panel)

/-- R135, log 32: the request that the gap admits leaves the timetable and the SCHEDULE claim. -/
theorem State.sendFrame_panel {s : State} (ready : s.Ready .panel) (active : s.timetable.active = none) (code : Byte) {d : List Byte}
    (short : d.length ≤ 64) : s.Unscheduled (s.sendFrame .panel code d) := by
  rw [ready.sendFrame code short]
  exact (dispatch_panel active code d).trans ⟨rfl, rfl⟩

/-- R170: the command that a code and a payload spell is their frame sent to the port. -/
theorem exec_decodeFrame (p : Port) (code : Byte) (d : List Byte) (s : State) :
    exec (decodeFrame p code d) s = carry (fun s => s.sendFrame p code d) s := by
  refine exec_of_frame ?_ s
  cases found : lookupCode code with
  | none => rw [decodeFrame_unknown found]; rfl
  | some row =>
    have coded : ∀ x ∈ catalogue, x.request.code = x.code := by decide
    have same : row.code = code := by simpa using List.find?_some found
    rw [decodeFrame, found, frame?_ofRequest, coded row (List.mem_of_find?_eq_some found), same]

end Sys2Proof.Machine
end

section
/-! PROOFS. Power-on, hardware reset and loss of power; a part without power (O50). -/

namespace Sys2Proof.Machine

/-! ### The reset (R139, R155, R183) -/

/-- R139: the state that the restore of a power-on meets. -/
def State.sampled (s : State) (good : Bool) : State :=
  { s with lines.backupGood := good, clock := s.clock.sampled good, powered := true }

/-- R139: what a power-on has to tell. -/
def startNotices (good : Bool) : List Notice := if good then [] else [⟨.timeInvalid, 0, 0⟩]

/-- Log 34: a NOTICE_ADMISSION for the TIME-INVALID of a power-on stands in the command queue. -/
def State.awaitsTimeInvalid (s : State) : Bool := s.pending.any (fun c => c == .noticeAdmission .facility .timeInvalid 0)

theorem takenBy_timeInvalid (m : Nat) (c : Instr) :
    (⟨.timeInvalid, 0, m⟩ : Notice).takenBy .facility c = (c == .noticeAdmission .facility .timeInvalid 0) := by
  cases c with
  | noticeAdmission p topic value =>
    rw [Bool.eq_iff_iff]
    simp only [Notice.takenBy, Notice.says, Bool.and_eq_true, beq_iff_eq, Instr.noticeAdmission.injEq, @eq_comm _ topic,
      @eq_comm _ value]
  | _ => rfl

/-- Log 34: where no notice waits yet, TIME-INVALID waits when the command queue holds its admission. -/
theorem State.waitsAt_timeInvalid {s : State} (none : s.handed.facility = []) (m : Nat) :
    s.waitsAt ⟨.timeInvalid, 0, m⟩ .facility = s.awaitsTimeInvalid := by
  have same : (⟨.timeInvalid, 0, m⟩ : Notice).takenBy .facility = (fun c => c == .noticeAdmission .facility .timeInvalid 0) :=
    funext (takenBy_timeInvalid m)
  have empty : s.handed.get .facility = [] := none
  rw [State.waitsAt, same, empty, Bool.eq_iff_iff]
  simp [State.awaitsTimeInvalid, List.filter_eq_nil_iff, List.length_pos_iff]

/-- R139, R183: the reset of power-on: the restore, with TIME-INVALID in the empty queues or waiting. -/
theorem State.resetAll_eq (s : State) (good : Bool) : s.resetAll good =
    { (s.sampled good).restored with
      queues := ⟨emptyQueue, ⟨if s.awaitsTimeInvalid then [] else startNotices good, 0, 0⟩, emptyQueue⟩
      handed := ⟨[], if s.awaitsTimeInvalid then startNotices good else [], []⟩ } := by
  cases good with
  | true =>
    have nothing (b : Bool) : (if b then ([] : List Notice) else []) = [] := by cases b <;> rfl
    simp only [startNotices, if_true, nothing]
    rfl
  | false =>
    let r : State := (s.sampled false).restored
    let n : Notice := ⟨.timeInvalid, 0, 0⟩
    have waits : r.waitsAt n .facility = s.awaitsTimeInvalid := State.waitsAt_timeInvalid rfl 0
    have queue : r.queueAfter n .facility = ⟨if s.awaitsTimeInvalid then [] else [n], 0, 0⟩ := by
      rw [State.queueAfter, waits]
      cases s.awaitsTimeInvalid <;> rfl
    have handed : r.handedAfter n .facility = if s.awaitsTimeInvalid then [n] else [] := by
      rw [State.handedAfter, waits]
      cases s.awaitsTimeInvalid <;> rfl
    show ({ r with
      queues := ⟨emptyQueue, r.queueAfter n .facility, emptyQueue⟩
      handed := ⟨[], r.handedAfter n .facility, []⟩ } : State) = _
    rw [queue, handed]
    rfl

theorem openingTimetable_fields (enable valid : Bool) (table : List BookingConfig) : openingTimetable enable table valid =
    ⟨enable, table.map (fun c => ⟨c, 0, false⟩), 0, if enable then (if valid then .idle else .noTime) else .disabled, none, none⟩ := by
  cases enable <;> cases valid <;> rfl

/-- R153, R155: the re-evaluation of a power-on begins where the enable is on and the time valid. -/
theorem State.reevaluate_opening {s : State} {enable valid : Bool} {table : List BookingConfig}
    (opening : s.timetable = openingTimetable enable table valid) (absent : s.power.demand.schedule = false) :
    (enable = false ∨ valid = false → s.reevaluate Before.nothing = s) ∧
    (enable = true → valid = true → s.Reevaluates none none (s.reevaluate Before.nothing)) := by
  refine ⟨fun off => ?_, fun on timed => ?_⟩
  · have still : s.timetable.state.runs = false := by
      rw [opening]
      rcases off with rfl | rfl
      · rfl
      · cases enable <;> rfl
    rw [State.reevaluate, still]
    rfl
  · refine State.reevaluate_unscheduled ?_ absent
    rw [opening, on, timed]
    rfl

theorem Store.merge_eq (old new : Store) (done : List StoreUnit) : old.merge new done =
    ⟨if .accounts ∈ done then new.accounts else old.accounts, if .lampParams ∈ done then new.lampParams else old.lampParams,
      if .powerSettings ∈ done then new.powerSettings else old.powerSettings,
      if .inputRows ∈ done then new.inputRows else old.inputRows, if .acqParams ∈ done then new.acqParams else old.acqParams,
      if .geometry ∈ done then new.calibration else old.calibration, if .geometry ∈ done then new.presets else old.presets,
      if .manualClaim ∈ done then new.manualClaim else old.manualClaim,
      if .timetable ∈ done then new.scheduleEnable else old.scheduleEnable,
      if .timetable ∈ done then new.liveTable else old.liveTable⟩ := by
  simp only [Store.merge, List.contains_iff_mem]

/-! ### A part without power (logs 7, 12) -/

/-- Log 7: a command but those that follow a line, the clock or the power leaves a part without power as it is. -/
theorem exec_unpowered {s : State} (off : s.powered = false) {c : Instr} (on : ∀ g, c ≠ .powerOnReset g)
    (lit : ∀ m, c ≠ .litRise m ∧ c ≠ .litFall m) (turn : ∀ x y, c ≠ .encoderStep x y) (tick : ∀ f, c ≠ .minuteTick f) :
    exec c s = .next s := by
  cases frame : c.frame? with
  | some x =>
    obtain ⟨p, code, d⟩ := x
    rw [exec_of_frame frame]
    exact carry_unpowered _ off
  | none =>
    cases c
    case powerOnReset g => exact absurd rfl (on g)
    case litRise m => exact absurd rfl (lit m).1
    case litFall m => exact absurd rfl (lit m).2
    case encoderStep x y => exact absurd rfl (turn x y)
    case minuteTick f => exact absurd rfl (tick f)
    case interByteTimeout | replySent | noticeAdmission | portByteReceived => exact carry_unpowered _ off
    case ignitionWindowExpiry | retryWaitExpiry | coolDownExpiry | fanTimeEnd => exact carry_unpowered _ off
    case acquisitionWindowExpiry | settleTimerExpiry | indexPulse => exact carry_unpowered _ off
    case blankTimerExpiry | graceExpiry | serviceWindowExpiry => exact carry_unpowered _ off
    case hardwareReset | lossOfPower => exact carry_unpowered _ off
    all_goals cases frame

/-- Log 12: a LIT line of a part without power takes its level. -/
theorem State.senseLit_unpowered {s : State} (off : s.powered = false) (l : Lamp) (level : Bool) :
    s.senseLit l level = { s with lines.lit := s.lines.lit.set l level } := by
  unfold State.senseLit
  split
  · next same => rw [← same, PerLamp.set_get]
  · rw [if_neg (by simp [off])]
    rfl

end Sys2Proof.Machine

open Sys2Proof Sys2Proof.Machine in
/-- Settles O50: the reset writes every block outright, the request of the gap leaves the timetable and the SCHEDULE claim as the reset
made them, and the re-evaluation begins in IDLE or does nothing. -/
theorem powerUpAndLossOfPower : Obligations.PowerUpAndLossOfPower := by
  refine ⟨?_, fun s done powered => ⟨⟨s.powerDown s.store, carry_powered _ powered, rfl, rfl, rfl, rfl⟩, fun code d ready short => ?_⟩,
    fun s c l ta tb first off => ⟨exec_unpowered off, ?_, ?_, ?_, ?_⟩, rfl⟩
  · intro s good reset kind clock enable saved params settings manual
    have run (gap : Option (Byte × List Byte)) : exec (reset gap) s = .next (s.powerUp ⟨good, gap⟩) := by
      rcases kind with rfl | ⟨rfl, powered⟩
      · rfl
      · exact carry_powered _ powered
    have made := s.resetAll_eq good
    have opening : (s.resetAll good).timetable = openingTimetable enable (s.store.liveTable.getD []) clock.valid := by rw [made]; rfl
    have absent : (s.resetAll good).power.demand.schedule = false := by rw [made]; rfl
    refine ⟨rfl, s.resetAll good, ⟨?_, fun code d short => ?_⟩, ?_⟩
    · obtain ⟨off, on⟩ := State.reevaluate_opening opening absent
      exact ⟨fun h => (run none).trans (congrArg Host.Outcome.next (off h)), fun h timed => ⟨_, run none, on h timed⟩⟩
    · have ready : (s.resetAll good).Ready .panel := by rw [made]; exact ⟨rfl, rfl⟩
      have powered := ready.1
      have kept := State.sendFrame_panel ready (by rw [opening]; rfl) code short
      obtain ⟨off, on⟩ := State.reevaluate_opening (kept.timetable.trans opening) (kept.claim.trans absent)
      refine ⟨(s.resetAll good).sendFrame .panel code d, (exec_decodeFrame .panel code d _).trans (carry_powered _ powered), ?_, ?_⟩
      · exact fun h => (run (some (code, d))).trans (congrArg Host.Outcome.next (off h))
      · exact fun h timed => ⟨_, run (some (code, d)), on h timed⟩
    · rw [made]
      exact ⟨rfl, rfl, rfl, fun n => mapVector_get _ _ n, rfl, rfl, Tilt.freshRecord_form _, rfl, rfl, rfl, openingTimetable_fields _ _ _,
        rfl, rfl, ⟨rfl, rfl⟩, rfl, rfl, rfl, rfl⟩
  · let u := s.sendFrame .facility code d
    refine ⟨s.powerDown (s.store.merge u.store done), u, (exec_decodeFrame .facility code d s).trans (carry_powered _ powered),
      carry_powered _ powered, rfl, rfl, rfl, ?_⟩
    exact Store.merge_eq _ _ _
  · exact congrArg Host.Outcome.next (State.senseLit_unpowered off l true)
  · exact congrArg Host.Outcome.next (State.senseLit_unpowered off l false)
  · exact congrArg Host.Outcome.next (if_neg (by simp [off]))
  · exact congrArg Host.Outcome.next (if_neg (by simp [off]))
end

section
/-! PROOFS. What the PANEL filter passes on its level alone (R133), and the reads of the status, the geometry, the lockout and the
timetable (O40). -/

namespace Sys2Proof.Machine

/-! ### The PANEL filter (R133) -/

/-- R133: a request whose passage is a matter of the level alone passes up to its greatest level. -/
theorem State.panelFilter_passes {s : State} {r : Request} {top : Fin 4} (d : List Byte) (level : panelLevel r = some top)
    (within : s.lockout.effective ≤ top) (plain : r ≠ .selectInput ∧ r ≠ .selectClass) : s.panelFilter r d = none := by
  simp only [State.panelFilter, plain, and_false, if_false, State.filterLevel, level, within, if_true]

/-- R133: what passes at level 3 passes at every level. -/
theorem State.panelFilter_read {s : State} {r : Request} (d : List Byte) (level : panelLevel r = some 3) : s.panelFilter r d = none :=
  State.panelFilter_passes d level (Fin.le_last _) ⟨by rintro rfl; exact absurd level nofun, by rintro rfl; exact absurd level nofun⟩

/-- R170: a read that every port may send at every effective level. -/
theorem State.Ready.exec_read {s : State} {p : Port} (h : s.Ready p) (r : Request) {d : List Byte} {n : Nat}
    (found : lookupCode r.code = some ⟨r.code, r, everyPort, n⟩) (level : panelLevel r = some 3) (length : d.length = n)
    (short : d.length ≤ 64) : exec (Instr.ofRequest r p d) s = .next ((owner r p d s).1.answer p r.code d (owner r p d s).2) :=
  h.exec_request r _ found rfl (by cases p <;> rfl) length short fun _ => State.panelFilter_read d level

/-! ### What the reads answer -/

/-- R67, R177: the whole of Read Status. -/
theorem readStatus_eq (p : Port) (d : List Byte) (s : State) : readStatus p d s = (s, ⟨.ok,
    [byteOf s.power.number, s.power.demand.byte, levelByte s.power.level, flagByte s.power.blank,
      byteOf (s.lampState .a).number, byteOf (s.lampState .b).number,
      (s.selectedRow.map fun n => byteOf n.val).getD 0xFF, (s.selectedRow.map fun n => byteOf (s.row n).status.number).getD 0,
      byteOf s.lockout.effective.val, byteOf s.timetable.state.number, byteOf (s.queues.get p).notices.length]⟩) := by
  simp only [readStatus, State.selectedStatus]
  cases s.selectedRow <;> rfl

/-- R176: the flags byte as a sum of the weights of the flags that are set. -/
theorem GeometryRecord.flags_eq (r : GeometryRecord) :
    r.flags = byteOf ((if r.autoInactive then 1 else 0) + (if r.limit then 2 else 0) + (if r.clamped then 4 else 0)) := by
  unfold GeometryRecord.flags
  cases r.autoInactive <;> cases r.limit <;> cases r.clamped <;> rfl

/-- R175: no byte above 3 names a corner. -/
theorem readCorner_none {x : Byte} (h : 3 < x.toNat) : readCorner x = none := dif_neg (by omega)

/-- R121: the corners in their order around the image, from corner `i`. -/
def PerCorner.bytesFrom (x : PerCorner Offset) (i : Fin 4) : List Byte :=
  (x.get i).bytes ++ (x.get (i + 1)).bytes ++ (x.get (i + 2)).bytes ++ (x.get (i + 3)).bytes

theorem readCorners_eq {x : Byte} {i : Fin 4} (h : readCorner x = some i) (s : State) : readCorners [x] s =
    (s, ⟨.ok, [x] ++ s.tilt.record.corners.bytesFrom i ++ [byteOf s.tilt.record.generation]⟩) := by
  simp only [readCorners, h, State.generationByte, PerCorner.bytesFrom, List.append_assoc]

/-- R137, R143: the active booking stands in the live table where some booking has its id. -/
theorem State.activeBooking_id {s : State} (h : ∀ i ∈ s.timetable.active, ∃ b ∈ s.timetable.table, b.config.id = i) :
    s.timetable.active = s.activeBooking.map fun b => b.config.id := by
  unfold State.activeBooking
  cases active : s.timetable.active with
  | none => rfl
  | some i =>
    obtain ⟨b, listed, named⟩ := h i active
    cases found : s.timetable.find i with
    | none => exact absurd (beq_iff_eq.mpr named) (List.find?_eq_none.mp found b listed)
    | some c =>
      have id : c.config.id = i := beq_iff_eq.mp (List.find?_some (p := fun b : Booking => b.config.id == i) found)
      simp [found, id]

end Sys2Proof.Machine

open Sys2Proof Sys2Proof.Machine in
/-- Settles O40: each read reaches its block from every port, and what the block answers is compared field by field. -/
theorem statusGeometryLockoutAndScheduleReads : Obligations.StatusGeometryLockoutAndScheduleReads := by
  refine ⟨fun s p ready => ?_, fun s p ready => ⟨?_, fun x order listed => ?_, fun x high => ?_, ?_, ?_, fun present => ?_⟩⟩
  · refine (ready.exec_read .readStatus (d := []) rfl rfl rfl (by simp)).trans ?_
    simp only [owner, readStatus_eq]
    cases s.selectedRow <;> rfl
  · refine (ready.exec_read .readGeometry (d := []) rfl rfl rfl (by simp)).trans ?_
    simp only [owner, readGeometry, GeometryRecord.flags_eq]
    rfl
  · obtain ⟨i, named, corners⟩ : ∃ i, readCorner x = some i ∧ order = s.tilt.record.corners.bytesFrom i := by
      simp only [List.mem_cons, Prod.mk.injEq, List.not_mem_nil, or_false] at listed
      rcases listed with ⟨rfl, rfl⟩ | ⟨rfl, rfl⟩ | ⟨rfl, rfl⟩ | ⟨rfl, rfl⟩
      exacts [⟨0, rfl, rfl⟩, ⟨1, rfl, rfl⟩, ⟨2, rfl, rfl⟩, ⟨3, rfl, rfl⟩]
    refine (ready.exec_read .readCorners (d := [x]) rfl rfl rfl (by simp)).trans ?_
    simp only [owner, readCorners_eq named, corners]
    rfl
  · refine (ready.exec_read .readCorners (d := [x]) rfl rfl rfl (by simp)).trans ?_
    simp only [owner, readCorners, readCorner_none high]
    rfl
  · exact ready.exec_read .readTilt (d := []) rfl rfl rfl (by simp)
  · refine (ready.exec_read .readLockout (d := []) rfl rfl rfl (by simp)).trans ?_
    simp only [owner, readLockout]
    cases s.lockout.window <;> rfl
  · refine (ready.exec_read .readScheduleState (d := []) rfl rfl rfl (by simp)).trans ?_
    simp only [owner, readScheduleState, State.activeBooking_id present]
    cases s.activeBooking <;> rfl
end

section
/-! PROOFS. The power level, the blank flag, the blank timer and the power settings (O22). -/

namespace Sys2Proof.Machine

/-! ### Codes (R175) -/

/-- R175: no byte above 1 is a flag. -/
theorem readFlag_none {x : Byte} (h : 1 < x.toNat) : readFlag x = none := by
  unfold readFlag
  rw [if_neg, if_neg] <;> rintro rfl <;> exact absurd h (by decide)

/-- R175: no byte above 1 is a power level. -/
theorem readLevel_none {x : Byte} (h : 1 < x.toNat) : readLevel x = none := by
  unfold readLevel
  rw [if_neg, if_neg] <;> rintro rfl <;> exact absurd h (by decide)

/-- R175: no byte above 3 is a lamp policy. -/
theorem readPolicy_none {x : Byte} (h : 3 < x.toNat) : readPolicy x = none := by
  unfold readPolicy
  rw [if_neg, if_neg, if_neg, if_neg] <;> rintro rfl <;> exact absurd h (by decide)

theorem readLevel_of_mem {x : Byte} {level : PowerLevel} (h : (x, level) ∈ [((0 : Byte), PowerLevel.full), (1, .eco)]) :
    readLevel x = some level := by
  simp only [List.mem_cons, Prod.mk.injEq, List.not_mem_nil, or_false] at h
  rcases h with ⟨rfl, rfl⟩ | ⟨rfl, rfl⟩ <;> rfl

theorem readPolicy_of_mem {x : Byte} {policy : LampPolicy}
    (h : (x, policy) ∈ [((0 : Byte), LampPolicy.alternate), (1, .dual), (2, .fixedA), (3, .fixedB)]) : readPolicy x = some policy := by
  simp only [List.mem_cons, Prod.mk.injEq, List.not_mem_nil, or_false] at h
  rcases h with ⟨rfl, rfl⟩ | ⟨rfl, rfl⟩ | ⟨rfl, rfl⟩ | ⟨rfl, rfl⟩ <;> rfl

theorem flagByte_toNat (b : Bool) : (flagByte b).toNat = b.toNat := by cases b <;> rfl

/-! ### The blank timer's conditions (R65) -/

/-- R65: the four conditions of the blank timer. -/
theorem State.blankTiming_iff (s : State) : s.blankTiming = true ↔
    s.power.state = .on ∧ s.power.blank = true ∧ s.timetable.active = none ∧ s.power.settings.blankTimeout ≠ 0 := by
  simp [State.blankTiming, and_assoc]

/-! ### Requests -/

/-- R170: a request that the PANEL and the FACILITY ports may send, where the PANEL filter passes it on its level. -/
theorem State.Ready.exec_hall {s : State} {p : Port} (h : s.Ready p) (r : Request) {top : Fin 4} {x : Byte}
    (found : lookupCode r.code = some ⟨r.code, r, panelAndFacility, 1⟩) (hall : p ≠ .engine) (level : panelLevel r = some top)
    (within : p = .panel → s.lockout.effective ≤ top) (plain : r ≠ .selectInput ∧ r ≠ .selectClass) :
    exec (Instr.ofRequest r p [x]) s = .next ((owner r p [x] s).1.answer p r.code [x] (owner r p [x] s).2) :=
  h.exec_request r _ found rfl (by cases p <;> simp_all [panelAndFacility]) rfl (by simp)
    fun panel => State.panelFilter_passes [x] level (within panel) plain

/-- R66: the power settings that a request with a level and a policy asks for, each time within its greatest value. -/
def settingsTaken (level : PowerLevel) (policy : LampPolicy) (timeout grace : Byte) : PowerSettings :=
  ⟨level, policy, min 120 timeout.toNat, min 30 grace.toNat⟩

/-- R66: Set Power Defaults with a level and a policy. -/
theorem setPowerDefaults_eq {level policy : Byte} {x : PowerLevel} {y : LampPolicy} (hx : readLevel level = some x)
    (hy : readPolicy policy = some y) (timeout grace : Byte) (s : State) :
    setPowerDefaults [level, policy, timeout, grace] s =
      (({ s with
          power.settings := settingsTaken x y timeout grace
          store.powerSettings := some (settingsTaken x y timeout grace) } : State).followBlankTimer,
        ⟨if timeout.toNat ≤ 120 ∧ grace.toNat ≤ 30 then .ok else .clamped, []⟩) := by
  have clamped : (min 120 timeout.toNat != timeout.toNat || min 30 grace.toNat != grace.toNat) =
      !decide (timeout.toNat ≤ 120 ∧ grace.toNat ≤ 30) := by
    simp [bne, Bool.beq_eq_decide_eq]
  rw [← okOrClamped_eq clamped]
  simp only [setPowerDefaults, hx, hy, clampNat_zero]
  rfl

/-- R66: a level or a policy without meaning is refused. -/
theorem setPowerDefaults_bad {level policy : Byte} (h : 1 < level.toNat ∨ 3 < policy.toNat) (timeout grace : Byte) (s : State) :
    setPowerDefaults [level, policy, timeout, grace] s = (s, badArgument) := by
  rcases h with high | high
  · simp only [setPowerDefaults, readLevel_none high]
  · simp only [setPowerDefaults, readPolicy_none high]
    cases readLevel level <;> rfl

end Sys2Proof.Machine

open Sys2Proof Sys2Proof.Machine in
/-- Settles O22: each request reaches the PDU and is evaluated for each meaning of its bytes; the blank timer by its conditions. -/
theorem levelBlankAndPowerDefaults : Obligations.LevelBlankAndPowerDefaults := by
  refine ⟨fun s p x hall ready passed => ?_, fun s => ?_, fun s p x hall ready passed => ?_, fun s level policy timeout grace ready => ?_⟩
  · have run := ready.exec_hall .setLampPower (x := x) rfl hall rfl (fun panel => (passed panel).le) (by decide)
    refine ⟨?_, ?_, fun high => ?_⟩
    · rintro rfl; exact run
    · rintro rfl; exact run
    · refine run.trans ?_
      simp only [owner, setLampPower, readLevel_none high]
      rfl
  · intro holds
    have timing : s.blankTiming = true ↔ holds := s.blankTiming_iff
    refine ⟨fun on timer spent => ?_, fun on either => ?_, fun off => ?_⟩
    · exact State.followBlankTimer_start (timing.mpr on) (by simp [timer, spent])
    · exact State.followBlankTimer_on (timing.mpr on) (by simpa [Option.isSome_iff_ne_none] using either)
    · exact State.followBlankTimer_off (Bool.eq_false_iff.mpr (timing.not.mpr off))
  · have run := ready.exec_hall .setBlank (x := x) rfl hall rfl passed (by decide)
    refine ⟨fun on asked => ?_, fun high => ?_⟩
    · subst asked
      refine run.trans ?_
      simp only [owner, setBlank, readFlag_flagByte, flagByte_toNat]
      rfl
    · refine run.trans ?_
      simp only [owner, setBlank, readFlag_none high]
      rfl
  · intro req
    have run := ready.exec_request .setPowerDefaults (d := [level, policy, timeout, grace])
      ⟨0x16, .setPowerDefaults, [.facility], 4⟩ rfl rfl rfl rfl (by simp) nofun
    refine ⟨fun x y hx hy => ?_, fun bad => ?_⟩
    · refine run.trans ?_
      simp only [owner, setPowerDefaults_eq (readLevel_of_mem hx) (readPolicy_of_mem hy)]
      rfl
    · refine run.trans ?_
      simp only [owner, setPowerDefaults_bad bad]
      rfl
end

section
/-! PROOFS. A claim set or removed beside other claims (O23). -/

namespace Sys2Proof.Machine

/-! ### The requests that change a claim (R53 to R55) -/

/-- R53: Power On on the PANEL port. -/
theorem State.Admits.exec_powerOn {s : State} (h : s.Admits .panel .powerOn []) :
    exec (.powerOn .panel []) s = .next ((powerOn [] s).1.answer .panel 0x10 [] (powerOn [] s).2) :=
  h.1.exec_request .powerOn (d := []) ⟨0x10, .powerOn, [.panel], 0⟩ rfl rfl rfl rfl (by simp) h.2

/-- R54: Power Off on the PANEL port. -/
theorem State.Admits.exec_powerOff {s : State} (h : s.Admits .panel .powerOff []) :
    exec (.powerOff .panel []) s = .next ((powerOff [] s).1.answer .panel 0x11 [] (powerOff [] s).2) :=
  h.1.exec_request .powerOff (d := []) ⟨0x11, .powerOff, [.panel], 0⟩ rfl rfl rfl rfl (by simp) h.2

/-- R55: Facility Power Claim on the FACILITY port. -/
theorem State.Ready.exec_facilityPowerClaim {s : State} (h : s.Ready .facility) (x : Byte) :
    exec (.facilityPowerClaim .facility [x]) s =
      .next ((facilityPowerClaim [x] s).1.answer .facility 0x15 [x] (facilityPowerClaim [x] s).2) :=
  h.exec_request .facilityPowerClaim (d := [x]) ⟨0x15, .facilityPowerClaim, [.facility], 1⟩ rfl rfl rfl rfl (by simp) nofun

theorem facilityPowerClaim_on (s : State) : facilityPowerClaim [1] s =
    (s.handPower (.addClaim .facility), ⟨.ok, [(s.handPower (.addClaim .facility)).power.demand.byte]⟩) := rfl

theorem facilityPowerClaim_off (s : State) : facilityPowerClaim [0] s =
    (s.handPower (.removeClaim .facility), ⟨.ok, [(s.handPower (.removeClaim .facility)).power.demand.byte]⟩) := rfl

theorem facilityPowerClaim_bad {x : Byte} (h : 1 < x.toNat) (s : State) : facilityPowerClaim [x] s = (s, badArgument) := by
  simp only [facilityPowerClaim, readFlag_none h]

/-! ### Claims beside others (R52, log 33) -/

/-- R52: no claim, or another one beside the one removed, leaves the set as empty as it was. -/
theorem Demand.isEmpty_set_false {d : Demand} {c : Claim} (h : d = ⟨false, false, false⟩ ∨ d.set c false ≠ ⟨false, false, false⟩) :
    (d.set c false).isEmpty = d.isEmpty := by
  rcases h with rfl | stays
  · cases c <;> rfl
  · have present : d ≠ ⟨false, false, false⟩ := fun none => stays (by rw [none]; cases c <;> rfl)
    rw [Demand.isEmpty_eq_false stays, Demand.isEmpty_eq_false present]

/-- R52: the FACILITY claim stays when another claim is removed. -/
theorem Demand.set_false_ne_empty {d : Demand} {c : Claim} (claimed : d.facility = true) (other : c ≠ .facility) :
    d.set c false ≠ ⟨false, false, false⟩ := by
  cases c with
  | facility => exact absurd rfl other
  | panel | schedule => simp [Demand.set, claimed]

/-- R177: the demand set byte with the FACILITY claim and without the PANEL claim. -/
theorem Demand.byte_set_panel_false {d : Demand} (claimed : d.facility = true) :
    (d.set .panel false).byte = if d.schedule then 6 else 4 := by
  simp only [Demand.byte, Demand.set, claimed]
  cases d.schedule <;> rfl

theorem State.addClaim_alone {s : State} (c : Claim) (present : s.power.demand ≠ ⟨false, false, false⟩) (blank : s.BlankLegal) :
    s.handPower (.addClaim c) = s.wanting (s.power.demand.set c true) :=
  State.handPower_beside rfl (Demand.isEmpty_set_true c present) blank

theorem State.removeClaim_alone {s : State} (c : Claim)
    (beside : s.power.demand = ⟨false, false, false⟩ ∨ s.power.demand.set c false ≠ ⟨false, false, false⟩) (blank : s.BlankLegal) :
    s.handPower (.removeClaim c) = s.wanting (s.power.demand.set c false) :=
  State.handPower_beside rfl (Demand.isEmpty_set_false beside) blank

/-- R65: the blank timer does not depend on the demand set. -/
theorem State.BlankLegal.wanting {s : State} (h : s.BlankLegal) (d : Demand) : (s.wanting d).BlankLegal :=
  (State.blankLegal_iff _).mpr (s.blankLegal_iff.mp h)

/-- R65: a blank timer that runs may expire: it stops, and its spent mark stands as its conditions require. -/
theorem State.BlankLegal.expired {s : State} (h : s.BlankLegal) (runs : s.power.blankTimer ≠ none) :
    ({ s with power.blankTimer := none, power.blankSpent := true } : State).BlankLegal := by
  have legal := s.blankLegal_iff.mp h
  refine (State.blankLegal_iff _).mpr ?_
  split at legal
  · next timing => exact (if_pos timing).mpr rfl
  · exact absurd legal.1 runs

/-! ### Power Off inside a booking (R54, R150) -/

/-- R150: the dismissal of the active booking beside the FACILITY claim. -/
theorem State.dismiss_beside {s : State} {b : Booking} (active : s.activeBooking = some b) (kept : b.dismissed = false)
    (stays : s.power.demand.set .schedule false ≠ ⟨false, false, false⟩) (blank : s.BlankLegal) :
    s.dismiss = (s.editTimetable (·.editBooking b.config.id fun x => { x with dismissed := true })).wanting
      (s.power.demand.set .schedule false) := by
  rw [State.dismiss_some active kept]
  exact State.removeClaim_alone .schedule (.inr stays) (blank.timed rfl rfl)

end Sys2Proof.Machine

open Sys2Proof Sys2Proof.Machine in
/-- Settles O23: a claim changed beside others is one hand-off that writes the demand set and no more; the dismissal in Power Off is a
second one, beside the FACILITY claim. -/
theorem claimsBesideOtherClaims : Obligations.ClaimsBesideOtherClaims := by
  refine ⟨fun s powered blank => ?_, fun s b admits blank active facility => ?_⟩
  · intro none_ with_ bits
    refine ⟨fun admits present => ?_, fun admits idle beside => ?_, fun ready => ⟨fun present => ?_, fun beside => ?_, fun x high => ?_⟩,
      fun runs stays => ?_⟩
    · refine admits.exec_powerOn.trans ?_
      simp only [powerOn, State.addClaim_alone .panel present blank]
      rfl
    · have removed := State.removeClaim_alone .panel beside blank
      have still : (s.wanting (s.power.demand.set .panel false)).dismiss = s.wanting (s.power.demand.set .panel false) :=
        State.dismiss_none (by rw [State.activeBooking, idle]; exact nofun)
      refine admits.exec_powerOff.trans ?_
      simp only [powerOff, removed, still]
      rfl
    · refine (ready.exec_facilityPowerClaim 1).trans ?_
      rw [facilityPowerClaim_on, State.addClaim_alone .facility present blank]
      rfl
    · refine (ready.exec_facilityPowerClaim 0).trans ?_
      rw [facilityPowerClaim_off, State.removeClaim_alone .facility beside blank]
      rfl
    · refine (ready.exec_facilityPowerClaim x).trans ?_
      rw [facilityPowerClaim_bad high]
      rfl
    · refine (carry_powered State.blankExpiry powered).trans (congrArg Host.Outcome.next ?_)
      rw [State.blankExpiry, if_neg (by simpa [Option.isNone_iff_eq_none] using runs)]
      exact State.removeClaim_alone .panel (.inr stays) (blank.expired runs)
  · intro table
    have removed := State.removeClaim_alone .panel (.inr (Demand.set_false_ne_empty facility nofun)) blank
    refine admits.exec_powerOff.trans ?_
    cases kept : b.dismissed with
    | true =>
      have still : (s.wanting (s.power.demand.set .panel false)).dismiss = s.wanting (s.power.demand.set .panel false) :=
        State.dismiss_none fun x same => by rw [← Option.some.inj (active.symm.trans same)]; exact kept
      simp only [powerOff, removed, still, Demand.byte_set_panel_false facility]
      rfl
    | false =>
      have dismissed := State.dismiss_beside (s := s.wanting (s.power.demand.set .panel false)) active kept
        (Demand.set_false_ne_empty facility nofun) (blank.wanting _)
      have left : (s.power.demand.set .panel false).set .schedule false = ⟨false, false, true⟩ := by simp [Demand.set, facility]
      simp only [powerOff, removed, dismissed, left]
      rfl
end

section
/-! PROOFS. A first claim that no lamp can serve (O24). -/

namespace Sys2Proof.Machine

/-- R61: NO-LAMP has cause 2 while the thermal hold is set, and 1 otherwise. -/
abbrev State.noLampCause (s : State) : Nat := if s.lamps.thermalHold then 2 else 1

/-- The state in which the demand set has become `d` and is held. -/
abbrev State.heldFor (s : State) (d : Demand) : State := { s with power := { s.power with demand := d, held := true } }

/-- R61, log 31: held is set, and NO-LAMP posted. -/
theorem Work.setHeld_unheld {w : Work} (unheld : w.s.power.held = false) :
    w.setHeld = w.edit fun s => ({ s with power.held := true } : State).post .noLamp s.noLampCause := by
  simp only [Work.setHeld, unheld, Bool.false_eq_true, if_false]

/-- R57: in STANDBY a demand that no lamp can serve becomes held. -/
theorem Work.recheck_held_standby {s : State} {d : Demand} (present : d.isEmpty = false) (unusable : ¬ s.Usable)
    (unheld : s.power.held = false) (standby : s.power.state = .standby) :
    Work.recheck ⟨s.wanting d, []⟩ = ⟨(s.heldFor d).post .noLamp s.noLampCause, []⟩ := by
  have no : (!s.lamps.thermalHold && (s.wanting d).anyAvailable) = false := Bool.eq_false_iff.mpr (s.usable_iff.not.mp unusable)
  have recheck : Work.recheck ⟨s.wanting d, []⟩ = Work.setHeld ⟨s.wanting d, []⟩ := by
    simp only [Work.recheck, standby, present, no, Bool.false_eq_true, if_false]
  rw [recheck, Work.setHeld_unheld (by exact unheld)]
  rfl

/-- R60, R61: in COOLING-DOWN a demand that no lamp can serve becomes held, and the policy in force is latched if none was. -/
theorem Work.recheck_held_cooling {s : State} {d : Demand} (present : d.isEmpty = false) (unusable : ¬ s.Usable)
    (unheld : s.power.held = false) (cooling : s.power.state = .coolingDown) (session : s.power.session = ⟨false, false⟩) :
    Work.recheck ⟨s.wanting d, []⟩ =
      ⟨({ s.heldFor d with power.latched := some s.policyCooling } : State).post .noLamp s.noLampCause, []⟩ := by
  let latched : State := { s.wanting d with power.latched := some s.policyCooling }
  have no : (latched.lamps.thermalHold || !latched.anyAvailable) = true := by
    have unserved : (!s.lamps.thermalHold && s.anyAvailable) = false := Bool.eq_false_iff.mpr (s.usable_iff.not.mp unusable)
    show (s.lamps.thermalHold || !s.anyAvailable) = true
    rw [← Bool.not_not s.lamps.thermalHold, ← Bool.not_and, unserved]
    rfl
  have chooses : Work.recheck ⟨s.wanting d, []⟩ = Work.chooseCooling ⟨s.wanting d, []⟩ := by
    have none : (s.wanting d).sessionEmpty = true := by simp [State.sessionEmpty, session]
    simp only [Work.recheck, cooling, unheld, none, present, Bool.not_false, Bool.and_self, if_true, Bool.false_eq_true, if_false]
  have holds : Work.chooseCooling ⟨s.wanting d, []⟩ = Work.setHeld ⟨latched, []⟩ := if_pos no
  rw [chooses, holds, Work.setHeld_unheld (by exact unheld)]
  rfl

/-- R56: POWER-STATE is the last thing told of a first claim whose re-check hands nothing on. -/
theorem State.firstClaim_told {s t : State} (c : Claim) {d : Demand} {n : Nat} (empty : s.power.demand = ⟨false, false, false⟩)
    (claims : s.power.demand.set c true = d) (checks : Work.recheck ⟨s.wanting d, []⟩ = ⟨t, []⟩) (number : t.power.number = n)
    (changed : n ≠ s.power.number) (off : t.power.state ≠ .on) (timer : t.power.blankTimer = none)
    (spent : t.power.blankSpent = false) : s.handPower (.addClaim c) = t.post .powerState n := by
  have taken : Work.take (.addClaim c) ⟨s, []⟩ = ⟨t.post .powerState n, []⟩ := by
    rw [Work.take, Work.takeBare_firstClaim c empty, claims, checks, Work.edit, State.reported_off number changed off, ← timer, ← spent]
    rfl
  show Work.run 63 (Work.take _ ⟨s, []⟩) = _
  rw [taken, Work.run_empty]

end Sys2Proof.Machine

open Sys2Proof Sys2Proof.Machine in
/-- Settles O24: the first claim re-checks, and the re-check sets held; the replies are read off the state that this leaves. -/
theorem powerOnIsHeldInStandby : Obligations.PowerOnIsHeldInStandby := by
  intro s blank unheld degraded empty unusable isHeld
  have waits (instr : Instr) (c : Claim) (d : Demand) (reply : Byte → State → State) (set : (⟨false, false, false⟩ : Demand).set c true = d)
      (run : ∀ n, (s.handPower (.addClaim c)).power.demand = d → (s.handPower (.addClaim c)).power.number = n →
        exec instr s = .next (reply (byteOf n) (s.handPower (.addClaim c)))) : isHeld instr d reply := by
    have claims : s.power.demand.set c true = d := by rw [empty]; exact set
    have present : d.isEmpty = false := by rw [← claims]; exact Demand.set_ne_empty _ _
    have demand := (s.addClaim_demand c).2.trans claims
    refine ⟨fun standby => ?_, fun cooling session => ?_⟩
    · obtain ⟨timer, spent⟩ := (State.blankLegal_iff_off (by rw [standby]; decide)).mp blank
      have number : ((s.heldFor d).post .noLamp s.noLampCause).power.number = 16 := by
        simp [Power.number, PowerState.number, standby, degraded]
      have left := State.firstClaim_told c empty claims (Work.recheck_held_standby present unusable unheld standby) number
        (by simp [Power.number, PowerState.number, standby, degraded, unheld]) (by simp [standby]) timer spent
      rw [left] at run demand
      exact run 16 demand number
    · obtain ⟨timer, spent⟩ := (State.blankLegal_iff_off (by rw [cooling]; decide)).mp blank
      have number : (({ s.heldFor d with power.latched := some s.policyCooling } : State).post .noLamp s.noLampCause).power.number = 19 := by
        simp [Power.number, PowerState.number, cooling, degraded]
      have left := State.firstClaim_told c empty claims (Work.recheck_held_cooling present unusable unheld cooling session) number
        (by simp [Power.number, PowerState.number, cooling, degraded, unheld]) (by simp [cooling]) timer spent
      rw [left] at run demand
      exact run 19 demand number
  refine ⟨fun admits => waits _ .panel _ (fun number t => t.answer .panel 0x10 [] ⟨.accepted, [1, number]⟩) rfl
      fun n demand number => ?_,
    fun ready => waits _ .facility _ (fun _ t => t.answer .facility 0x15 [1] ⟨.ok, [4]⟩) rfl fun n demand number => ?_⟩
  · refine admits.exec_powerOn.trans ?_
    simp only [powerOn, demand, number, empty]
    rfl
  · refine (ready.exec_facilityPowerClaim 1).trans ?_
    simp only [facilityPowerClaim_on, demand]
    rfl
end

section
/-! PROOFS. What the lamp events and the PDU leave of the input table and of the ACQ (O56). -/

namespace Sys2Proof.Machine

/-- `t` has the input table and the ACQ of `s`. -/
structure State.SameInputs (s t : State) : Prop where
  inputs : t.inputs = s.inputs
  acq : t.acq = s.acq

namespace State.SameInputs

variable {s t u : State} {w : Work}

theorem refl (s : State) : s.SameInputs s := ⟨rfl, rfl⟩

theorem trans (st : s.SameInputs t) (tu : t.SameInputs u) : s.SameInputs u := ⟨tu.inputs.trans st.inputs, tu.acq.trans st.acq⟩

/-! ### Changes of a lamp -/

theorem frame (st : s.SameInputs t) (inputs : u.inputs = t.inputs) (acq : u.acq = t.acq) : s.SameInputs u := st.trans ⟨inputs, acq⟩

theorem moveLamp (h : s.SameInputs w.s) (l : Lamp) (c : LampCondition) : s.SameInputs (w.moveLamp l c).s := by
  simp only [Work.moveLamp, Work.edit_s]
  split <;> exact ⟨h.inputs, h.acq⟩

theorem changeLamp (h : s.SameInputs w.s) (l : Lamp) (c : LampCondition) : s.SameInputs (w.changeLamp l c).s := h.moveLamp l c

theorem setCondition (h : s.SameInputs t) (l : Lamp) (c : LampCondition) : s.SameInputs (t.setCondition l c) := ⟨h.inputs, h.acq⟩

theorem abandonStrike (h : s.SameInputs w.s) (l : Lamp) : s.SameInputs (w.abandonStrike l).s := by
  unfold Work.abandonStrike
  split
  exacts [h.setCondition l _, h.moveLamp l _, h, h, h, h]

theorem recomputeLife (h : s.SameInputs w.s) (l : Lamp) : s.SameInputs (w.recomputeLife l).s := by
  have computed : s.SameInputs (w.s.recomputeLife l) := h.frame (by simp) (by simp)
  unfold Work.recomputeLife
  simp only
  repeat' split
  exacts [computed, abandonStrike (w := (w.edit fun s => s.recomputeLife l).hand (.lifeChanged l)) computed l, computed]

theorem pulse (h : s.SameInputs w.s) (l : Lamp) : s.SameInputs (w.pulse l).s := by
  have charged : s.SameInputs (w.edit fun s => s.setAccount l ((s.account l).chargePulse s.accounts.weights)).s := h.frame rfl rfl
  unfold Work.pulse
  simp only
  split
  exacts [charged.recomputeLife l, charged.recomputeLife l]

theorem beginStrike (h : s.SameInputs w.s) (l : Lamp) : s.SameInputs (w.beginStrike l).s := (h.changeLamp l _).pulse l

theorem fail (h : s.SameInputs w.s) (l : Lamp) (cause : Nat) : s.SameInputs (w.fail l cause).s :=
  changeLamp (w := w.edit fun s => s.post (.lampFailed l) cause) ⟨h.inputs, h.acq⟩ l _

/-! ### The orders of the PDU (R28, R33) -/

theorem strike (h : s.SameInputs w.s) (l : Lamp) : s.SameInputs (w.strike l).s := by
  unfold Work.strike
  split
  · split
    exacts [h.beginStrike l, h]
  exacts [h, h, h, h.setCondition l _, h]

theorem stop (h : s.SameInputs w.s) (l : Lamp) : s.SameInputs (w.stop l).s := by
  unfold Work.stop
  split
  exacts [h.changeLamp l _, h.changeLamp l _, h.changeLamp l _, h.setCondition l _, h, h]

theorem lightAtOpening (h : s.SameInputs w.s) (l : Lamp) : s.SameInputs (w.lightAtOpening l).s := by
  unfold Work.lightAtOpening
  split
  · split
    exacts [h.changeLamp l _, h]
  all_goals exact h

/-- No act of the PDU touches the input table or the ACQ. -/
theorem pdu (s : State) : KeptByPdu fun w => s.SameInputs w.s where
  power _ h := ⟨h.inputs, h.acq⟩
  post _ _ h := ⟨h.inputs, h.acq⟩
  hand _ h := h
  trims h := h.frame (by simp) (by simp)
  zeroed h := ⟨h.inputs, h.acq⟩
  strike l _ h := h.strike l
  stop l _ h := h.stop l
  opening l _ h := h.lightAtOpening l

theorem take (x : Handoff) (w : Work) (h : s.SameInputs w.s) : s.SameInputs (w.take x).s := by
  have changed (d : Demand) : s.SameInputs (w.changeDemand d).s := (pdu s).changeDemand (h.frame rfl rfl)
  have converted : s.SameInputs w.convertClaim.s := by
    unfold Work.convertClaim
    simp only
    repeat' split
    exacts [h, changed _, changed _]
  have bare : s.SameInputs (w.takeBare x).s := by
    cases claims : x.claims with
    | false => exact (pdu s).takeBare claims h
    | true =>
      cases x with
      | addClaim c => exact changed _
      | removeClaim c => exact changed _
      | convert => exact converted
      | _ => cases claims
  exact (pdu s).follow _ bare

theorem run (n : Nat) (h : s.SameInputs w.s) : s.SameInputs (Work.run n w) :=
  Work.run_keeps (fun t => s.SameInputs t) take n w h

theorem settle {f : Work → Work} (h : s.SameInputs (f ⟨s, []⟩).s) : s.SameInputs (s.settle f) := h.run _

theorem handPower (s : State) (x : Handoff) : s.SameInputs (s.handPower x) := settle (f := fun w => w.hand x) (refl s)

/-! ### Lamp events -/

theorem windowExpiry (h : s.SameInputs w.s) (l : Lamp) : s.SameInputs (w.windowExpiry l).s := by
  unfold Work.windowExpiry
  split
  · repeat' split
    exacts [h.moveLamp l _, h.setCondition l _, h.fail l 1]
  all_goals exact h

theorem retryExpiry (h : s.SameInputs w.s) (l : Lamp) : s.SameInputs (w.retryExpiry l).s := by
  unfold Work.retryExpiry
  split
  · next attempts _ _ =>
    split
    · exact pulse (w := w.edit fun s => s.setCondition l (.window (attempts + 1) Config.ignitionWindow false)) (h.setCondition l _) l
    · exact h.fail l 1
  all_goals exact h

theorem coolDownExpiry (h : s.SameInputs w.s) (l : Lamp) : s.SameInputs (w.coolDownExpiry l).s := by
  unfold Work.coolDownExpiry
  split
  · repeat' split
    exacts [h.beginStrike l, h.moveLamp l _, h.changeLamp l _]
  all_goals exact h

theorem fanTimeEnd (h : s.SameInputs w.s) (l : Lamp) : s.SameInputs (w.fanTimeEnd l).s := by
  unfold Work.fanTimeEnd
  split
  · split
    exacts [h, h.setCondition l _]
  all_goals exact h

theorem dropout (h : s.SameInputs w.s) (l : Lamp) : s.SameInputs (w.dropout l).s := by
  let charged (n : Nat) : Work := w.edit fun s => (s.setSessionDropouts l n).setAccount l (s.account l).chargeDropout
  have counted (n : Nat) : s.SameInputs (charged n).s := h.frame rfl rfl
  unfold Work.dropout
  simp only
  split
  exacts [(counted _).changeLamp l _, (counted _).fail l 2]

theorem litRise (h : s.SameInputs w.s) (l : Lamp) : s.SameInputs (w.litRise l).s := by
  have risen : s.SameInputs (w.edit fun s => { s with lines.lit := s.lines.lit.set l true }).s := h.frame rfl rfl
  unfold Work.litRise
  simp only
  split
  exacts [risen.changeLamp l _, risen, risen.frame rfl rfl, risen.frame rfl rfl, risen.frame rfl rfl]

theorem litFall (h : s.SameInputs w.s) (l : Lamp) : s.SameInputs (w.litFall l).s := by
  have fallen : s.SameInputs (w.edit fun s => { s with lines.lit := s.lines.lit.set l false }).s := h.frame rfl rfl
  unfold Work.litFall
  simp only
  split
  exacts [fallen.dropout l, fallen]

theorem senseLit (s : State) (l : Lamp) (level : Bool) : s.SameInputs (s.senseLit l level) := by
  unfold State.senseLit
  split
  · exact refl s
  · split
    · refine settle (f := fun w => if level then w.litRise l else w.litFall l) ?_
      cases level
      exacts [litFall (w := ⟨s, []⟩) (refl s) l, litRise (w := ⟨s, []⟩) (refl s) l]
    · exact ⟨rfl, rfl⟩

theorem thermalTrip (s : State) : s.SameInputs (s.settle Work.thermalTrip) := by
  have told (t : State) (h : s.SameInputs t) :
      s.SameInputs (forLamps s.burning (fun l s => s.post (.lampState l) LampState.cooling.number) t) :=
    forLamps_keeps (fun t => s.SameInputs t) _ _ _ (fun _ _ h => h.frame rfl rfl) h
  have tripped : s.SameInputs (State.post { s.mapConditions (·.tripped s.lamps.params.coolDown) with lamps.thermalHold := true }
      .thermalTrip s.burning.count) := ⟨rfl, rfl⟩
  refine settle ?_
  simp only [Work.thermalTrip, Work.hand_s, Work.edit_s]
  split
  exacts [told _ tripped, (told _ tripped).frame rfl rfl]

theorem thermalClear (s : State) : s.SameInputs (s.settle Work.thermalClear) := by
  refine settle ?_
  unfold Work.thermalClear
  split
  exacts [⟨rfl, rfl⟩, refl s]

theorem accountsTick (s : State) : s.SameInputs s.accountsTick := by
  have charged : s.SameInputs (s.chargeLit s.litLamps) := by
    rw [State.chargeLit_eq]
    exact ⟨rfl, rfl⟩
  have computed : s.SameInputs (forLamps s.litLamps (fun l (w : Work) => w.recomputeLife l) ⟨s.chargeLit s.litLamps, []⟩).s :=
    forLamps_keeps (fun w : Work => s.SameInputs w.s) _ _ _ (fun l _ h => h.recomputeLife l) charged
  unfold State.accountsTick
  refine run _ ?_
  split
  · unfold State.countLitTick
    simp only [Work.edit_s]
    split <;> exact computed.frame rfl rfl
  · exact computed

/-! ### Lamp service (R13, R14, R19, R39) -/

theorem setLampThresholds (s : State) (d : List Byte) : s.SameInputs (setLampThresholds d s).1 := by
  have set (l : Lamp) (rated warn grace : Nat) : s.SameInputs (Work.setLampThresholds ⟨s, []⟩ l rated warn grace).s :=
    (recomputeLife (s := s) (w := ⟨s.setThresholds l rated warn grace, []⟩) ⟨rfl, rfl⟩ l).frame rfl rfl
  unfold Machine.setLampThresholds
  repeat' split
  exacts [refl s, (set _ _ _ _).run _, refl s]

theorem lampReplaced (s : State) (d : List Byte) : s.SameInputs (lampReplaced d s).1 := by
  have dark (w : Work) (l : Lamp) (h : s.SameInputs w.s) : s.SameInputs (w.renewLamp l).s := by
    unfold Work.renewLamp
    simp only
    split
    exacts [changeLamp (w := w.edit fun s => s.setSessionDropouts l 0) (h.frame rfl rfl) l _, h.frame rfl rfl]
  have life (w : Work) (l : Lamp) (h : s.SameInputs w.s) : s.SameInputs (w.renewLife l).s := by
    unfold Work.renewLife
    simp only
    split <;> exact h.frame rfl rfl
  have replaced (l : Lamp) : s.SameInputs (Work.replaceLamp ⟨s, []⟩ l).s :=
    (life _ l (dark ⟨s.retireLamp l, []⟩ l ⟨rfl, rfl⟩)).frame rfl rfl
  unfold Machine.lampReplaced
  repeat' split
  exacts [refl s, (replaced _).run _, refl s, refl s]

theorem clearLampFault (s : State) (d : List Byte) : s.SameInputs (clearLampFault d s).1 := by
  have cleared (l : Lamp) (c : LampCondition) : s.SameInputs (Work.changeLamp ⟨s.setSessionDropouts l 0, []⟩ l c).s :=
    changeLamp (s := s) (w := ⟨s.setSessionDropouts l 0, []⟩) ⟨rfl, rfl⟩ l c
  unfold Machine.clearLampFault
  repeat' split
  exacts [refl s, refl s, (cleared _ _).run _, refl s]

end State.SameInputs

end Sys2Proof.Machine
end

section
/-! PROOFS. What the input table and the ACQ keep at a selection, an acquisition and a report (O56). -/

namespace Sys2Proof.Machine

/-! ### Rows (R70, R71) -/

theorem State.row_congr {s t : State} (h : t.inputs = s.inputs) : t.row = s.row := funext fun n => by simp only [State.row, h]

/-- The rows of a table in which row `n` is written. -/
theorem State.row_set (s : State) (n k : Fin 10) (x : InputRow) :
    State.row { s with inputs := s.inputs.set n.val x n.isLt } k = if k = n then x else s.row k := by
  simp only [State.row, Fin.getElem_fin, Vector.getElem_set, Fin.ext_iff, eq_comm]

theorem State.row_editRow (s : State) (n k : Fin 10) (f : InputRow → InputRow) :
    (s.editRow n f).row k = if k = n then f (s.row n) else s.row k := s.row_set n k _

/-- R71: the rows after a write of an acquisition status. -/
theorem State.row_setStatus (s : State) (n k : Fin 10) (x : AcqStatus) :
    (s.setStatus n x).row k = if k = n then { s.row n with status := x } else s.row k := s.row_editRow n k _

theorem mem_allRows (n : Fin 10) : n ∈ allRows := by revert n; decide

/-! ### A legal selection (R71, R87, R89) -/

/-- R71: no row but the selected one is other than IDLE, and no window runs without a selected row. -/
structure State.Lone (s : State) : Prop where
  still : s.selectedRow = none → s.acq.window = none
  others : ∀ k, s.selectedRow ≠ some k → (s.row k).status = .idle

/-- R71, R87, R89: and a selected row is enabled and not IDLE, and a window runs exactly while it is ACQUIRING. -/
structure State.Acquires (s : State) : Prop extends s.Lone where
  enabled : ∀ n, s.selectedRow = some n → (s.row n).config.enabled = true
  live : ∀ n, s.selectedRow = some n → (s.row n).status ≠ .idle
  runs : ∀ n, s.selectedRow = some n → (s.acq.window.isSome = true ↔ (s.row n).status = .acquiring)

theorem State.acquires_iff (s : State) : s.SelectionLegal ∧ s.WindowLegal ↔ s.Acquires := by
  cases selected : s.acq.selected with
  | none =>
    have row : s.selectedRow = none := by simp [State.selectedRow, selected]
    simp only [State.SelectionLegal, State.WindowLegal, selected, State.selectedStatus, row]
    constructor
    · rintro ⟨idle, window⟩
      exact ⟨⟨fun _ => by simpa using window, fun k _ => idle k (mem_allRows k)⟩, by simp [row], by simp [row], by simp [row]⟩
    · intro h
      exact ⟨fun k _ => h.others k (by simp [row]), by simp [h.still row]⟩
  | some x =>
    have row : s.selectedRow = some x.row := by simp [State.selectedRow, selected]
    simp only [State.SelectionLegal, State.WindowLegal, selected, State.selectedStatus, row, Option.map_some, Option.getD_some]
    constructor
    · rintro ⟨⟨enabled, live, others⟩, window⟩
      have only {n : Fin 10} (hn : s.selectedRow = some n) : n = x.row := Option.some.inj (hn.symm.trans row)
      refine ⟨⟨by simp [row], fun k hk => (others k (mem_allRows k)).resolve_left fun same => hk (same ▸ row)⟩,
        fun n hn => ?_, fun n hn => ?_, fun n hn => ?_⟩ <;> rw [only hn] <;> assumption
    · intro h
      exact ⟨⟨h.enabled _ row, h.live _ row, fun k _ => or_iff_not_imp_left.mpr fun other =>
        h.others k (by simpa [row] using Ne.symm other)⟩, h.runs _ row⟩

namespace State

variable {s t : State} {n : Fin 10}

theorem Lone.frame (h : s.Lone) (rows : ∀ k, (t.row k).status = (s.row k).status) (selected : t.selectedRow = s.selectedRow)
    (window : t.acq.window.isSome = s.acq.window.isSome) : t.Lone where
  still none := by simpa [h.still (selected ▸ none)] using window
  others k hk := (rows k).trans (h.others k (selected ▸ hk))

/-- What decides whether a selection is legal. -/
theorem Acquires.frame (h : s.Acquires) (rows : ∀ k, (t.row k).config.enabled = (s.row k).config.enabled ∧
    (t.row k).status = (s.row k).status) (selected : t.selectedRow = s.selectedRow)
    (window : t.acq.window.isSome = s.acq.window.isSome) : t.Acquires where
  toLone := h.toLone.frame (fun k => (rows k).2) selected window
  enabled n hn := (rows n).1.trans (h.enabled n (selected ▸ hn))
  live n hn := by rw [(rows n).2]; exact h.live n (selected ▸ hn)
  runs n hn := by rw [(rows n).2, window]; exact h.runs n (selected ▸ hn)

theorem Acquires.same (h : s.Acquires) (st : s.SameInputs t) : t.Acquires :=
  h.frame (fun k => by simp only [State.row_congr st.inputs, and_self]) (by simp only [State.selectedRow, st.acq]) (by rw [st.acq])

/-- An enabled row that is selected takes a status, and a window runs exactly if that is ACQUIRING. -/
theorem Lone.acquires (h : s.Lone) (row : s.selectedRow = some n) (enabled : (s.row n).config.enabled = true) {x : AcqStatus}
    (live : x ≠ .idle) {y : Acquisition} (selected : y.selected = s.acq.selected) (window : y.window.isSome = true ↔ x = .acquiring) :
    State.Acquires { s.setStatus n x with acq := y } := by
  have still : State.selectedRow { s.setStatus n x with acq := y } = some n := by
    rw [← row]; exact congrArg (Option.map Selection.row) selected
  have rows (k : Fin 10) : State.row { s.setStatus n x with acq := y } k = if k = n then { s.row n with status := x } else s.row k :=
    s.row_setStatus n k x
  have only {m : Fin 10} (hm : State.selectedRow { s.setStatus n x with acq := y } = some m) : m = n :=
    Option.some.inj (hm.symm.trans still)
  refine ⟨⟨fun none => absurd (none.symm.trans still) nofun, fun k hk => ?_⟩, fun m hm => ?_, fun m hm => ?_, fun m hm => ?_⟩
  · have other : k ≠ n := fun same => hk (same ▸ still)
    rw [rows, if_neg other]
    exact h.others k (by simpa [row] using Ne.symm other)
  · rw [rows, if_pos (only hm)]; exact enabled
  · rw [rows, if_pos (only hm)]; exact live
  · rw [rows, if_pos (only hm)]; exact window

/-! ### Acquisition (R95, R97, R99) -/

/-- R95: a selected row begins an acquisition by its timing. -/
theorem Lone.beginAcquisition (h : s.Lone) (row : s.selectedRow = some n) (enabled : (s.row n).config.enabled = true) :
    (s.beginAcquisition n).Acquires := by
  unfold State.beginAcquisition
  split
  exacts [h.acquires row enabled (x := .acquiring) nofun (y := { s.acq with attempts := 1, window := some _ }) rfl (by simp),
    h.acquires row enabled (x := .locked) nofun (y := { s.acq with attempts := 0, window := none }) rfl (by simp)]

theorem restartRow_same (s : State) (n : Fin 10) (m : SelectMethod) : (s.strobe.beginAcquisition n).SameInputs (s.restartRow n m) := by
  unfold State.restartRow
  simp only
  repeat' split
  all_goals exact ⟨rfl, rfl⟩

theorem Acquires.restartRow (h : s.Acquires) (row : s.selectedRow = some n) (m : SelectMethod) : (s.restartRow n m).Acquires := by
  have pulsed : s.strobe.Lone := ⟨h.still, h.others⟩
  exact (pulsed.beginAcquisition row (h.enabled n row)).same (s.restartRow_same n m)

theorem Acquires.windowExpiry (h : s.Acquires) : s.windowExpiry.Acquires := by
  unfold State.windowExpiry
  split
  · next n w row running =>
    repeat' split
    · exact h.frame (fun _ => ⟨rfl, rfl⟩) rfl (by simp [running, State.strobe])
    · exact (h.acquires row (h.enabled n row) (x := .noSignal) (y := { s.acq with window := none }) nofun rfl (by simp)).same ⟨rfl, rfl⟩
    · exact h
  · exact h

theorem Acquires.setPresent (h : s.Acquires) (n : Fin 10) (x : Bool) : (s.setPresent n x).Acquires :=
  h.frame (fun k => by rw [State.setPresent, State.row_editRow]; split <;> simp [*]) rfl rfl

theorem Acquires.syncReport (h : s.Acquires) (d : List Byte) : (Machine.syncReport d s).1.Acquires := by
  have told {s : State} (h : s.Acquires) (x : Selection) (selected : s.acq.selected = some x) (locked : Bool) :
      (s.syncSelected x locked).Acquires := by
    have row : s.selectedRow = some x.row := by simp [State.selectedRow, selected]
    have lock : (s.lockRow x.row).Acquires :=
      (h.acquires row (h.enabled _ row) (x := .locked) (y := { s.acq with window := none, attempts := 0 }) nofun rfl (by simp)).same
        ⟨rfl, rfl⟩
    unfold State.syncSelected
    split
    exacts [lock, lock, h.restartRow row _, h, h, h, h]
  have effect (n : Fin 10) (locked : Bool) : (s.syncReport n locked).Acquires := by
    unfold State.syncReport
    split
    · next x selected =>
      split
      · simp only
        split
        exacts [told (h.setPresent _ _) x selected _, told h x selected _]
      · exact h.setPresent _ _
    · exact h.setPresent _ _
  unfold Machine.syncReport
  repeat' split
  exacts [effect _ _, h, h]

theorem Acquires.presenceReport (h : s.Acquires) (d : List Byte) : (Machine.presenceReport d s).1.Acquires := by
  have effect (bits : Nat) : (s.presenceReport bits).Acquires := by
    have seen : State.Acquires { s with
        inputs := mapVectorIdx (fun i (r : InputRow) => { r with present := bits.testBit i }) s.inputs } :=
      h.frame (fun k => by simp [State.row, mapVectorIdx]) rfl rfl
    unfold State.presenceReport
    simp only
    split
    · next x selected =>
      split
      · exact seen.restartRow (by simp [State.selectedRow, selected]) _
      · exact seen
    · exact seen
  unfold Machine.presenceReport
  repeat' split
  · simp only
    split
    exacts [effect _, h]
  · exact h

/-! ### Selection (R76, R89, R94) -/

/-- R89: the row left is IDLE, and so is every other one; no window runs. -/
theorem Lone.leaveRow (h : s.Lone) : s.leaveRow.acq.window = none ∧ ∀ k, (s.leaveRow.row k).status = .idle := by
  unfold State.leaveRow
  split
  · next none => exact ⟨h.still none, fun k => h.others k (by simp [none])⟩
  · next old row =>
    refine ⟨rfl, fun k => (congrArg InputRow.status (s.row_setStatus old k .idle)).trans ?_⟩
    split
    · rfl
    · next other => exact h.others k (by simpa [row] using Ne.symm other)

theorem leaveRow_enabled (s : State) (k : Fin 10) : (s.leaveRow.row k).config.enabled = (s.row k).config.enabled := by
  unfold State.leaveRow
  split
  · rfl
  · next old _ =>
    refine (congrArg (fun r : InputRow => r.config.enabled) (s.row_setStatus old k .idle)).trans ?_
    split <;> simp [*]

theorem handSelection_same (s : State) (row : Option (Fin 8)) : s.SameInputs (s.handSelection row) :=
  ⟨by simp [State.handSelection], by simp [State.handSelection]⟩

theorem postSelected_same (s : State) (n : Fin 10) (m : SelectMethod) : s.SameInputs (s.postSelected n m) := ⟨rfl, rfl⟩

theorem Lone.selectNew (h : s.Lone) (enabled : (s.row n).config.enabled = true) (m : SelectMethod) : (s.selectNew n m).Acquires := by
  let pulsed : State := State.strobe { s with acq.selLines := n }
  let chosen : State := State.postSelected (State.handSelection { pulsed.leaveRow with acq.selected := some ⟨n, m⟩ }
    (pulsed.leaveRow.row n).config.preset) n m
  have same : State.SameInputs { pulsed.leaveRow with acq.selected := some ⟨n, m⟩ } chosen :=
    (handSelection_same _ _).trans (postSelected_same _ n m)
  have rows : chosen.row = pulsed.leaveRow.row := State.row_congr same.inputs
  have row : chosen.selectedRow = some n := by rw [State.selectedRow, same.acq]; rfl
  have idle := (State.Lone.leaveRow (s := pulsed) ⟨h.still, h.others⟩).2
  have lone : chosen.Lone := ⟨fun none => absurd (none.symm.trans row) nofun, fun k _ => by rw [rows]; exact idle k⟩
  exact lone.beginAcquisition row (by rw [rows, pulsed.leaveRow_enabled]; exact enabled)

theorem Acquires.selectRow (h : s.Acquires) (enabled : (s.row n).config.enabled = true) (m : SelectMethod) :
    (s.selectRow n m).Acquires := by
  unfold State.selectRow
  split
  · next row =>
    have kept : State.Acquires { s with acq.selected := some ⟨n, m⟩ } := h.frame (fun _ => ⟨rfl, rfl⟩) row.symm rfl
    unfold State.selectAgain
    simp only
    split
    exacts [kept.restartRow rfl m, kept]
  · exact h.selectNew enabled m

theorem Lone.clearSelection (h : s.Lone) (cause : Nat) : (s.clearSelection cause).Acquires := by
  obtain ⟨still, idle⟩ := h.leaveRow
  have told : State.Acquires (State.post { s.leaveRow with acq.selected := none, acq.attempts := 0 } (.inputSelected none) cause) :=
    ⟨⟨fun _ => still, fun k _ => idle k⟩, nofun, nofun, nofun⟩
  exact told.same (handSelection_same _ _)

/-- R81, R82: a row that a class resolves to matches it. -/
theorem resolve_answers {c : Byte} (found : (s.resolve c).row = some n) : (s.row n).config.answers c = true := by
  have listed : n ∈ s.rowsMatching c := by
    simp only [State.resolve, Option.or_eq_some_iff] at found
    obtain first | ⟨-, first⟩ := found
    exacts [List.mem_of_find?_eq_some first, List.mem_of_head? first]
  exact (List.mem_filter.mp listed).2

theorem resolve_enabled {c : Byte} (found : (s.resolve c).row = some n) : (s.row n).config.enabled = true :=
  (Bool.and_eq_true_iff.mp (resolve_answers found)).1

theorem Acquires.selectForBooking (h : s.Acquires) (c : Byte) : (s.selectForBooking c).1.Acquires := by
  unfold State.selectForBooking
  split
  · exact h
  · next found => exact h.selectRow (resolve_enabled found) _

theorem Acquires.selectInput (h : s.Acquires) (d : List Byte) : (Machine.selectInput d s).1.Acquires := by
  unfold Machine.selectInput
  repeat' split
  · exact h
  · next enabled => exact h.selectRow enabled _
  · exact h
  · exact h

theorem Acquires.selectClass (h : s.Acquires) (d : List Byte) : (Machine.selectClass d s).1.Acquires := by
  unfold Machine.selectClass
  simp only
  repeat' split
  · exact h
  · exact h
  · next found => exact h.selectRow (resolve_enabled found) _
  · exact h

/-! ### Write Input Row (R74 to R80) -/

theorem rewritePreset_same (s : State) (old new : RowConfig) : s.SameInputs (s.rewritePreset old new) := by
  unfold State.rewritePreset
  split
  exacts [.refl s, ⟨by simp [State.handRowPreset], by simp [State.handRowPreset]⟩]

theorem Acquires.rewriteKept (h : s.Acquires) (x : Selection) (row : s.selectedRow = some x.row) (old new : RowConfig) :
    (s.rewriteKept x old new).1.Acquires := by
  unfold State.rewriteKept
  split
  exacts [h.same (s.rewritePreset_same old new), (h.restartRow row _).same (rewritePreset_same _ old new)]

/-- R76 to R79: a selected row written as enabled keeps a legal selection legal, one written as disabled clears the selection. -/
theorem Lone.rewriteSelected (h : s.Lone) (x : Selection) (row : s.selectedRow = some x.row) (old new : RowConfig)
    (legal : new.enabled = true → s.Acquires) : (s.rewriteSelected x old new).1.Acquires := by
  unfold State.rewriteSelected
  split
  · exact h.clearSelection _
  · next enabled =>
    replace legal := legal (by simpa using enabled)
    simp only
    repeat' split
    · exact legal.rewriteKept x row old new
    · exact legal.rewriteKept x row old new
    · next found => exact legal.selectRow (resolve_enabled found) _
    · exact h.clearSelection _

theorem Acquires.writeRow (h : s.Acquires) (n : Fin 10) (new : RowConfig) : (s.writeRow n new).1.Acquires := by
  let written : State := (s.editRow n (fun r => { r with config := new })).saveRows
  have rows (k : Fin 10) : written.row k = if k = n then { s.row n with config := new } else s.row k :=
    s.row_editRow n k fun r => { r with config := new }
  have status (k : Fin 10) : (written.row k).status = (s.row k).status := by rw [rows]; split <;> simp [*]
  have enabled (may : s.selectedRow = some n → new.enabled = true) (k : Fin 10) (row : s.selectedRow = some k) :
      (written.row k).config.enabled = true := by
    rw [rows]
    split
    · next same => exact may (same ▸ row)
    · exact h.enabled k row
  have lone : written.Lone := h.toLone.frame status rfl rfl
  have legal (may : s.selectedRow = some n → new.enabled = true) : written.Acquires :=
    ⟨lone, enabled may, fun k row => by rw [status]; exact h.live k row, fun k row => by rw [status]; exact h.runs k row⟩
  unfold State.writeRow
  simp only
  split
  · next x selected =>
    have row : s.selectedRow = some x.row := congrArg (Option.map Selection.row) selected
    split
    · exact lone.rewriteSelected x row _ new fun on => legal fun _ => on
    · next other => exact legal fun same => absurd (Option.some.inj (row.symm.trans same)) other
  · next none => exact legal fun same => absurd ((congrArg (Option.map Selection.row) none).symm.trans same) nofun

theorem Acquires.writeInputRow (h : s.Acquires) (d : List Byte) : (Machine.writeInputRow d s).1.Acquires := by
  unfold Machine.writeInputRow
  repeat' split
  exacts [h, h.writeRow _ _, h]

theorem Acquires.setAcquisitionParameters (h : s.Acquires) (d : List Byte) : (Machine.setAcquisitionParameters d s).1.Acquires := by
  unfold Machine.setAcquisitionParameters
  split
  exacts [h.frame (fun _ => ⟨rfl, rfl⟩) rfl rfl, h]

end State

end Sys2Proof.Machine
end

section
/-! PROOFS. What the timetable, every request, every event and every step leave of the selection; O56. -/

namespace Sys2Proof.Machine

namespace State

/-! ### Shared operations that leave the input table and the ACQ alone -/

namespace SameInputs

/-- As `trans`, the last change first. -/
theorem after {s t u : State} (tu : t.SameInputs u) (st : s.SameInputs t) : s.SameInputs u := st.trans tu

theorem post (s : State) (topic : Topic) (value : Nat) : s.SameInputs (s.post topic value) := ⟨rfl, rfl⟩
theorem setPort (s : State) (p : Port) (x : PortUnit) : s.SameInputs (s.setPort p x) := ⟨rfl, rfl⟩
theorem editTimetable (s : State) (f : Timetable → Timetable) : s.SameInputs (s.editTimetable f) := ⟨rfl, rfl⟩
theorem setLevel (s : State) (x : PowerLevel) : s.SameInputs (s.setLevel x) := ⟨rfl, rfl⟩
theorem setBlank (s : State) (on : Bool) : s.SameInputs (s.setBlank on) := ⟨by simp, by simp⟩
theorem followBlankTimer (s : State) : s.SameInputs s.followBlankTimer := ⟨by simp, by simp⟩
theorem setLockout (s : State) (x : Lockout) : s.SameInputs (s.setLockout x) := ⟨by simp, by simp⟩
theorem recomputeGeometry (s : State) : s.SameInputs s.recomputeGeometry := ⟨by simp, by simp⟩
theorem handPresets (s : State) (b r : Option (Fin 8)) (clear : Bool) : s.SameInputs (s.handPresets b r clear) := ⟨by simp, by simp⟩
theorem clearTrims (s : State) : s.SameInputs s.clearTrims := ⟨by simp, by simp⟩
theorem takeHanded (s : State) (p : Port) (t : Topic) (v : BitVec 16) : s.SameInputs (s.takeHanded p t v) := ⟨by simp, by simp⟩

theorem dismiss (s : State) : s.SameInputs s.dismiss := by
  unfold State.dismiss
  repeat' split
  exacts [refl s, refl s, (editTimetable s _).trans (handPower _ _)]

theorem encoderPassage (s : State) (ta tb : Bool) : s.SameInputs (s.encoderPassage ta tb) := by
  have lines : s.SameInputs { s with lines.ta := ta, lines.tb := tb } := ⟨rfl, rfl⟩
  have step (t : State) (n : Int) : t.SameInputs (t.stepCount n) := by
    unfold State.stepCount
    simp only
    split
    exacts [after (recomputeGeometry _) ⟨rfl, rfl⟩, ⟨rfl, rfl⟩]
  unfold State.encoderPassage
  simp only
  repeat' split
  exacts [lines.trans (step _ _), lines.trans (step _ _), lines.trans (post _ _ _), lines]

theorem indexPulse (s : State) : s.SameInputs s.indexPulse := by
  have counted : s.SameInputs s.countToOffset := by
    unfold State.countToOffset
    split <;> exact ⟨rfl, rfl⟩
  unfold State.indexPulse
  simp only
  repeat' split
  · exact after (recomputeGeometry _) (counted.frame rfl rfl)
  · exact (counted.trans (post _ _ _)).trans (recomputeGeometry _)
  · exact counted.trans (recomputeGeometry _)
  · exact refl s

theorem settleExpiry (s : State) : s.SameInputs s.settleExpiry := by
  unfold State.settleExpiry
  simp only
  repeat' split
  exacts [refl s, ⟨rfl, rfl⟩, after (recomputeGeometry _) ⟨rfl, rfl⟩]

theorem blankExpiry (s : State) : s.SameInputs s.blankExpiry := by
  unfold State.blankExpiry
  split
  exacts [refl s, after (handPower _ _) ⟨rfl, rfl⟩]

end SameInputs

end State

/-! ### Requests -/

/-- R171: the requests that read and change nothing. -/
def readRequests : List Request := [.readStatus, .readInputRow, .readPreset, .readGeometry, .readCorners, .readTilt, .readScheduleState,
  .readBookings, .readLockout, .readLampAccount, .readSnapshot, .readReplacementHistory]

theorem owner_read {r : Request} (h : r ∈ readRequests) (p : Port) (d : List Byte) (s : State) : (owner r p d s).1 = s := by
  cases r
  case readStatus | readGeometry | readTilt | readScheduleState | readLockout => rfl
  case readInputRow | readPreset | readCorners | readBookings | readLampAccount | readSnapshot | readReplacementHistory =>
    simp only [owner, readInputRow, readPreset, readCorners, readBookings, readLampAccount, readSnapshot, readReplacementHistory]
    repeat' split
    all_goals rfl
  all_goals exact absurd h (by decide)

/-- R171: the requests that may write the input table, the ACQ or the timetable. -/
def selectingRequests : List Request := [.selectInput, .selectClass, .writeInputRow, .setAcquisitionParameters, .setTime, .stageCommit,
  .insertBooking, .deleteBooking, .setScheduleEnable, .serviceReset, .factoryReset, .syncReport, .presenceReport]

/-- Every other request leaves the input table and the ACQ alone. -/
theorem State.SameInputs.owner {r : Request} (h : r ∉ selectingRequests) (p : Port) (d : List Byte) (s : State) :
    s.SameInputs (owner r p d s).1 := by
  have geometry (t : State) (st : s.SameInputs t) : s.SameInputs t.recomputeGeometry := st.trans (recomputeGeometry t)
  have lockout (t : State) (x : Lockout) (st : s.SameInputs t) : s.SameInputs (t.setLockout x) := st.trans (setLockout t x)
  cases r
  case readStatus | readInputRow | readPreset | readGeometry | readCorners | readTilt | readScheduleState | readBookings | readLockout
      | readLampAccount | readSnapshot | readReplacementHistory =>
    rw [owner_read (by decide)]; exact refl s
  case armHoming | stageBegin | takeAccountSnapshot => exact ⟨rfl, rfl⟩
  case takeNotice | setNoticeMask | setLampPower | setLampParameters | stageAppend | extendBooking =>
    simp only [Machine.owner, takeNotice, setNoticeMask, setLampPower, setLampParameters, stageAppend, extendBooking]
    repeat' split
    all_goals exact ⟨rfl, rfl⟩
  case powerOn => exact handPower s _
  case powerOff => exact (handPower s _).trans (dismiss _)
  case setBlank =>
    simp only [Machine.owner, Machine.setBlank]
    repeat' split
    exacts [refl s, (setBlank s _).trans (followBlankTimer _), refl s]
  case facilityPowerClaim =>
    simp only [Machine.owner, facilityPowerClaim]
    repeat' split
    exacts [refl s, handPower s _, handPower s _, refl s]
  case setPowerDefaults =>
    simp only [Machine.owner, setPowerDefaults]
    repeat' split
    exacts [after (followBlankTimer _) ⟨rfl, rfl⟩, refl s, refl s]
  case nudgeCorner =>
    simp only [Machine.owner, nudgeCorner]
    repeat' split
    exacts [refl s, geometry _ ⟨rfl, rfl⟩, refl s]
  case clearSessionTrims => exact clearTrims s
  case writePreset =>
    simp only [Machine.owner, writePreset]
    repeat' split
    exacts [refl s, refl s, geometry _ ⟨rfl, rfl⟩, ⟨rfl, rfl⟩, refl s]
  case storeSessionTrims => exact after (clearTrims _) ⟨rfl, rfl⟩
  case setKeystoneCalibration =>
    simp only [Machine.owner, setKeystoneCalibration]
    split
    exacts [geometry _ ⟨rfl, rfl⟩, refl s]
  case setManualLockout =>
    simp only [Machine.owner, setManualLockout]
    repeat' split
    exacts [refl s, lockout _ _ ⟨rfl, rfl⟩, refl s]
  case openServiceWindow =>
    simp only [Machine.owner, openServiceWindow]
    split
    exacts [setLockout s _, refl s]
  case closeServiceWindow => exact setLockout s _
  case setLampThresholds => exact setLampThresholds s d
  case lampReplaced => exact lampReplaced s d
  case clearLampFault => exact clearLampFault s d
  case thermalTrip => exact thermalTrip s
  case thermalClear => exact thermalClear s
  all_goals exact absurd (by decide) h

/-! ### The timetable (R145 to R153) -/

namespace State

variable {s t : State}

theorem Acquires.editTimetable (h : s.Acquires) (f : Timetable → Timetable) : (s.editTimetable f).Acquires := h.same ⟨rfl, rfl⟩

theorem Acquires.handPower (h : s.Acquires) (x : Handoff) : (s.handPower x).Acquires := h.same (.handPower s x)

theorem Acquires.startBooking (h : s.Acquires) (i : Nat) (b : Booking) : (s.startBooking i b).Acquires := by
  have claimed : ((s.editTimetable (·.begin i b)).handPower (.addClaim .schedule)).Acquires := (h.editTimetable _).handPower _
  have selected (t : State) (ht : t.Acquires) : (t.bookingSelection b).1.Acquires := by
    unfold State.bookingSelection
    split
    exacts [ht, ht.selectForBooking _]
  have applied (t : State) (noMatch : Bool) : t.SameInputs (t.bookingApplied b noMatch) := by
    have handed : t.SameInputs ((t.handBookingPreset b.config.preset).handBookingClaim b.config.lockout b.config.sourceClass) :=
      (SameInputs.handPresets _ _ _ _).trans (.setLockout _ _)
    have levelled (u : State) (tu : t.SameInputs u) :
        t.SameInputs (match b.config.mode.level with | none => u | some level => u.setLevel level) := by
      split
      exacts [tu, tu.trans (.setLevel u _)]
    have told := ((levelled _ handed).trans (.followBlankTimer _)).trans (.post _ (.booking b.config.id) 2)
    unfold State.bookingApplied
    simp only
    split
    exacts [told.trans (.post _ _ _), told]
  unfold State.startBooking
  rw [State.applyBooking_eq]
  exact (selected _ claimed).same (applied _ _)

namespace SameInputs

theorem endBooking (s : State) (b : Booking) : s.SameInputs (s.endBooking b) :=
  ((((editTimetable s _).trans (setLockout _ _)).trans (handPresets _ _ _ _)).trans (followBlankTimer _)).trans (post _ _ _)

theorem enterLead (s : State) (b : Booking) : s.SameInputs (s.enterLead b) :=
  ((editTimetable s _).trans (handPower _ _)).trans (post _ _ _)

theorem enterIdle (s : State) : s.SameInputs s.enterIdle := (editTimetable s _).trans (handPower _ _)

theorem graceExpiry (s : State) : s.SameInputs s.graceExpiry := by
  unfold State.graceExpiry
  split
  exacts [enterLead s _, enterIdle s]

theorem expireEmptyGrace (s : State) : s.SameInputs s.expireEmptyGrace := by
  unfold State.expireEmptyGrace
  split
  exacts [graceExpiry s, refl s]

theorem convertFor (s : State) (b : Booking) : s.SameInputs (s.convertFor b) := by
  unfold State.convertFor
  split
  exacts [refl s, handPower s _]

theorem followOn (s : State) (b : Booking) : s.SameInputs (s.followOn b) := by
  have leads (t : State) : t.SameInputs t.leadWindowTest := by
    unfold State.leadWindowTest
    split
    exacts [enterLead t _, editTimetable t _]
  unfold State.followOn
  split
  exacts [(editTimetable s _).trans (expireEmptyGrace _), (convertFor s b).trans (leads _)]

theorem tickEnd (s : State) : s.SameInputs s.tickEnd := by
  unfold State.tickEnd
  repeat' split
  exacts [(endBooking s _).trans (followOn _ _), refl s, refl s]

theorem tickRollover (s : State) : s.SameInputs s.tickRollover := by
  unfold State.tickRollover
  split
  exacts [editTimetable s _, refl s]

theorem tickLead (s : State) : s.SameInputs s.tickLead := by
  have leads (b : Booking) : s.SameInputs (s.leadEvent b) := by
    unfold State.leadEvent
    split
    exacts [enterLead s b, enterLead s b, refl s, refl s, refl s, refl s]
  unfold State.tickLead
  repeat' split
  exacts [leads _, refl s, refl s]

theorem endForReevaluation (s : State) (p : Booking) : s.SameInputs (s.endForReevaluation p) := by
  unfold State.endForReevaluation
  simp only
  split
  exacts [(endBooking s p).trans (editTimetable _ _), (endBooking s p).trans (convertFor _ p)]

theorem decideState (s : State) (ran : Option Nat) : s.SameInputs (s.decideState ran) := by
  unfold State.decideState State.leadOn
  repeat' split
  exacts [(editTimetable s _).trans (handPower _ _), enterLead s _, refl s, enterIdle s]

theorem reevaluateEmpty (s : State) (before : Before) : s.SameInputs (s.reevaluateEmpty before) := by
  have ended : s.SameInputs (match before.active with | some p => s.endForReevaluation p | none => s) := by
    split
    exacts [endForReevaluation s _, refl s]
  exact ((ended.trans (editTimetable _ _)).trans (decideState _ _)).trans (expireEmptyGrace _)

end SameInputs

theorem Acquires.timetableTick (h : s.Acquires) : s.timetableTick.Acquires := by
  have starts (t : State) (ht : t.Acquires) : t.tickStart.Acquires := by
    unfold State.tickStart
    repeat' split
    exacts [ht.startBooking _ _, ht, ht]
  unfold State.timetableTick
  split
  · exact starts _ (h.same (((SameInputs.tickEnd s).trans (.tickRollover _)).trans (.tickLead _)))
  · exact h.same (.tickRollover s)

theorem Acquires.minuteTick (h : s.Acquires) (first : TickTaker) : (s.minuteTick first).Acquires := by
  have clocked : State.Acquires { s with clock := s.clock.tick } := h.same ⟨rfl, rfl⟩
  unfold State.minuteTick
  simp only
  split
  · cases first with
    | accounts => exact Acquires.timetableTick (clocked.same (.accountsTick _))
    | timetable => exact clocked.timetableTick.same (.accountsTick _)
  · exact clocked

theorem Acquires.reapply (h : s.Acquires) (was now : BookingConfig) : (s.reapply was now).Acquires := by
  have selected : (if now.sourceClass ≠ was.sourceClass ∧ now.sourceClass ≠ 0 then s.selectForBooking now.sourceClass
      else (s, false)).1.Acquires := by
    split
    exacts [h.selectForBooking _, h]
  unfold State.reapply
  generalize (if now.sourceClass ≠ was.sourceClass ∧ now.sourceClass ≠ 0 then s.selectForBooking now.sourceClass
      else (s, false)) = r at selected
  have told : (if r.2 = true then r.1.post (.booking now.id) 4 else r.1).Acquires := by
    split
    exacts [selected.same (.post _ _ _), selected]
  have claimed (t : State) (ht : t.Acquires) : (if now.lockout ≠ was.lockout ∨ now.sourceClass ≠ was.sourceClass then
      t.handBookingClaim now.lockout now.sourceClass else t).Acquires := by
    split
    exacts [ht.same (.setLockout _ _), ht]
  simp only
  split
  exacts [(claimed _ told).same (.handPresets _ _ _ _), claimed _ told]

theorem Acquires.reevaluate (h : s.Acquires) (before : Before) : (s.reevaluate before).Acquires := by
  have counted := h.editTimetable fun t => { t with table := carryLive t.table before.active }
  have within (t : State) (ht : t.Acquires) (i : Nat) (b : Booking) : (t.reevaluateWithin before i b).Acquires := by
    unfold State.reevaluateWithin
    repeat' split
    exacts [(ht.editTimetable _).reapply _ _, (ht.same (.endForReevaluation t _)).startBooking i b, ht.startBooking i b]
  unfold State.reevaluate
  simp only
  repeat' split
  exacts [within _ counted _ _, counted, counted.same (.reevaluateEmpty _ before), h]

/-! ### Requests that may select -/

theorem Acquires.setTable (h : s.Acquires) (table : List Booking) : (s.setTable table).Acquires := h.same ⟨rfl, rfl⟩

theorem Acquires.commit (h : s.Acquires) (cs : List BookingConfig) : (s.commit cs).Acquires := by
  refine Acquires.reevaluate ?_ _
  exact h.same ⟨rfl, rfl⟩

theorem Acquires.setScheduleEnable (h : s.Acquires) (d : List Byte) : (Machine.setScheduleEnable d s).1.Acquires := by
  have disabled (t : State) : t.SameInputs t.disableSchedule := by
    have ended : t.SameInputs (match t.activeBooking with | some b => t.endBooking b | none => t) := by
      split
      exacts [.endBooking t _, .refl t]
    have removed := (ended.trans (.editTimetable _ fun t => { t with grace := none })).trans (.handPower _ (.removeClaim .schedule))
    exact removed.trans (.editTimetable _ fun t => { t with state := .disabled, cursor := 0 })
  have set (on : Bool) : (s.setEnable on).Acquires := by
    have written : State.Acquires { s with timetable.enable := on, store.scheduleEnable := some on } := h.same ⟨rfl, rfl⟩
    unfold State.setEnable
    simp only
    repeat' split
    exacts [written, (written.editTimetable _).reevaluate _, written.same (disabled _)]
  unfold Machine.setScheduleEnable
  repeat' split
  exacts [h, set _, h]

/-- R85, R102: after a restore no row is selected. -/
theorem restored_acquires (s : State) : s.restored.Acquires :=
  ⟨⟨fun _ => rfl, fun k _ => congrArg InputRow.status (mapVector_get restoredRow _ k)⟩, nofun, nofun, nofun⟩

/-- R86, R103: nor after a service reset. -/
theorem serviceBlocks_acquires (s : State) : s.serviceBlocks.Acquires :=
  ⟨⟨fun _ => rfl, fun k _ => congrArg InputRow.status (s.serviceLamps.servicePower.clearLive_row k)⟩, nofun, nofun, nofun⟩

theorem Acquires.factoryReset (h : s.Acquires) (d : List Byte) : (Machine.factoryReset d s).1.Acquires := by
  have made : s.factoryMade.Acquires :=
    ⟨⟨fun _ => rfl, fun k _ => congrArg InputRow.status (factoryRows k)⟩, nofun, nofun, nofun⟩
  unfold Machine.factoryReset
  split
  · simp only [State.factoryBlocks_eq]
    split
    exacts [made.handPower _, made]
  · exact h

/-- R170: every request keeps the selection legal. -/
theorem Acquires.owner (h : s.Acquires) (r : Request) (p : Port) (d : List Byte) : (Machine.owner r p d s).1.Acquires := by
  by_cases may : r ∈ selectingRequests
  · cases r
    case selectInput => exact h.selectInput d
    case selectClass => exact h.selectClass d
    case writeInputRow => exact h.writeInputRow d
    case setAcquisitionParameters => exact h.setAcquisitionParameters d
    case setTime =>
      simp only [Machine.owner, setTime]
      split
      · refine Acquires.reevaluate ?_ _
        exact h.same ⟨rfl, rfl⟩
      · exact h
    case stageCommit =>
      simp only [Machine.owner, stageCommit]
      repeat' split
      exacts [h, h, h.commit _]
    case insertBooking =>
      simp only [Machine.owner, Machine.insertBooking]
      repeat' split
      exacts [h, h, h, h, h, (h.setTable _).reevaluate _]
    case deleteBooking =>
      simp only [Machine.owner, Machine.deleteBooking]
      repeat' split
      exacts [(h.setTable _).reevaluate _, h, h]
    case setScheduleEnable => exact h.setScheduleEnable d
    case serviceReset => exact s.serviceBlocks_acquires.reevaluate _
    case factoryReset => exact h.factoryReset d
    case syncReport => exact h.syncReport d
    case presenceReport => exact h.presenceReport d
    all_goals exact absurd may (by decide)
  · exact h.same (.owner may p d s)

/-! ### Frames, commands and steps -/

theorem Acquires.takeFrame (h : s.Acquires) (p : Port) (frame : List Byte) (code : Byte) (d : List Byte) :
    (s.takeFrame p frame code d).Acquires := by
  have answered : (dispatch p code d s).1.Acquires := by
    obtain ⟨-, hd⟩ | ⟨row, -, ⟨-, hd⟩ | ⟨-, -, x, -, hd⟩ | ⟨-, -, ⟨-, hd⟩ | ⟨-, hd⟩⟩⟩ := dispatch_cases p code d s
    case inr.inr.inr.inr => rw [hd]; exact h.owner _ p d
    all_goals rw [hd]; exact h
  exact answered.same (.setPort _ _ _)

theorem Acquires.receiveByte (h : s.Acquires) (p : Port) (b : Byte) : (s.receiveByte p b).Acquires := by
  unfold State.receiveByte
  simp only
  split
  · split
    exacts [h.same (.setPort _ _ _), h]
  · split <;> exact h.same (.setPort _ _ _)
  · split <;> exact h.same (.setPort _ _ _)
  · unfold State.completeFrame
    simp only
    repeat' split
    exacts [h.takeFrame p _ _ _, h.same (.setPort _ _ _), h.same (.setPort _ _ _)]
  · exact h

theorem Acquires.sendFrame (h : s.Acquires) (p : Port) (code : Byte) (d : List Byte) : (s.sendFrame p code d).Acquires := by
  have bytes (l : List Byte) : (s.receiveBytes p l).Acquires := by
    induction l generalizing s with
    | nil => exact h
    | cons b rest ih => exact ih (h.receiveByte p b)
  unfold State.sendFrame
  split
  exacts [h.takeFrame p _ _ _, bytes _]

theorem powerUp_acquires (s : State) (x : Restart) : (s.powerUp x).Acquires := by
  have reset : (s.resetAll x.backupGood).Acquires := by
    unfold State.resetAll
    simp only
    split
    exacts [restored_acquires _, (restored_acquires _).same (.post _ _ _)]
  unfold State.powerUp
  refine Acquires.reevaluate ?_ _
  split
  exacts [reset.sendFrame _ _ _, reset]

theorem losePower_acquires (s : State) (cut : Option (Byte × List Byte)) (done : List StoreUnit) : (s.losePower cut done).Acquires := by
  unfold State.losePower
  split <;> exact restored_acquires _

theorem Acquires.exec (h : s.Acquires) {c : Instr} (ht : Machine.exec c s = .next t) : t.Acquires := by
  cases hf : c.frame? with
  | some frame =>
    obtain ⟨p, code, d⟩ := frame
    rw [exec_of_frame hf] at ht
    exact carry_keeps (f := fun s => s.sendFrame p code d) (h.sendFrame p code d) h ht
  | none =>
    cases c
    case portByteReceived p b => exact carry_keeps (h.receiveByte p b) h ht
    case interByteTimeout p =>
      refine carry_keeps (h.same ?_) h ht
      unfold State.interByteExpiry
      split <;> exact ⟨rfl, rfl⟩
    case replySent p =>
      refine carry_keeps (h.same ?_) h ht
      unfold State.replyEnd
      split <;> exact ⟨rfl, rfl⟩
    case noticeAdmission p topic value => exact carry_keeps (h.same (.takeHanded s p topic value)) h ht
    case minuteTick first => cases ht; exact h.minuteTick first
    case ignitionWindowExpiry l =>
      exact carry_keeps (h.same (.settle (f := fun w => w.windowExpiry l) (SameInputs.windowExpiry (w := ⟨s, []⟩) (.refl s) l))) h ht
    case retryWaitExpiry l =>
      exact carry_keeps (h.same (.settle (f := fun w => w.retryExpiry l) (SameInputs.retryExpiry (w := ⟨s, []⟩) (.refl s) l))) h ht
    case coolDownExpiry l =>
      exact carry_keeps (h.same (.settle (f := fun w => w.coolDownExpiry l) (SameInputs.coolDownExpiry (w := ⟨s, []⟩) (.refl s) l))) h ht
    case fanTimeEnd l =>
      exact carry_keeps (h.same (.settle (f := fun w => w.fanTimeEnd l) (SameInputs.fanTimeEnd (w := ⟨s, []⟩) (.refl s) l))) h ht
    case litRise l => cases ht; exact h.same (.senseLit s l true)
    case litFall l => cases ht; exact h.same (.senseLit s l false)
    case acquisitionWindowExpiry => exact carry_keeps h.windowExpiry h ht
    case settleTimerExpiry => exact carry_keeps (h.same (.settleExpiry s)) h ht
    case encoderStep ta tb =>
      cases ht
      split
      exacts [h.same (.encoderPassage s ta tb), h.same ⟨rfl, rfl⟩]
    case indexPulse => exact carry_keeps (h.same (.indexPulse s)) h ht
    case blankTimerExpiry => exact carry_keeps (h.same (.blankExpiry s)) h ht
    case graceExpiry =>
      refine carry_keeps (h.same ?_) h ht
      unfold State.graceTimerExpiry
      split
      exacts [.graceExpiry s, .refl s]
    case serviceWindowExpiry =>
      refine carry_keeps (h.same ?_) h ht
      unfold State.serviceWindowExpiry
      split
      exacts [.setLockout s _, .refl s]
    case powerOnReset x => cases ht; exact s.powerUp_acquires x
    case hardwareReset x => exact carry_keeps (s.powerUp_acquires x) h ht
    case lossOfPower cut done => exact carry_keeps (s.losePower_acquires cut done) h ht
    all_goals cases hf

/-- A second that passes lets a window run on. -/
theorem Acquires.elapse (h : s.Acquires) : s.elapse.Acquires := by
  unfold State.elapse whenPowered
  split
  · exact h.frame (fun _ => ⟨rfl, rfl⟩) rfl Option.isSome_map
  · exact h.same ⟨rfl, rfl⟩

theorem Acquires.step (h : s.Acquires) (ht : Machine.step s = .next t) : t.Acquires := by
  unfold Machine.step at ht
  split at ht
  · cases ht; exact h.elapse
  · next rest _ =>
    have taken : State.Acquires { s with pending := rest } := h.same ⟨rfl, rfl⟩
    exact taken.exec ht

end State

end Sys2Proof.Machine

open Sys2Proof Sys2Proof.Machine in
/-- Settles O56: only a selection, an acquisition, a report, a write of a row and the resets touch the input table or the ACQ, and each
leaves a legal selection. -/
theorem selectionStaysLegal : Obligations.SelectionStaysLegal := fun s t legal ran =>
  t.acquires_iff.mpr ((s.acquires_iff.mp legal).step ran)
end

section
/-! PROOFS. The reads of an input row, of a preset and of the live table (O35), and class resolution (O28). -/

namespace Sys2Proof.Machine

/-! ### Row and preset numbers (R175) -/

theorem readRow_eq {x : Byte} {n : Fin 10} (h : n.val = x.toNat) : readRow x = some n := by
  unfold readRow
  rw [dif_pos (h ▸ n.isLt)]
  exact congrArg some (Fin.ext h.symm)

theorem readRow_none {x : Byte} (h : 9 < x.toNat) : readRow x = none := dif_neg (by omega)

theorem readPresetNumber_eq {x : Byte} {n : Fin 8} (h : n.val = x.toNat) : readPresetNumber x = some n := by
  unfold readPresetNumber
  rw [dif_pos (h ▸ n.isLt)]
  exact congrArg some (Fin.ext h.symm)

theorem readPresetNumber_none {x : Byte} (h : 7 < x.toNat) : readPresetNumber x = none := dif_neg (by omega)

/-- R175: a number read from a byte is written as that byte. -/
theorem byteOf_eq {m : Nat} {x : Byte} (h : m = x.toNat) : byteOf m = x := by rw [h, byteOf_toNat]

/-! ### Reads -/

theorem readInputRow_eq {x : Byte} {n : Fin 10} (h : n.val = x.toNat) (s : State) :
    readInputRow [x] s = (s, ⟨.ok, rowBytes n (s.row n) (s.selectedRow == some n)⟩) := by
  simp only [readInputRow, readRow_eq h, beq_eq_decide]

theorem readPreset_eq {x : Byte} {n : Fin 8} (h : n.val = x.toNat) (s : State) :
    readPreset [x] s = (s, ⟨.ok, presetBytes n s.tilt.presets[n] ++ [flagByte (n == s.tilt.index)]⟩) := by
  simp only [readPreset, readPresetNumber_eq h]

/-- R164: the bookings in wrap order are the first four of the table turned to index `k`. -/
theorem wrapFrom_eq {table : List Booking} {k : Nat} (h : k ≤ table.length) : wrapFrom table k = (table.rotate k).take 4 := by
  rw [wrapFrom, List.rotate_eq_drop_append_take h]

theorem readBookings_eq {s : State} {x : Byte} (h : x.toNat < s.timetable.table.length) : readBookings [x] s =
    (s, ⟨.ok, [byteOf s.timetable.table.length, x, byteOf ((s.timetable.table.rotate x.toNat).take 4).length] ++
      ((s.timetable.table.rotate x.toNat).take 4).flatMap Booking.bytes⟩) := by
  have some : s.timetable.table.isEmpty = false := by
    rw [List.isEmpty_eq_false_iff, ← List.length_pos_iff]; omega
  simp only [readBookings, some, if_neg (Nat.not_le.mpr h), wrapFrom_eq h.le]
  rfl

/-! ### Class resolution (R81 to R83) -/

/-- R81: a row matches a class when it is enabled and agrees with the class where its mask has a 1. -/
theorem RowConfig.answers_iff (r : RowConfig) (c : Byte) :
    r.answers c = true ↔ r.enabled = true ∧ c &&& r.classMask = r.classCode &&& r.classMask := by
  simp [RowConfig.answers]

theorem allRows_eq : allRows = List.finRange 10 := rfl

theorem State.mem_rowsMatching (s : State) (c : Byte) (n : Fin 10) : n ∈ s.rowsMatching c ↔ (s.row n).config.answers c = true := by
  simp [State.rowsMatching, mem_allRows]

/-- R82: the matching rows, lowest first. -/
theorem State.rowsMatching_sorted (s : State) (c : Byte) : (s.rowsMatching c).Pairwise (· < ·) :=
  List.Pairwise.filter _ (by decide)

/-- R82: no row is chosen where none matches. -/
theorem State.resolve_none_iff (s : State) (c : Byte) : (s.resolve c).row = none ↔ ∀ n, ¬ (s.row n).config.answers c = true := by
  simp only [State.resolve, Option.or_eq_none_iff, List.find?_eq_none, List.head?_eq_none_iff, List.eq_nil_iff_forall_not_mem,
    State.mem_rowsMatching]
  exact ⟨fun h => h.2, fun h => ⟨fun n hn => absurd hn (h n), h⟩⟩

/-- R82: the row chosen is the lowest match that is present, or else the lowest match. -/
theorem State.resolve_some {s : State} {c : Byte} {n : Fin 10} (h : (s.resolve c).row = some n) :
    ((s.row n).present = true → ∀ m, m < n → (s.row m).config.answers c = true → (s.row m).present = false) ∧
    ((s.row n).present = false → ∀ m, (s.row m).config.answers c = true → (s.row m).present = false ∧ n ≤ m) := by
  have sorted := s.rowsMatching_sorted c
  simp only [State.resolve, Option.or_eq_some_iff] at h
  simp only [← State.mem_rowsMatching]
  obtain first | ⟨absent, lowest⟩ := h
  · obtain ⟨present, older, newer, rows, before⟩ := List.find?_eq_some_iff_append.mp first
    refine ⟨fun _ m below listed => ?_, fun off => absurd (present.symm.trans off) nofun⟩
    rw [rows, List.mem_append, List.mem_cons] at listed
    obtain earlier | rfl | later := listed
    · simpa using before m earlier
    · exact absurd below (lt_irrefl _)
    · rw [rows, List.pairwise_append] at sorted
      exact absurd below (lt_asymm (List.rel_of_pairwise_cons sorted.2.1 later))
  · have none (m : Fin 10) (listed : m ∈ s.rowsMatching c) : (s.row m).present = false := by
      simpa using List.find?_eq_none.mp absent m listed
    refine ⟨fun _ m _ listed => none m listed, fun _ m listed => ⟨none m listed, ?_⟩⟩
    obtain ⟨rest, rows⟩ := List.head?_eq_some_iff.mp lowest
    rw [rows] at sorted listed
    obtain rfl | later := List.mem_cons.mp listed
    exacts [le_rfl, (List.rel_of_pairwise_cons sorted later).le]

end Sys2Proof.Machine

open Sys2Proof Sys2Proof.Machine in
/-- Settles O35: each read reaches its block from every port and is compared with the field list of its reply. -/
theorem tableReads : Obligations.TableReads := by
  intro s p x ready
  have row := ready.exec_read .readInputRow (d := [x]) rfl rfl rfl (by simp)
  have preset := ready.exec_read .readPreset (d := [x]) rfl rfl rfl (by simp)
  have bookings := ready.exec_read .readBookings (d := [x]) rfl rfl rfl (by simp)
  refine ⟨fun high => row.trans ?_, fun n hn => row.trans ?_, fun high => preset.trans ?_, fun n hn => preset.trans ?_,
    fun empty => bookings.trans ?_, fun some high => bookings.trans ?_, fun low => bookings.trans ?_⟩
  · simp only [owner, readInputRow, readRow_none high]
    rfl
  · simp only [owner, readInputRow_eq hn, rowBytes, byteOf_eq hn]
    rfl
  · simp only [owner, readPreset, readPresetNumber_none high]
    rfl
  · simp only [owner, readPreset_eq hn, presetBytes, Offset.bytes, byteOf_eq hn, List.append_assoc]
    rfl
  · simp only [owner, readBookings, empty]
    rfl
  · simp only [owner, readBookings, List.isEmpty_eq_false_iff.mpr some, high, if_true]
    rfl
  · simp only [owner, readBookings_eq low]
    rfl

open Sys2Proof Sys2Proof.Machine in
/-- Settles O28: the matching rows stand in order, so that the first of them, and the first present one, is the lowest. -/
theorem classResolution : Obligations.ClassResolution := by
  intro s c
  simp only [← RowConfig.answers_iff]
  have present : (s.resolve c).present = (((s.resolve c).row).map fun n => (s.row n).present).getD false := rfl
  refine ⟨rfl, ?_, ?_, s.resolve_none_iff c, fun none => ?_, fun n found => ⟨State.resolve_answers found, ?_, State.resolve_some found⟩,
    fun s' same => State.resolve_congr same c⟩
  · simp only [State.resolve, State.rowsMatching, allRows_eq, Bool.decide_eq_true]
  · simp [State.resolve]
  · rw [present, none]; rfl
  · rw [present, found]; rfl
end

section
/-! PROOFS. The restart of a row (R95, R101), Sync Report (O31), Presence Report and Set Acquisition Parameters (O32). -/

namespace Sys2Proof.Machine

variable {s : State} {n : Fin 10}

/-! ### The selected row -/

theorem State.selectedRow_some (h : s.selectedRow = some n) : ∃ m, s.acq.selected = some ⟨n, m⟩ := by
  obtain ⟨⟨_, m⟩, selected, rfl⟩ := Option.map_eq_some_iff.mp h
  exact ⟨m, selected⟩

theorem State.selectedRow_of {m : SelectMethod} (h : s.acq.selected = some ⟨n, m⟩) : s.selectedRow = some n := by
  simp [State.selectedRow, h]

/-- Row `n` with its present flag and its status written. -/
def State.reported (s : State) (n : Fin 10) (present : Bool) (status : AcqStatus) : State :=
  { s with inputs := s.inputs.set n.val ⟨(s.row n).config, present, status⟩ n.isLt }

theorem State.reported_row (s : State) (n : Fin 10) (present : Bool) (status : AcqStatus) :
    (s.reported n present status).row n = ⟨(s.row n).config, present, status⟩ := (s.row_set n n _).trans (if_pos rfl)

theorem State.reported_reported (s : State) (n : Fin 10) (a b : Bool) (x y : AcqStatus) :
    (s.reported n a x).reported n b y = s.reported n b y := by
  rw [State.reported, State.reported_row, State.reported, State.reported, Vector.set_set]

@[simp] theorem State.post_row (s : State) (topic : Topic) (value : Nat) : (s.post topic value).row = s.row := rfl

/-! ### Acquisition (R95, R101) -/

/-- R101: a change of the status of row `n` is told. -/
def State.tellStatus (t : State) (n : Fin 10) (old new : AcqStatus) : State := if old = new then t else t.post (.acquisition n) new.number

/-- R95: the ACQ as an acquisition that awaits the engine begins, with one pulse on SEL-STROBE. -/
def Acquisition.awaiting (x : Acquisition) : Acquisition :=
  { x with strobes := x.strobes + 1, attempts := 1, window := some ⟨x.params.initialWindow, x.params.initialWindow⟩ }

/-- R95: the ACQ as a row of known timing is restarted, with one pulse on SEL-STROBE. -/
def Acquisition.settled (x : Acquisition) : Acquisition := { x with strobes := x.strobes + 1, attempts := 0, window := none }

/-- R95, R101: the restart of an AUTO row. -/
theorem State.restartRow_auto (timing : (s.row n).config.timing = .auto) (m : SelectMethod) : s.restartRow n m =
    State.tellStatus { s.reported n (s.row n).present .acquiring with acq := s.acq.awaiting } n (s.row n).status .acquiring := by
  have begun : s.strobe.beginAcquisition n = { s.reported n (s.row n).present .acquiring with acq := s.acq.awaiting } := by
    unfold State.beginAcquisition
    rw [show (s.strobe.row n).config.timing = .auto from timing]
    rfl
  have row : State.row { s.reported n (s.row n).present .acquiring with acq := s.acq.awaiting } n =
    ⟨(s.row n).config, (s.row n).present, .acquiring⟩ := s.reported_row n _ _
  simp only [State.restartRow, begun, row, timing, State.tellStatus, eq_comm]

/-- R90, R95, R101: the restart of a FIXED row. -/
theorem State.restartRow_fixed {i : Fin 16} (timing : (s.row n).config.timing = .fixed i) (m : SelectMethod) : s.restartRow n m =
    (State.post { s.reported n (s.row n).present .locked with acq := s.acq.settled } (.inputSelected (some n))
      (16 + i.val + m.amount)).tellStatus n (s.row n).status .locked := by
  have begun : s.strobe.beginAcquisition n = { s.reported n (s.row n).present .locked with acq := s.acq.settled } := by
    unfold State.beginAcquisition
    rw [show (s.strobe.row n).config.timing = .fixed i from timing]
    rfl
  have row : State.row { s.reported n (s.row n).present .locked with acq := s.acq.settled } n =
    ⟨(s.row n).config, (s.row n).present, .locked⟩ := s.reported_row n _ _
  simp only [State.restartRow, begun, row, timing, State.postSelected, State.post_row, Timing.amount, State.tellStatus, eq_comm]

/-! ### Sync Report (R99) -/

/-- R99: the answer of an accepted Sync Report. -/
theorem syncReport_eq {x lock : Byte} {locked : Bool} (hx : n.val = x.toNat) (hlock : readFlag lock = some locked) {t : State}
    (effect : s.syncReport n locked = t) : syncReport [x, lock] s =
      (t, ⟨.ok, [flagByte (t.row n).present, byteOf (if t.selectedRow = some n then (t.row n).status.number else 0)]⟩) := by
  simp only [syncReport, readRow_eq hx, hlock, effect]

/-- R99: the answer of an accepted Sync Report on the selected row, by the row that it leaves. -/
theorem syncReport_answer {x lock : Byte} {locked : Bool} (hx : n.val = x.toNat) (hlock : readFlag lock = some locked) {t : State}
    {r : InputRow} (effect : s.syncReport n locked = t) (row : t.row n = r) (selected : t.selectedRow = some n) :
    syncReport [x, lock] s = (t, ⟨.ok, [flagByte r.present, byteOf r.status.number]⟩) := by
  rw [syncReport_eq hx hlock effect, if_pos selected, row]

theorem State.Ready.exec_syncReport (ready : s.Ready .engine) {x lock : Byte} {t : State} {a : Answer}
    (answer : Machine.syncReport [x, lock] s = (t, a)) : exec (.syncReport .engine [x, lock]) s = .next (t.answer .engine 0x80 [x, lock] a) := by
  have run := ready.exec_request .syncReport (d := [x, lock]) ⟨0x80, .syncReport, [.engine], 2⟩ rfl rfl rfl rfl (by simp) nofun
  rw [show owner .syncReport .engine [x, lock] s = (t, a) from answer] at run
  exact run

theorem syncReport_bad {x lock : Byte} (h : 10 ≤ x.toNat ∨ 1 < lock.toNat) (s : State) : syncReport [x, lock] s = (s, badArgument) := by
  rcases h with high | high
  · simp only [syncReport, readRow_none (x := x) (by omega)]
  · simp only [syncReport, readFlag_none high]
    cases readRow x <;> rfl

/-- R72: a report on a row that is not selected writes its present flag. -/
theorem State.syncReport_other (h : s.selectedRow ≠ some n) (locked : Bool) :
    s.syncReport n locked = s.reported n locked (s.row n).status := by
  unfold State.syncReport
  split
  · next x selected =>
    rw [if_neg fun same : x.row = n => h (same ▸ State.selectedRow_of selected)]
    rfl
  · rfl

theorem State.syncReport_locked {m : SelectMethod} (h : s.acq.selected = some ⟨n, m⟩) :
    s.syncReport n true = (s.reported n true (s.row n).status).syncSelected ⟨n, m⟩ true := by
  simp only [State.syncReport, h, if_true]
  rfl

theorem State.syncReport_unlocked {m : SelectMethod} (h : s.acq.selected = some ⟨n, m⟩) :
    s.syncReport n false = s.syncSelected ⟨n, m⟩ false := by
  simp only [State.syncReport, h, if_true]
  rfl

theorem State.lockRow_eq (s : State) (n : Fin 10) : s.lockRow n =
    State.post { s.reported n (s.row n).present .locked with acq := { s.acq with window := none, attempts := 0 } } (.acquisition n) 2 := rfl

/-- R99: a row that awaits the engine, or has no signal, becomes LOCKED. -/
theorem State.syncReport_locks (row : s.selectedRow = some n) (waits : (s.row n).status = .acquiring ∨ (s.row n).status = .noSignal) :
    s.syncReport n true = State.post { s.reported n true .locked with acq := { s.acq with window := none, attempts := 0 } }
      (.acquisition n) 2 := by
  obtain ⟨m, selected⟩ := State.selectedRow_some row
  have lock : (s.reported n true (s.row n).status).lockRow n =
      State.post { s.reported n true .locked with acq := { s.acq with window := none, attempts := 0 } } (.acquisition n) 2 := by
    rw [State.lockRow_eq, State.reported_row, State.reported_reported]
    rfl
  rw [State.syncReport_locked selected, ← lock]
  unfold State.syncSelected
  rcases waits with status | status <;> simp only [State.reported_row, status]

/-- R99: and stays as it is without a lock. -/
theorem State.syncReport_waits (row : s.selectedRow = some n) (waits : (s.row n).status = .acquiring ∨ (s.row n).status = .noSignal) :
    s.syncReport n false = s := by
  obtain ⟨m, selected⟩ := State.selectedRow_some row
  rw [State.syncReport_unlocked selected]
  unfold State.syncSelected
  rcases waits with status | status <;> simp only [status]

/-- R99: a LOCKED row whose lock is confirmed. -/
theorem State.syncReport_confirms (row : s.selectedRow = some n) (status : (s.row n).status = .locked) :
    s.syncReport n true = s.reported n true .locked := by
  obtain ⟨m, selected⟩ := State.selectedRow_some row
  rw [State.syncReport_locked selected]
  unfold State.syncSelected
  simp only [State.reported_row, status]

/-- R99: a LOCKED row that loses its lock is restarted. -/
theorem State.syncReport_restarts {m : SelectMethod} (h : s.acq.selected = some ⟨n, m⟩) (status : (s.row n).status = .locked) :
    s.syncReport n false = s.restartRow n m := by
  rw [State.syncReport_unlocked h]
  unfold State.syncSelected
  simp only [status]

end Sys2Proof.Machine

open Sys2Proof Sys2Proof.Machine in
/-- Settles O31: the effect of the report by the selection and the status, and the answer from the row that it leaves. -/
theorem syncReport : Obligations.SyncReport := by
  intro s x lock ready
  refine ⟨fun bad => ready.exec_syncReport (syncReport_bad bad s), fun n hn => ⟨fun other b hb => ?_, fun row =>
    ⟨fun waits => ⟨?locks, ?waits⟩, fun locked => ⟨?confirms, fun auto => ?auto, fun i m fixed selected => ?fixed⟩⟩⟩⟩
  · subst hb
    have answer := syncReport_eq hn (readFlag_flagByte b) (State.syncReport_other other b)
    rw [State.reported_row, if_neg (show (s.reported n b (s.row n).status).selectedRow ≠ some n from other)] at answer
    exact ready.exec_syncReport answer
  case locks => exact ready.exec_syncReport (syncReport_answer (lock := 1) hn rfl (State.syncReport_locks row waits) (s.reported_row n true .locked) row)
  case waits => exact ready.exec_syncReport (syncReport_answer (lock := 0) hn rfl (State.syncReport_waits row waits) rfl row)
  case confirms => exact ready.exec_syncReport (syncReport_answer (lock := 1) hn rfl (State.syncReport_confirms row locked) (s.reported_row n true .locked) row)
  case auto =>
    obtain ⟨m, selected⟩ := State.selectedRow_some row
    have effect := (State.syncReport_restarts selected locked).trans (State.restartRow_auto auto m)
    rw [locked, State.tellStatus, if_neg nofun] at effect
    exact ready.exec_syncReport (syncReport_answer (lock := 0) hn rfl effect (s.reported_row n _ .acquiring) row)
  case fixed =>
    have effect := (State.syncReport_restarts selected locked).trans (State.restartRow_fixed fixed m)
    rw [locked, State.tellStatus, if_pos rfl] at effect
    cases m <;> exact ready.exec_syncReport (syncReport_answer (lock := 0) hn rfl effect (s.reported_row n _ .locked) row)
end

section
/-! PROOFS. Presence Report and Set Acquisition Parameters (O32). -/

namespace Sys2Proof.Machine

variable {s : State} {n : Fin 10}

theorem le16_readU16 (lo hi : Byte) : le16 (readU16 lo hi) = [lo, hi] := by
  have := lo.isLt
  have low : byteOf (readU16 lo hi) = lo := BitVec.eq_of_toNat_eq (by simp only [byteOf, readU16, BitVec.toNat_ofNat]; omega)
  have high : byteOf (readU16 lo hi / 256) = hi :=
    BitVec.eq_of_toNat_eq (by have := hi.isLt; simp only [byteOf, readU16, BitVec.toNat_ofNat]; omega)
  rw [le16, low, high]

/-- R72: the rows with the present flags that the bits of a Presence Report give. -/
def State.seen (s : State) (bits : Nat) : State :=
  { s with inputs := mapVectorIdx (fun i (r : InputRow) => { r with present := bits.testBit i }) s.inputs }

theorem State.seen_row (s : State) (bits : Nat) (n : Fin 10) : (s.seen bits).row n = { s.row n with present := bits.testBit n.val } := by
  simp [State.row, State.seen, mapVectorIdx]

/-- R100: the row that a Presence Report restarts: the selected row, without signal, found present where it was not. -/
def State.presenceRestart (s : State) (bits : Nat) : Option (Fin 10) :=
  s.selectedRow.filter fun n => (s.row n).status == .noSignal && !(s.row n).present && bits.testBit n.val

theorem State.presenceReport_eq (s : State) (bits : Nat) : s.presenceReport bits = match s.acq.selected with
    | some x => if s.presenceRestart bits = some x.row then (s.seen bits).restartRow x.row x.method else s.seen bits
    | none => s.seen bits := by
  unfold State.presenceReport
  dsimp only
  cases selected : s.acq.selected with
  | none => rfl
  | some x =>
    have restarts : (((s.seen bits).row x.row).status = .noSignal ∧ ((s.seen bits).row x.row).present ∧ !(s.row x.row).present) ↔
        s.presenceRestart bits = some x.row := by
      simp only [State.presenceRestart, State.selectedRow_of (m := x.method) selected, Option.filter_eq_some_iff, State.seen_row,
        Bool.and_eq_true, beq_iff_eq, true_and, and_assoc, and_comm (a := bits.testBit _ = true)]
    exact if_congr restarts rfl rfl

/-- R72, R100: the rows that a Presence Report leaves, where the row that it restarts is AUTO. -/
def State.presenceInputs (s : State) (bits : Nat) : Vector InputRow 10 :=
  match s.presenceRestart bits with
  | none => (s.seen bits).inputs
  | some k => ((s.seen bits).reported k (bits.testBit k.val) .acquiring).inputs

theorem State.presenceInputs_get (s : State) (bits : Nat) (n : Fin 10) : (s.presenceInputs bits)[n] = { s.row n with
    present := bits.testBit n.val, status := if s.presenceRestart bits = some n then .acquiring else (s.row n).status } := by
  unfold State.presenceInputs
  cases s.presenceRestart bits with
  | none => exact s.seen_row bits n
  | some k =>
    refine ((s.seen bits).row_set k n _).trans ?_
    by_cases same : n = k
    · subst same
      rw [if_pos rfl, if_pos rfl, State.seen_row]
    · rw [if_neg same, if_neg fun h => same (Option.some.inj h).symm, State.seen_row]

theorem State.presenceReport_keeps {bits : Nat} (h : s.presenceRestart bits = none) :
    s.presenceReport bits = { s with inputs := s.presenceInputs bits } := by
  have seen : { s with inputs := s.presenceInputs bits } = s.seen bits := by rw [State.presenceInputs, h]; rfl
  rw [State.presenceReport_eq, seen]
  split
  · rw [h, if_neg nofun]
  · rfl

/-- R95, R100, R101: an AUTO row restarted by a Presence Report awaits the engine. -/
theorem State.presenceReport_restarts {bits : Nat} (h : s.presenceRestart bits = some n) (auto : (s.row n).config.timing = .auto) :
    s.presenceReport bits = State.post { s with inputs := s.presenceInputs bits, acq := s.acq.awaiting } (.acquisition n) 1 := by
  obtain ⟨row, found⟩ := Option.filter_eq_some_iff.mp h
  obtain ⟨m, selected⟩ := State.selectedRow_some row
  have status : (s.row n).status = .noSignal := by simp_all
  simp only [State.presenceReport_eq, State.presenceInputs, selected, h, if_true]
  rw [State.restartRow_auto (by rw [State.seen_row]; exact auto), State.seen_row, status]
  rfl

/-- R100: the answer to a Presence Report. -/
theorem State.Ready.exec_presenceReport (ready : s.Ready .engine) {lo hi : Byte} (h : readU16 lo hi < 1024) {t : State}
    (effect : s.presenceReport (readU16 lo hi) = t) :
    exec (.presenceReport .engine [lo, hi]) s = .next (t.answer .engine 0x81 [lo, hi] ⟨.ok, [lo, hi]⟩) := by
  have run := ready.exec_request .presenceReport (d := [lo, hi]) ⟨0x81, .presenceReport, [.engine], 2⟩ rfl rfl rfl rfl (by simp) nofun
  have answer : owner .presenceReport .engine [lo, hi] s = (t, ⟨.ok, [lo, hi]⟩) := by
    simp only [owner, Machine.presenceReport, if_pos h, effect, le16_readU16]
  rw [answer] at run
  exact run

end Sys2Proof.Machine

open Sys2Proof Sys2Proof.Machine in
/-- Settles O32: the flags that the bits give, the restart of the one row that R100 names, and the parameters clamped. -/
theorem presenceAndParameters : Obligations.PresenceAndParameters := by
  refine ⟨fun s lo hi ready => ⟨fun high => ?high, fun low => ?low⟩, fun s w0 w1 limit ready => ?parameters⟩
  case high =>
    have run := ready.exec_request .presenceReport (d := [lo, hi]) ⟨0x81, .presenceReport, [.engine], 2⟩ rfl rfl rfl rfl (by simp) nofun
    have answer : owner .presenceReport .engine [lo, hi] s = (s, badArgument) := if_neg (Nat.not_lt.mpr high)
    rw [answer] at run
    exact run
  case low =>
    exact ⟨s.presenceInputs _, s.presenceInputs_get _, fun keeps => ready.exec_presenceReport low (State.presenceReport_keeps keeps),
      fun n restart auto => ready.exec_presenceReport low (State.presenceReport_restarts restart auto)⟩
  case parameters =>
    have run := ready.exec_request .setAcquisitionParameters (d := [w0, w1, limit])
      ⟨0x24, .setAcquisitionParameters, [.facility], 3⟩ rfl rfl rfl rfl (by simp) nofun
    refine run.trans (congrArg (fun a => Host.Outcome.next (State.answer _ .facility 0x24 [w0, w1, limit] a)) ?_)
    exact okOrClamped_eq (by rw [bne, beq_eq_decide]; rfl) _
end

section
/-! PROOFS. The checks of Write Input Row and the write of a row that is not selected (O33). -/

namespace Sys2Proof.Machine

variable {s : State} {n : Fin 10}

/-! ### Reading the fields (R175) -/

theorem readFlag_eq {x : Byte} (h : ¬ 1 < x.toNat) : readFlag x = some (x == 1) := by
  have flag : x = 0 ∨ x = 1 := by bv_omega
  rcases flag with rfl | rfl <;> rfl

theorem readPresetRef_none {x : Byte} (high : 7 < x.toNat) (named : x ≠ 0xFF) : readPresetRef x = none := by
  rw [readPresetRef, if_neg named, readPresetNumber_none high]
  rfl

theorem readPresetRef_number {x : Byte} {k : Fin 8} (h : k.val = x.toNat) : readPresetRef x = some (some k) := by
  have named : x ≠ 0xFF := by
    rintro rfl
    exact absurd (h ▸ k.isLt) (by decide)
  rw [readPresetRef, if_neg named, readPresetNumber_eq h]
  rfl

theorem readTiming_fixed {x : Byte} {i : Fin 16} (h : i.val = x.toNat) : readTiming 1 x = .ok (.fixed i) := by
  rw [readTiming, if_neg (by decide), if_pos rfl, dif_pos (h ▸ i.isLt)]
  exact congrArg (Except.ok ∘ Timing.fixed) (Fin.ext h.symm)

theorem readTiming_high {x : Byte} (h : 15 < x.toNat) : readTiming 1 x = .error 5 := by
  rw [readTiming, if_neg (by decide), if_pos rfl, dif_neg (by omega)]

theorem readTiming_unknown {timing : Byte} (h : 1 < timing.toNat) (index : Byte) : readTiming timing index = .error 4 := by
  rw [readTiming, if_neg, if_neg] <;> rintro rfl <;> exact absurd h (by decide)

/-- R74: a timing that passes the checks of codes 4 and 5. -/
theorem readTiming_known {timing index : Byte} (code : ¬ 1 < timing.toNat) (number : ¬ (timing = 1 ∧ 15 < index.toNat)) :
    ∃ t, readTiming timing index = .ok t := by
  have known : timing = 0 ∨ timing = 1 := by bv_omega
  rcases known with rfl | rfl
  · exact ⟨.auto, rfl⟩
  · have low : ¬ 15 < index.toNat := fun high => number ⟨rfl, high⟩
    exact ⟨_, readTiming_fixed (i := ⟨index.toNat, by omega⟩) rfl⟩

/-! ### The checks in order (R74) -/

section
variable {row enabled code mask timing index preset : Byte} {e : Bool}

theorem checkRow_row (h : 9 < row.toNat) : checkRow row enabled code mask timing index preset = .error 1 := by
  simp only [checkRow, readRow_none h]

theorem checkRow_enabled (hrow : readRow row = some n) (h : 1 < enabled.toNat) :
    checkRow row enabled code mask timing index preset = .error 2 := by
  simp only [checkRow, hrow, readFlag_none h]

theorem checkRow_code (hrow : readRow row = some n) (hflag : readFlag enabled = some e) (h : (e && code == 0) = true) :
    checkRow row enabled code mask timing index preset = .error 3 := by
  simp only [checkRow, hrow, hflag, h, if_true]

theorem checkRow_timing (hrow : readRow row = some n) (hflag : readFlag enabled = some e) (hcode : (e && code == 0) = false)
    {k : Byte} (h : readTiming timing index = .error k) : checkRow row enabled code mask timing index preset = .error k := by
  simp only [checkRow, hrow, hflag, hcode, h, Bool.false_eq_true, if_false]

theorem checkRow_preset (hrow : readRow row = some n) (hflag : readFlag enabled = some e) (hcode : (e && code == 0) = false)
    {t : Timing} (htiming : readTiming timing index = .ok t) (h : readPresetRef preset = none) :
    checkRow row enabled code mask timing index preset = .error 6 := by
  simp only [checkRow, hrow, hflag, hcode, htiming, h, Bool.false_eq_true, if_false]

theorem checkRow_ok (hrow : readRow row = some n) (hflag : readFlag enabled = some e) (hcode : (e && code == 0) = false)
    {t : Timing} (htiming : readTiming timing index = .ok t) {p : Option (Fin 8)} (hpreset : readPresetRef preset = some p) :
    checkRow row enabled code mask timing index preset = .ok (n, ⟨e, code, mask, t, p⟩) := by
  simp only [checkRow, hrow, hflag, hcode, htiming, hpreset, Bool.false_eq_true, if_false]

/-! ### The request (R74, R75) -/

theorem State.Ready.exec_writeInputRow (ready : s.Ready .facility) :
    exec (.writeInputRow .facility [row, enabled, code, mask, timing, index, preset]) s = .next
      ((Machine.writeInputRow [row, enabled, code, mask, timing, index, preset] s).1.answer .facility 0x22
        [row, enabled, code, mask, timing, index, preset]
        (Machine.writeInputRow [row, enabled, code, mask, timing, index, preset] s).2) :=
  ready.exec_request .writeInputRow ⟨0x22, .writeInputRow, [.facility], 7⟩ rfl rfl rfl rfl (by simp) nofun

/-- R74: the first check that fails refuses the request with its field code. -/
theorem State.Ready.writeInputRow_refuses (ready : s.Ready .facility) {k : Byte}
    (h : checkRow row enabled code mask timing index preset = .error k) :
    exec (.writeInputRow .facility [row, enabled, code, mask, timing, index, preset]) s = .next
      (s.answer .facility 0x22 [row, enabled, code, mask, timing, index, preset] ⟨.badArgument, [k]⟩) := by
  rw [ready.exec_writeInputRow, Machine.writeInputRow, h]

/-- R75: an accepted request, by the effect of the write. -/
theorem State.Ready.writeInputRow_writes (ready : s.Ready .facility) {new : RowConfig}
    (h : checkRow row enabled code mask timing index preset = .ok (n, new)) {t : State} {k : Byte} {found : Option Resolution}
    (effect : s.writeRow n new = (t, k, found)) :
    exec (.writeInputRow .facility [row, enabled, code, mask, timing, index, preset]) s = .next
      (t.answer .facility 0x22 [row, enabled, code, mask, timing, index, preset]
        ⟨.ok, [byteOf n.val, k, inputRefByte t.selectedRow] ++ (found.map Resolution.bytes).getD []⟩) := by
  have answer : Machine.writeInputRow [row, enabled, code, mask, timing, index, preset] s =
      (t, ⟨.ok, [byteOf n.val, k, inputRefByte t.selectedRow] ++ (found.map Resolution.bytes).getD []⟩) := by
    simp only [Machine.writeInputRow, h, effect]
  rw [ready.exec_writeInputRow, answer]

end

/-! ### The write (R75) -/

/-- R75: the table with the configuration of row `n` written and saved. -/
def State.rewritten (s : State) (n : Fin 10) (new : RowConfig) : State := (s.editRow n (fun r => { r with config := new })).saveRows

theorem State.writeRow_eq (s : State) (n : Fin 10) (new : RowConfig) : s.writeRow n new = match s.acq.selected with
    | some x => if x.row = n then (s.rewritten n new).rewriteSelected x (s.row n).config new else (s.rewritten n new, 0, none)
    | none => (s.rewritten n new, 0, none) := rfl

theorem State.writeRow_other (h : s.selectedRow ≠ some n) (new : RowConfig) : s.writeRow n new = (s.rewritten n new, 0, none) := by
  rw [State.writeRow_eq]
  split
  · next x selected => exact if_neg fun same : x.row = n => h (same ▸ State.selectedRow_of (m := x.method) selected)
  · rfl

theorem State.writeRow_selected {m : SelectMethod} (h : s.acq.selected = some ⟨n, m⟩) (new : RowConfig) :
    s.writeRow n new = (s.rewritten n new).rewriteSelected ⟨n, m⟩ (s.row n).config new := by
  simp only [State.writeRow_eq, h, if_true]

end Sys2Proof.Machine

open Sys2Proof Sys2Proof.Machine in
/-- Settles O33: the checks one after the other, and the configuration written where they all pass. -/
theorem writeInputRow : Obligations.WriteInputRow := by
  intro s row enabled code mask timing index preset ready
  dsimp only
  split
  · next high => exact ready.writeInputRow_refuses (checkRow_row high)
  next low =>
  have hrow : readRow row = some ⟨row.toNat, by omega⟩ := readRow_eq rfl
  split
  · next high => exact ready.writeInputRow_refuses (checkRow_enabled hrow high)
  next flag =>
  have hflag := readFlag_eq flag
  split
  · next empty => exact ready.writeInputRow_refuses (checkRow_code hrow hflag (by simpa using empty))
  next coded =>
  have hcode : ((enabled == 1) && code == 0) = false := by simpa using coded
  split
  · next high => exact ready.writeInputRow_refuses (checkRow_timing hrow hflag hcode (readTiming_unknown high index))
  next timed =>
  split
  · next high =>
    obtain ⟨rfl, high⟩ := high
    exact ready.writeInputRow_refuses (checkRow_timing hrow hflag hcode (readTiming_high high))
  next indexed =>
  split
  · next unnamed =>
    obtain ⟨high, named⟩ := unnamed
    obtain ⟨time, htiming⟩ := readTiming_known timed indexed
    exact ready.writeInputRow_refuses (checkRow_preset hrow hflag hcode htiming (readPresetRef_none high named))
  · intro n time pr hn htime hpr other
    have htiming : readTiming timing index = .ok time := by
      rcases htime with ⟨rfl, rfl⟩ | ⟨i, rfl, hi, rfl⟩
      · rfl
      · exact readTiming_fixed hi
    have hpreset : readPresetRef preset = some pr := by
      rcases hpr with ⟨rfl, rfl⟩ | ⟨k, hk, rfl⟩
      · rfl
      · exact readPresetRef_number hk
    have run := ready.writeInputRow_writes (mask := mask) (checkRow_ok (readRow_eq hn) hflag hcode htiming hpreset) (s.writeRow_other other _)
    rw [byteOf_eq hn] at run
    exact run
end

section
/-! PROOFS. A new selection, and the rewrite of the selected row (O34). -/

namespace Sys2Proof.Machine

variable {s t : State} {n k : Fin 10} {m : SelectMethod} {new : RowConfig}

/-! ### The bytes of a Write Input Row (R74) -/

def Timing.bytes : Timing → List Byte
  | .auto => [0, 0]
  | .fixed i => [1, byteOf i.val]

/-- R74: the payload that writes row `n`. -/
def RowConfig.payload (new : RowConfig) (n : Fin 10) : List Byte :=
  [byteOf n.val, flagByte new.enabled, new.classCode, new.classMask] ++ new.timing.bytes ++ [presetRefByte new.preset]

theorem readRow_byteOf (n : Fin 10) : readRow (byteOf n.val) = some n := by revert n; decide

theorem readTiming_byteOf (i : Fin 16) : readTiming 1 (byteOf i.val) = .ok (.fixed i) := by revert i; decide

/-- R75: the payload of a legal row passes every check, and the request has the effect of the write. -/
theorem State.Ready.exec_rewrite (ready : s.Ready .facility) (coded : new.enabled = true → new.classCode ≠ 0) {code : Byte}
    {found : Option Resolution} (effect : s.writeRow n new = (t, code, found)) :
    exec (.writeInputRow .facility (new.payload n)) s = .next (t.answer .facility 0x22 (new.payload n)
      ⟨.ok, [byteOf n.val, code, inputRefByte t.selectedRow] ++ (found.map Resolution.bytes).getD []⟩) := by
  obtain ⟨enabled, code, mask, timing, preset⟩ := new
  have classed : (enabled && code == 0) = false := by cases enabled <;> simp_all
  have accepted {x y : Byte} (read : readTiming x y = .ok timing) :=
    checkRow_ok (mask := mask) (readRow_byteOf n) (readFlag_flagByte enabled) classed read (readPresetRef_byte preset)
  cases timing with
  | auto => exact ready.writeInputRow_writes (accepted rfl) effect
  | fixed i => exact ready.writeInputRow_writes (accepted (readTiming_byteOf i)) effect

/-! ### The table as it is written (R75) -/

theorem State.rewritten_row (s : State) (n : Fin 10) (new : RowConfig) (k : Fin 10) :
    (s.rewritten n new).row k = if k = n then { s.row n with config := new } else s.row k :=
  s.row_editRow n k fun r => { r with config := new }

theorem State.rewritten_row_self (s : State) (n : Fin 10) (new : RowConfig) :
    (s.rewritten n new).row n = { s.row n with config := new } := (s.rewritten_row n new n).trans (if_pos rfl)

/-- The table as it is written, with another status of row `n` and another ACQ. -/
def State.rewrittenAs (s : State) (n : Fin 10) (new : RowConfig) (status : AcqStatus) (acq : Acquisition) : State :=
  { s.rewritten n new with inputs := s.inputs.set n.val ⟨new, (s.row n).present, status⟩ n.isLt, acq := acq }

theorem State.rewritten_reported (s : State) (n : Fin 10) (new : RowConfig) (status : AcqStatus) (acq : Acquisition) :
    { (s.rewritten n new).reported n ((s.rewritten n new).row n).present status with acq := acq } = s.rewrittenAs n new status acq := by
  rw [State.reported, State.rewritten_row_self]
  simp only [State.rewrittenAs, State.rewritten, State.saveRows, State.editRow, Vector.set_set]

/-! ### The consequences (R76 to R79) -/

/-- R77, R78: the rewritten row keeps a selection of this method. -/
def RowConfig.Keeps (new : RowConfig) (m : SelectMethod) : Prop :=
  new.enabled = true ∧ ∀ c, m = .byClass c → c &&& new.classMask = new.classCode &&& new.classMask

theorem State.rewriteSelected_kept (keeps : new.Keeps m) (s : State) (old : RowConfig) :
    s.rewriteSelected ⟨n, m⟩ old new = ((s.rewriteKept ⟨n, m⟩ old new).1, (s.rewriteKept ⟨n, m⟩ old new).2, none) := by
  obtain ⟨enabled, matching⟩ := keeps
  cases m with
  | direct => simp only [State.rewriteSelected, enabled, Bool.not_true, Bool.false_eq_true, if_false]
  | byClass c =>
    have answers : new.answers c = true := (new.answers_iff c).mpr ⟨enabled, matching c rfl⟩
    simp only [State.rewriteSelected, enabled, answers, Bool.not_true, Bool.false_eq_true, if_false, if_true]

theorem State.rewriteSelected_disabled (disabled : new.enabled = false) (s : State) (old : RowConfig) :
    s.rewriteSelected ⟨n, m⟩ old new = (s.clearSelection 1, 1, none) := by
  simp only [State.rewriteSelected, disabled, Bool.not_false, if_true]

/-- R77: the rewritten row no longer matches the class that it was selected by, and another row does. -/
theorem State.rewriteSelected_moves {c : Byte} (enabled : new.enabled = true) (off : new.answers c = false)
    (found : (s.resolve c).row = some k) (old : RowConfig) :
    s.rewriteSelected ⟨n, .byClass c⟩ old new = (s.selectRow k (.byClass c), 2, some (s.resolve c)) := by
  simp only [State.rewriteSelected, enabled, off, found, Bool.not_true, Bool.false_eq_true, if_false]

theorem State.rewriteSelected_loses {c : Byte} (enabled : new.enabled = true) (off : new.answers c = false)
    (none : (s.resolve c).row = none) (old : RowConfig) :
    s.rewriteSelected ⟨n, .byClass c⟩ old new = (s.clearSelection 2, 3, some (s.resolve c)) := by
  simp only [State.rewriteSelected, enabled, off, none, Bool.not_true, Bool.false_eq_true, if_false]

theorem State.tellStatus_tilt (t : State) (n : Fin 10) (old new : AcqStatus) : (t.tellStatus n old new).tilt = t.tilt := by
  unfold State.tellStatus
  split <;> rfl

/-- R79: the preset of a row that stays selected. -/
theorem State.rewritePreset_eq {booking : Option (Fin 8)} (h : t.tilt.bookingPreset = booking) (old new : RowConfig) :
    t.rewritePreset old new = if new.preset = old.preset then t else t.handPresets booking new.preset false := by
  rw [State.rewritePreset, State.handRowPreset, h]

/-- R79: a rewrite that keeps the selection and the timing. -/
theorem State.writeRow_keeps (selected : s.acq.selected = some ⟨n, m⟩) (keeps : new.Keeps m) (same : new.timing = (s.row n).config.timing) :
    s.writeRow n new = ((s.rewritten n new).rewritePreset (s.row n).config new, 0, none) := by
  rw [State.writeRow_selected selected, State.rewriteSelected_kept keeps, State.rewriteKept, if_pos same]

/-- R78, R79: a rewrite that keeps the selection and changes the timing, by the state that the restart leaves. -/
theorem State.writeRow_restarts (selected : s.acq.selected = some ⟨n, m⟩) (keeps : new.Keeps m)
    (changed : new.timing ≠ (s.row n).config.timing) (restart : (s.rewritten n new).restartRow n m = t)
    (tilt : t.tilt = s.tilt) : s.writeRow n new = (if new.preset = (s.row n).config.preset then t
      else t.handPresets s.tilt.bookingPreset new.preset false, 4, none) := by
  rw [State.writeRow_selected selected, State.rewriteSelected_kept keeps, State.rewriteKept, if_neg changed, restart,
    State.rewritePreset_eq (congrArg Tilt.bookingPreset tilt)]

theorem State.rewritten_restartRow_auto (auto : new.timing = .auto) (s : State) (n : Fin 10) (m : SelectMethod) :
    (s.rewritten n new).restartRow n m = (s.rewrittenAs n new .acquiring s.acq.awaiting).tellStatus n (s.row n).status .acquiring := by
  have row := s.rewritten_row_self n new
  rw [State.restartRow_auto (by rw [row]; exact auto), State.rewritten_reported, row]
  rfl

theorem State.rewritten_restartRow_fixed {i : Fin 16} (fixed : new.timing = .fixed i) (s : State) (n : Fin 10) (m : SelectMethod) :
    (s.rewritten n new).restartRow n m = ((s.rewrittenAs n new .locked s.acq.settled).post (.inputSelected (some n))
      (16 + i.val + m.amount)).tellStatus n (s.row n).status .locked := by
  have row := s.rewritten_row_self n new
  rw [State.restartRow_fixed (by rw [row]; exact fixed), State.rewritten_reported, row]
  rfl

/-- R76: the selection becomes none. -/
theorem State.clearSelection_eq (row : s.selectedRow = some n) (cause : Nat) : s.clearSelection cause =
    (({ s.reported n (s.row n).present .idle with acq := { s.acq with selected := none, attempts := 0, window := none } } : State).post
      (.inputSelected none) cause).handPresets s.tilt.bookingPreset none true := by
  simp only [State.clearSelection, State.leaveRow, row]
  rfl

/-- R76: the table written and the selection none, told with this cause. -/
def State.rewrittenCleared (s : State) (n : Fin 10) (new : RowConfig) (cause : Nat) : State :=
  ((s.rewrittenAs n new .idle { s.acq with selected := none, attempts := 0, window := none }).post (.inputSelected none) cause).handPresets
    s.tilt.bookingPreset none true

theorem State.rewritten_clearSelection (row : s.selectedRow = some n) (new : RowConfig) (cause : Nat) :
    (s.rewritten n new).clearSelection cause = s.rewrittenCleared n new cause := by
  rw [State.clearSelection_eq (s := s.rewritten n new) row, State.rewritten_reported]
  rfl

theorem State.writeRow_disabled (selected : s.acq.selected = some ⟨n, m⟩) (disabled : new.enabled = false) :
    s.writeRow n new = (s.rewrittenCleared n new 1, 1, none) := by
  rw [State.writeRow_selected selected, State.rewriteSelected_disabled disabled,
    State.rewritten_clearSelection (State.selectedRow_of selected)]

/-! ### A new selection (R89, R90, R95, R117) -/

/-- R95: acquisition begins by the row's timing. -/
def Timing.startStatus (timing : Timing) : AcqStatus := if timing == .auto then .acquiring else .locked

/-- R95: the ACQ as the acquisition of a row of this timing begins. -/
def Acquisition.begun (x : Acquisition) (timing : Timing) : Acquisition := { x with
  attempts := if timing == .auto then 1 else 0
  window := if timing == .auto then some ⟨x.params.initialWindow, x.params.initialWindow⟩ else none }

theorem State.beginAcquisition_eq (s : State) (n : Fin 10) : s.beginAcquisition n =
    { s.reported n (s.row n).present (s.row n).config.timing.startStatus with acq := s.acq.begun (s.row n).config.timing } := by
  unfold State.beginAcquisition
  cases timing : (s.row n).config.timing <;> rfl

/-- The TGU does not look at the input table or the ACQ. -/
theorem State.handPresets_selected (s : State) (inputs : Vector InputRow 10) (acq : Acquisition) (booking row : Option (Fin 8)) (clear : Bool) :
    ({ s with inputs := inputs, acq := acq } : State).handPresets booking row clear =
      { s.handPresets booking row clear with inputs := inputs, acq := acq } := by
  simp only [State.handPresets, State.recomputeGeometry]
  repeat' split
  all_goals rfl

/-- R89, R95: the rows and the ACQ as the selection moves from row `n` to row `k`. -/
def State.moved (s : State) (n k : Fin 10) (m : SelectMethod) : State := { s with
  inputs := (s.inputs.set n.val { s.row n with status := .idle } n.isLt).set k.val
    { s.row k with status := (s.row k).config.timing.startStatus } k.isLt
  acq := Acquisition.begun { s.acq with selected := some ⟨k, m⟩, selLines := k, strobes := s.acq.strobes + 1 } (s.row k).config.timing }

/-- R89: row `n` left for row `k`, whose acquisition has not begun. -/
def State.left (s : State) (n k : Fin 10) (m : SelectMethod) : State := { s.reported n (s.row n).present .idle with
  acq := { s.acq with selected := some ⟨k, m⟩, selLines := k, strobes := s.acq.strobes + 1, window := none } }

theorem State.left_row (s : State) (other : k ≠ n) (m : SelectMethod) : (s.left n k m).row k = s.row k :=
  (s.row_set n k _).trans (if_neg other)

/-- R89, R117: the preset of the new row is handed on from the state that has left the old one, and the acquisition begins last. -/
theorem State.selectNew_left (row : s.selectedRow = some n) (other : k ≠ n) (m : SelectMethod) : s.selectNew k m =
    (((s.left n k m).handPresets s.tilt.bookingPreset (s.row k).config.preset true).postSelected k m).beginAcquisition k := by
  have row : State.selectedRow (State.strobe { s with acq.selLines := k }) = some n := row
  rw [← s.left_row other m]
  simp only [State.selectNew, State.leaveRow, row]
  rfl

theorem State.moved_handPresets (s : State) (n k : Fin 10) (m : SelectMethod) (booking row : Option (Fin 8)) (clear : Bool) :
    (s.moved n k m).handPresets booking row clear =
      { (s.left n k m).handPresets booking row clear with inputs := (s.moved n k m).inputs, acq := (s.moved n k m).acq } :=
  (s.left n k m).handPresets_selected _ _ booking row clear

/-- R89, R90, R95, R117: the state that the selection of another row leaves. -/
theorem State.selectNew_eq (row : s.selectedRow = some n) (other : k ≠ n) (m : SelectMethod) : s.selectNew k m =
    ((s.moved n k m).handPresets s.tilt.bookingPreset (s.row k).config.preset true).post (.inputSelected (some k))
      ((s.row k).config.timing.amount + m.amount) := by
  have inputs := (s.left n k m).handPresets_inputs s.tilt.bookingPreset (s.row k).config.preset true
  have acq := (s.left n k m).handPresets_acq s.tilt.bookingPreset (s.row k).config.preset true
  have rows := (congrFun (State.row_congr inputs) k).trans (s.left_row other m)
  rw [State.selectNew_left row other, State.moved_handPresets, State.beginAcquisition_eq]
  simp only [State.postSelected, State.reported, State.post_row, State.post_inputs, State.post_acq, rows, inputs, acq]
  rfl

theorem State.selectRow_new (row : s.selectedRow = some n) (other : k ≠ n) (m : SelectMethod) : s.selectRow k m = s.selectNew k m :=
  if_neg fun same => other (Option.some.inj (same.symm.trans row))

/-! ### A class that moves on (R77) -/

/-- R77: the table written and the selection moved from row `n` to row `k`. -/
def State.rewrittenMoved (s : State) (n k : Fin 10) (new : RowConfig) (m : SelectMethod) : State := { s.rewritten n new with
  inputs := (s.inputs.set n.val ⟨new, (s.row n).present, .idle⟩ n.isLt).set k.val
    { s.row k with status := (s.row k).config.timing.startStatus } k.isLt
  acq := Acquisition.begun { s.acq with selected := some ⟨k, m⟩, selLines := k, strobes := s.acq.strobes + 1 } (s.row k).config.timing }

theorem State.rewritten_row_other (other : k ≠ n) (s : State) (new : RowConfig) : (s.rewritten n new).row k = s.row k :=
  (s.rewritten_row n new k).trans (if_neg other)

theorem State.rewritten_moved (other : k ≠ n) (s : State) (new : RowConfig) (m : SelectMethod) :
    (s.rewritten n new).moved n k m = s.rewrittenMoved n k new m := by
  rw [State.moved, State.rewritten_row_self, State.rewritten_row_other other]
  simp only [State.rewrittenMoved, State.rewritten, State.saveRows, State.editRow, Vector.set_set]

theorem State.rewritten_selectRow (row : s.selectedRow = some n) (other : k ≠ n) (new : RowConfig) (m : SelectMethod) :
    (s.rewritten n new).selectRow k m =
      ((s.rewrittenMoved n k new m).handPresets s.tilt.bookingPreset (s.row k).config.preset true).post (.inputSelected (some k))
        (m.amount + (s.row k).config.timing.amount) := by
  have row : (s.rewritten n new).selectedRow = some n := row
  rw [State.selectRow_new row other, State.selectNew_eq row other, State.rewritten_moved other, State.rewritten_row_other other,
    Nat.add_comm]
  rfl

/-- R77, R81: a class that the written row does not match resolves to another row. -/
theorem State.rewritten_resolve_ne {c : Byte} (off : new.answers c = false) (found : ((s.rewritten n new).resolve c).row = some k) :
    k ≠ n := by
  rintro rfl
  have answers := State.resolve_answers found
  rw [State.rewritten_row_self, off] at answers
  exact absurd answers nofun

theorem State.writeRow_moves {c : Byte} (selected : s.acq.selected = some ⟨n, .byClass c⟩) (enabled : new.enabled = true)
    (off : new.answers c = false) (found : ((s.rewritten n new).resolve c).row = some k) : s.writeRow n new =
      (((s.rewrittenMoved n k new (.byClass c)).handPresets s.tilt.bookingPreset (s.row k).config.preset true).post
        (.inputSelected (some k)) (32 + (s.row k).config.timing.amount), 2, some ((s.rewritten n new).resolve c)) := by
  rw [State.writeRow_selected selected, State.rewriteSelected_moves enabled off found,
    State.rewritten_selectRow (State.selectedRow_of selected) (State.rewritten_resolve_ne off found)]
  rfl

theorem State.writeRow_loses {c : Byte} (selected : s.acq.selected = some ⟨n, .byClass c⟩) (enabled : new.enabled = true)
    (off : new.answers c = false) (none : ((s.rewritten n new).resolve c).row = none) : s.writeRow n new =
      (s.rewrittenCleared n new 2, 3, some ((s.rewritten n new).resolve c)) := by
  rw [State.writeRow_selected selected, State.rewriteSelected_loses enabled off none,
    State.rewritten_clearSelection (State.selectedRow_of selected)]

end Sys2Proof.Machine

open Sys2Proof Sys2Proof.Machine in
/-- Settles O34: each consequence is the write of the table followed by the equation of what it does to the selection. -/
theorem rewriteOfTheSelectedRow : Obligations.RewriteOfTheSelectedRow := by
  intro s n m new ready selected coded
  refine ⟨fun keeps same => ?same, fun keeps changed => ⟨fun auto => ?auto, fun i fixed => ?fixed⟩, fun disabled => ?disabled,
    fun c hm enabled off => ⟨fun k found => ?moves, fun none => ?loses⟩⟩
  case same => exact ready.exec_rewrite coded (State.writeRow_keeps selected keeps same)
  case auto =>
    exact ready.exec_rewrite coded (State.writeRow_restarts selected keeps changed (State.rewritten_restartRow_auto auto s n m)
      (State.tellStatus_tilt _ _ _ _))
  case fixed =>
    exact ready.exec_rewrite coded (State.writeRow_restarts selected keeps changed (State.rewritten_restartRow_fixed fixed s n m)
      (State.tellStatus_tilt _ _ _ _))
  case disabled => exact ready.exec_rewrite coded (State.writeRow_disabled selected disabled)
  case moves =>
    subst hm
    have off := Bool.eq_false_iff.mpr fun answers => off ((new.answers_iff c).mp answers).2
    exact ⟨State.rewritten_resolve_ne off found, ready.exec_rewrite coded (State.writeRow_moves selected enabled off found)⟩
  case loses =>
    subst hm
    have off := Bool.eq_false_iff.mpr fun answers => off ((new.answers_iff c).mp answers).2
    exact ready.exec_rewrite coded (State.writeRow_loses selected enabled off none)
end

section
/-! PROOFS. The expiry of the attempt window (O30). -/

namespace Sys2Proof.Machine

variable {s : State} {x : Selection} {w : AttemptWindow}

/-- R88, R97: attempts remain, so the window doubles, up to its greatest length, and the engine is asked again. -/
theorem State.windowExpiry_retries (selected : s.acq.selected = some x) (window : s.acq.window = some w)
    (status : (s.row x.row).status = .acquiring) (more : s.acq.attempts < s.acq.params.attemptLimit) :
    s.windowExpiry = ({ s with acq := { s.acq with
      attempts := s.acq.attempts + 1, strobes := s.acq.strobes + 1
      window := some ⟨min 8000 (2 * w.length), min 8000 (2 * w.length)⟩ } } : State).post
        (.resyncRequest x.row) (s.acq.attempts + 1) := by
  simp only [State.windowExpiry, State.selectedRow_of selected, window, status, more, if_true]
  rfl

/-- R97: no attempt remains. -/
theorem State.windowExpiry_gives_up (selected : s.acq.selected = some x) (window : s.acq.window = some w)
    (status : (s.row x.row).status = .acquiring) (last : s.acq.params.attemptLimit ≤ s.acq.attempts) :
    s.windowExpiry = ({ s.reported x.row (s.row x.row).present .noSignal with acq := { s.acq with window := none } } : State).post
      (.acquisition x.row) 3 := by
  simp only [State.windowExpiry, State.selectedRow_of selected, window, status, Nat.not_lt.mpr last, if_true, if_false]
  rfl

end Sys2Proof.Machine

open Sys2Proof Sys2Proof.Machine in
/-- Settles O30: the expiry reaches the ACQ of a part with power, whose two cases are the two equations above. -/
theorem attemptWindowExpiry : Obligations.AttemptWindowExpiry := by
  intro s powered x w selected window status
  have run : exec .acquisitionWindowExpiry s = .next s.windowExpiry := carry_powered State.windowExpiry powered
  refine ⟨fun more => ?_, fun last => ?_⟩
  · rw [run, State.windowExpiry_retries selected window status more]
  · rw [run, State.windowExpiry_gives_up selected window status last]
    rfl
end

section
/-! PROOFS. Select Input and Select Class (O29). -/

namespace Sys2Proof.Machine

variable {s : State} {p : Port} {x : Byte} {n : Fin 10} {m : SelectMethod}

/-! ### The two requests (R91, R92) -/

theorem panelAndFacility_contains (port : p ≠ .engine) : panelAndFacility.contains p = true := by
  cases p
  exacts [rfl, rfl, absurd rfl port]

theorem State.Admits.exec_selectInput (h : s.Admits p .selectInput [x]) (port : p ≠ .engine) {a : State × Answer}
    (answer : Machine.selectInput [x] s = a) : exec (.selectInput p [x]) s = .next (a.1.answer p 0x20 [x] a.2) := by
  subst answer
  exact h.1.exec_request .selectInput (d := [x]) ⟨0x20, .selectInput, panelAndFacility, 1⟩ rfl rfl
    (panelAndFacility_contains port) rfl (by simp) h.2

theorem State.Admits.exec_selectClass (h : s.Admits p .selectClass [x]) (port : p ≠ .engine) {a : State × Answer}
    (answer : Machine.selectClass [x] s = a) : exec (.selectClass p [x]) s = .next (a.1.answer p 0x21 [x] a.2) := by
  subst answer
  exact h.1.exec_request .selectClass (d := [x]) ⟨0x21, .selectClass, panelAndFacility, 1⟩ rfl rfl
    (panelAndFacility_contains port) rfl (by simp) h.2

theorem selectInput_high (high : 10 ≤ x.toNat) (s : State) : selectInput [x] s = (s, badArgument) := by
  simp only [selectInput, readRow_none high]

theorem selectInput_disabled (row : n.val = x.toNat) (disabled : (s.row n).config.enabled = false) :
    selectInput [x] s = (s, ⟨.refusedState, []⟩) := by
  simp only [selectInput, readRow_eq row, disabled, Bool.false_eq_true, if_false]

theorem selectInput_enabled (row : n.val = x.toNat) (enabled : (s.row n).config.enabled = true) :
    selectInput [x] s = (s.selectRow n .direct, ⟨s.selectStatus n, (s.selectRow n .direct).selectionBytes⟩) := by
  simp only [selectInput, readRow_eq row, enabled, if_true]

theorem selectClass_zero (s : State) : selectClass [0] s = (s, badArgument) := rfl

theorem selectClass_none (named : x ≠ 0) (none : (s.resolve x).row = none) : selectClass [x] s = (s, ⟨.noMatch, []⟩) := by
  simp only [selectClass, named, none, if_false]

theorem selectClass_found (named : x ≠ 0) (found : (s.resolve x).row = some n) : selectClass [x] s =
    (s.selectRow n (.byClass x),
      ⟨s.selectStatus n, (s.resolve x).bytes ++ (s.selectRow n (.byClass x)).selectionBytes⟩) := by
  simp only [selectClass, named, found, if_false]

/-- R83, R177: the resolution record of a class that some row matches. -/
theorem State.resolve_bytes (found : (s.resolve x).row = some n) : (s.resolve x).bytes =
    [x, byteOf n.val, byteOf (s.resolve x).count, flagByte (s.resolve x).ambiguous, flagByte (s.row n).present] := by
  have present : (s.resolve x).present = (s.row n).present := by
    show ((s.resolve x).row.map fun k => (s.row k).present).getD false = _
    rw [found]
    rfl
  rw [Resolution.bytes, present, found]
  rfl

/-! ### What an accepted selection answers (R91, R177) -/

theorem State.answer_ports (t : State) (p : Port) (code : Byte) (d : List Byte) (a : Answer) : (t.answer p code d a).ports =
    t.ports.set p ⟨.replying, keptFrame code d, none, replyFrame code a⟩ := rfl

/-- R95, R177: the status byte of a row whose acquisition has begun. -/
theorem Timing.startStatus_byte (timing : Timing) : byteOf timing.startStatus.number = if timing == .auto then 1 else 2 := by
  cases timing <;> rfl

/-- R177: the selection method byte. -/
def SelectMethod.byte : SelectMethod → Byte
  | .direct => 0
  | .byClass c => c

theorem State.selectionBytes_eq {t : State} (selected : t.acq.selected = some ⟨n, m⟩) :
    t.selectionBytes = [byteOf n.val, byteOf (t.row n).status.number, m.byte] := by
  have row := State.selectedRow_of selected
  have method : methodByte t.acq.selected = m.byte := by
    rw [selected]
    cases m <;> rfl
  rw [State.selectionBytes, State.selectedStatus, row, method]
  rfl

theorem State.selectStatus_new (new : s.selectedRow ≠ some n) :
    s.selectStatus n = if (s.row n).config.timing == .auto then .accepted else .ok := by
  simp [State.selectStatus, new]

theorem State.selectStatus_kept (row : s.selectedRow = some n) (signal : (s.row n).status ≠ .noSignal) : s.selectStatus n = .ok := by
  simp [State.selectStatus, row, signal]

theorem State.selectStatus_restarted (status : (s.row n).status = .noSignal) (auto : (s.row n).config.timing = .auto) :
    s.selectStatus n = .accepted := by
  simp [State.selectStatus, status, auto]

/-- R91, R92: command `c`, a request of this code on port `p`, selects row `n` by method `m`; its reply tells `found` first. -/
def State.Chooses (s : State) (c : Instr) (p : Port) (code x : Byte) (n : Fin 10) (m : SelectMethod) (found : List Byte) : Prop :=
  exec c s = .next ((s.selectRow n m).answer p code [x] ⟨s.selectStatus n, found ++ (s.selectRow n m).selectionBytes⟩)

theorem State.Admits.selectInput_chooses (h : s.Admits p .selectInput [x]) (port : p ≠ .engine) (row : n.val = x.toNat)
    (enabled : (s.row n).config.enabled = true) : s.Chooses (.selectInput p [x]) p 0x20 x n .direct [] :=
  h.exec_selectInput port (selectInput_enabled row enabled)

theorem State.Admits.selectClass_chooses (h : s.Admits p .selectClass [x]) (port : p ≠ .engine) (named : x ≠ 0)
    (found : (s.resolve x).row = some n) : s.Chooses (.selectClass p [x]) p 0x21 x n (.byClass x)
      [x, byteOf n.val, byteOf (s.resolve x).count, flagByte (s.resolve x).ambiguous, flagByte (s.row n).present] := by
  have run := h.exec_selectClass port (selectClass_found named found)
  rw [State.resolve_bytes found] at run
  exact run

/-- R91, R177: the whole answer, by the state and the row that the selection leaves and the status of the reply. -/
theorem State.Chooses.exec_eq {c : Instr} {code : Byte} {found : List Byte} (chooses : s.Chooses c p code x n m found) {t : State}
    {st : AcqStatus} {reply : Status} (effect : s.selectRow n m = t) (left : (t.row n).status = st) (answered : s.selectStatus n = reply) :
    exec c s = .next (t.answer p code [x] ⟨reply, found ++ [byteOf n.val, byteOf st.number, m.byte]⟩) := by
  have selected := s.selectRow_selected n m
  rw [effect] at selected
  rw [chooses, effect, State.selectionBytes_eq selected, left, answered]

/-! ### The selected row (R94) -/

/-- R94: the selected row `n`, now selected by method `m`. -/
def State.rechosen (s : State) (n : Fin 10) (m : SelectMethod) : State := { s with acq := { s.acq with selected := some ⟨n, m⟩ } }

theorem State.rechosen_row (s : State) (n : Fin 10) (m : SelectMethod) : (s.rechosen n m).row = s.row := rfl

theorem State.selectRow_kept (row : s.selectedRow = some n) (signal : (s.row n).status ≠ .noSignal) (m : SelectMethod) :
    s.selectRow n m = s.rechosen n m := by
  rw [State.selectRow, if_pos row]
  exact if_neg signal

/-- R94, R95, R101: an AUTO row without signal is restarted. -/
theorem State.selectRow_restarts (row : s.selectedRow = some n) (status : (s.row n).status = .noSignal)
    (auto : (s.row n).config.timing = .auto) (m : SelectMethod) : s.selectRow n m =
      State.post { s.reported n (s.row n).present .acquiring with acq := { s.acq.awaiting with selected := some ⟨n, m⟩ } }
        (.acquisition n) 1 := by
  have again : s.selectRow n m = (s.rechosen n m).restartRow n m := by
    rw [State.selectRow, if_pos row]
    exact if_pos status
  rw [again, State.restartRow_auto (s := s.rechosen n m) auto, State.rechosen_row, status]
  rfl

/-! ### A row that is not selected (R89, R90, R95, R117) -/

/-- R117: the row preset and the index that it gives taken, the session trims cleared, the geometry recomputed. -/
def State.takingPreset (s : State) (preset : Option (Fin 8)) : State := State.recomputeGeometry { s with tilt := { s.tilt with
  rowPreset := preset, index := (s.tilt.bookingPreset.or preset).getD 0, trims := noTrims } }

theorem State.handSelection_eq (s : State) (preset : Option (Fin 8)) : s.handSelection preset = s.takingPreset preset := by
  simp only [State.handSelection, State.handPresets, Bool.or_true, if_true]
  rfl

/-- R89: the row that the selection leaves, if there is one, becomes IDLE. -/
theorem State.leaveRow_row (s : State) (k : Fin 10) : s.leaveRow.row k =
    { s.row k with status := if s.selectedRow = some k then .idle else (s.row k).status } := by
  unfold State.leaveRow
  split
  · next none => rw [none, if_neg nofun]
  · next old row =>
    refine (s.row_setStatus old k .idle).trans ?_
    rw [row]
    by_cases same : k = old
    · subst same
      simp
    · simp [same, Ne.symm same]

/-- R88, R89: row `n` on the SEL lines, SEL-STROBE pulsed, the old row left and row `n` selected; its acquisition has not begun. -/
def State.departed (s : State) (n : Fin 10) (m : SelectMethod) : State :=
  let t := (State.strobe { s with acq := { s.acq with selLines := n } }).leaveRow
  { t with acq := { t.acq with selected := some ⟨n, m⟩ } }

theorem State.departed_row (s : State) (n : Fin 10) (m : SelectMethod) (k : Fin 10) : (s.departed n m).row k =
    { s.row k with status := if s.selectedRow = some k then .idle else (s.row k).status } :=
  (State.strobe { s with acq := { s.acq with selLines := n } }).leaveRow_row k

/-- Up to there nothing but the rows and the ACQ is written. -/
theorem State.departed_eq (s : State) (n : Fin 10) (m : SelectMethod) :
    s.departed n m = { s with inputs := (s.departed n m).inputs, acq := (s.departed n m).acq } := by
  unfold State.departed State.leaveRow
  split <;> rfl

/-- R89, R95: the ACQ as the selection moves to row `n`, whose timing is this. -/
def Acquisition.choosing (x : Acquisition) (n : Fin 10) (m : SelectMethod) (timing : Timing) : Acquisition :=
  Acquisition.begun { x with selected := some ⟨n, m⟩, selLines := n, strobes := x.strobes + 1 } timing

/-- R95: the beginning of the acquisition writes the window, whether or not the old row had one. -/
theorem State.departed_begun (s : State) (n : Fin 10) (m : SelectMethod) (timing : Timing) :
    (s.departed n m).acq.begun timing = s.acq.choosing n m timing := by
  unfold State.departed State.leaveRow
  split <;> rfl

theorem State.departed_handSelection (s : State) (n : Fin 10) (m : SelectMethod) (preset : Option (Fin 8)) :
    (s.departed n m).handSelection preset =
      { s.handSelection preset with inputs := (s.departed n m).inputs, acq := (s.departed n m).acq } := by
  rw [State.departed_eq]
  exact s.handPresets_selected _ _ _ _ _

/-- R89, R90, R95, R117: what the selection of row `n` leaves: the preset handed on, INPUT-SELECTED posted, the acquisition begun. -/
def State.newlySelected (s : State) (n : Fin 10) (m : SelectMethod) : State :=
  { (s.takingPreset (s.row n).config.preset).post (.inputSelected (some n)) ((s.row n).config.timing.amount + m.amount) with
    inputs := (s.departed n m).inputs.set n.val { s.row n with status := (s.row n).config.timing.startStatus } n.isLt
    acq := s.acq.choosing n m (s.row n).config.timing }

theorem State.selectRow_new_eq (new : s.selectedRow ≠ some n) (m : SelectMethod) : s.selectRow n m = s.newlySelected n m := by
  have row : (s.departed n m).row n = s.row n := by rw [State.departed_row, if_neg new]
  have stages : s.selectRow n m = (((s.departed n m).handSelection ((s.departed n m).row n).config.preset).postSelected n
    m).beginAcquisition n := if_neg new
  have handed : ((s.departed n m).handSelection (s.row n).config.preset).row n = s.row n := by
    rw [State.departed_handSelection]
    exact row
  rw [stages, row, State.beginAcquisition_eq]
  simp only [State.postSelected, State.post_row, handed, State.reported, State.post_acq, State.post_inputs]
  rw [State.departed_handSelection, State.departed_begun, State.handSelection_eq]
  rfl

/-- R71, R89, R95: the rows after the selection of another row. -/
theorem State.newlySelected_row (s : State) (n : Fin 10) (m : SelectMethod) (k : Fin 10) : (s.newlySelected n m).row k =
    { s.row k with status := if k = n then (s.row n).config.timing.startStatus
      else if s.selectedRow = some k then .idle else (s.row k).status } := by
  refine ((s.departed n m).row_set n k _).trans ?_
  split
  · next same => rw [same]
  · exact s.departed_row n m k

theorem State.newlySelected_tilt (s : State) (n : Fin 10) (m : SelectMethod) :
    (s.newlySelected n m).tilt = (s.takingPreset (s.row n).config.preset).tilt := rfl

theorem State.newlySelected_queues (s : State) (n : Fin 10) (m : SelectMethod) : (s.newlySelected n m).queues =
    ((s.takingPreset (s.row n).config.preset).post (.inputSelected (some n)) ((s.row n).config.timing.amount + m.amount)).queues := rfl

theorem State.newlySelected_ports (s : State) (n : Fin 10) (m : SelectMethod) : (s.newlySelected n m).ports = s.ports := by
  simp [State.newlySelected, State.takingPreset]

theorem State.newlySelected_status (s : State) (n : Fin 10) (m : SelectMethod) :
    ((s.newlySelected n m).row n).status = (s.row n).config.timing.startStatus := by
  rw [State.newlySelected_row, if_pos rfl]

end Sys2Proof.Machine

open Sys2Proof Sys2Proof.Machine in
/-- Settles O29: both requests come to one selection of a row, which is new, or is the selected one with or without a signal. -/
theorem selections : Obligations.Selections := by
  intro s p x port
  refine ⟨fun admits => ⟨fun high => ?_, fun n row disabled => ?_⟩, fun admits => ⟨?_, fun named none => ?_⟩,
    fun c code n m found request => ?_⟩
  · exact admits.exec_selectInput port (selectInput_high high s)
  · exact admits.exec_selectInput port (selectInput_disabled row disabled)
  · rintro rfl
    exact admits.exec_selectClass port (selectClass_zero s)
  · exact admits.exec_selectClass port (selectClass_none named none)
  have chooses : s.Chooses c p code x n m found := by
    rcases request with ⟨rfl, rfl, admits, row, rfl, rfl, enabled⟩ | ⟨rfl, rfl, admits, named, resolved, rfl, rfl⟩
    exacts [admits.selectInput_chooses port row enabled, admits.selectClass_chooses port named resolved]
  refine ⟨fun new => ?new, fun row => ⟨fun signal => ?kept, fun status auto => ?restarted⟩⟩
  case new =>
    have run := chooses.exec_eq (State.selectRow_new_eq new m) (s.newlySelected_status n m) (State.selectStatus_new new)
    rw [Timing.startStatus_byte] at run
    refine ⟨_, run, rfl, s.newlySelected_row n m, s.newlySelected_tilt n m, ?queues, ?ports, ?_, ?_, ?_, ?_, ?_, ?_, ?_, ?_, ?_⟩
    case queues =>
      refine (s.newlySelected_queues n m).trans (congrArg (fun value => State.queues (State.post _ _ value)) ?_)
      cases (s.row n).config.timing <;> cases m <;> rfl
    case ports =>
      rw [State.answer_ports, State.newlySelected_ports]
      cases m <;> rfl
    all_goals simp [State.newlySelected, State.takingPreset]
  case kept =>
    have run := chooses.exec_eq (State.selectRow_kept row signal m) rfl (State.selectStatus_kept row signal)
    cases m <;> exact run
  case restarted =>
    have run := chooses.exec_eq (State.selectRow_restarts row status (eq_of_beq auto) m)
      (congrArg InputRow.status (s.reported_row n _ .acquiring)) (State.selectStatus_restarted status (eq_of_beq auto))
    cases m <;> exact run
end

section
/-! PROOFS. What keeps a property that rests on the TGU, the LKU and the notice queues: the lamps, the PDU and the selection. -/

namespace Sys2Proof.Machine

/-- `t` has the TGU, its saved calibration, the LKU and the notice queues of `s`. -/
structure State.SameDesk (s t : State) : Prop where
  tilt : t.tilt = s.tilt
  calibration : t.store.calibration = s.store.calibration
  lockout : t.lockout = s.lockout
  queues : t.queues = s.queues

/-- R171: the requests that the TGU carries out and that change it, but for the clearing of the session trims. -/
def geometryRequests : List Request := [.nudgeCorner, .writePreset, .storeSessionTrims, .setKeystoneCalibration, .armHoming]

/-- A property of the state that rests on the TGU, its saved calibration, the LKU and the notice queues alone, and that each operation of
theirs keeps. -/
structure KeptByDesk (P : State → Prop) : Prop extends KeptByRestore P where
  frame : ∀ {s t : State}, P s → s.SameDesk t → P t
  post : ∀ {s : State} (topic : Topic) (value : Nat), P s → P (s.post topic value)
  admission : ∀ {s : State} (p : Port) (topic : Topic) (value : BitVec 16), P s → P (s.takeHanded p topic value)
  takeNotice : ∀ {s : State} (p : Port) (d : List Byte), P s → P (takeNotice p d s).1
  setNoticeMask : ∀ {s : State} (p : Port) (d : List Byte), P s → P (setNoticeMask p d s).1
  lockout : ∀ {s : State} (x : Lockout), P s → P (s.setLockout x)
  trims : ∀ {s : State}, P s → P s.clearTrims
  presets : ∀ {s : State} (booking row : Option (Fin 8)) (clear : Bool), P s → P (s.handPresets booking row clear)
  geometry : ∀ {s : State} {r : Request} (p : Port) (d : List Byte), r ∈ geometryRequests → P s → P (owner r p d s).1
  encoder : ∀ {s : State} (ta tb : Bool), P s → P (s.encoderPassage ta tb)
  index : ∀ {s : State}, P s → P s.indexPulse
  settling : ∀ {s : State}, P s → P s.settleExpiry
  elapse : ∀ {s : State}, P s → P s.elapseTimers
  service : ∀ {s : State}, P s → P s.serviceBlocks
  factory : ∀ {s t : State}, P s → P t → P { t.factoryLamps.factorySelection.factoryGeometry.clearQueues with handed := s.handed }

namespace KeptByDesk

variable {P : State → Prop} (h : KeptByDesk P)
include h

/-! ### Changes of a lamp -/

theorem moveLamp {w : Work} (l : Lamp) (c : LampCondition) (hw : P w.s) : P (w.moveLamp l c).s := by
  have moved : P ((w.s.setCondition l c).post (.lampState l) c.state.number) := h.post _ _ (h.frame hw ⟨rfl, rfl, rfl, rfl⟩)
  simp only [Work.moveLamp, Work.edit_s]
  split
  exacts [h.frame moved ⟨rfl, rfl, rfl, rfl⟩, moved]

theorem changeLamp {w : Work} (l : Lamp) (c : LampCondition) (hw : P w.s) : P (w.changeLamp l c).s := h.moveLamp l c hw

theorem setCondition {s : State} (l : Lamp) (c : LampCondition) (hs : P s) : P (s.setCondition l c) :=
  h.frame hs ⟨rfl, rfl, rfl, rfl⟩

theorem abandonStrike {w : Work} (l : Lamp) (hw : P w.s) : P (w.abandonStrike l).s := by
  unfold Work.abandonStrike
  split
  exacts [h.setCondition l _ hw, h.moveLamp l _ hw, hw, hw, hw, hw]

theorem recomputeLife {w : Work} (l : Lamp) (hw : P w.s) : P (w.recomputeLife l).s := by
  have computed : P (w.s.recomputeLife l) := by
    unfold State.recomputeLife
    simp only
    split
    exacts [hw, h.post _ _ (h.frame hw ⟨rfl, rfl, rfl, rfl⟩)]
  unfold Work.recomputeLife
  simp only
  repeat' split
  exacts [computed, h.abandonStrike (w := (w.edit fun s => s.recomputeLife l).hand (.lifeChanged l)) l computed, computed]

theorem pulse {w : Work} (l : Lamp) (hw : P w.s) : P (w.pulse l).s := by
  have charged := h.recomputeLife (w := w.edit fun s => s.setAccount l ((s.account l).chargePulse s.accounts.weights)) l
    (h.frame hw ⟨rfl, rfl, rfl, rfl⟩)
  unfold Work.pulse
  simp only
  split
  exacts [charged, charged]

theorem beginStrike {w : Work} (l : Lamp) (hw : P w.s) : P (w.beginStrike l).s := h.pulse l (h.changeLamp l _ hw)

theorem fail {w : Work} (l : Lamp) (cause : Nat) (hw : P w.s) : P (w.fail l cause).s :=
  h.changeLamp (w := w.edit fun s => s.post (.lampFailed l) cause) l _ (h.post _ _ hw)

/-! ### The PDU (R28, R33, R60) -/

theorem strike (l : Lamp) {w : Work} (hw : P w.s) : P (w.strike l).s := by
  unfold Work.strike
  split
  · split
    exacts [h.beginStrike l hw, hw]
  exacts [hw, hw, hw, h.setCondition l _ hw, hw]

theorem stop (l : Lamp) {w : Work} (hw : P w.s) : P (w.stop l).s := by
  unfold Work.stop
  split
  exacts [h.changeLamp l _ hw, h.changeLamp l _ hw, h.changeLamp l _ hw, h.setCondition l _ hw, hw, hw]

theorem lightAtOpening (l : Lamp) {w : Work} (hw : P w.s) : P (w.lightAtOpening l).s := by
  unfold Work.lightAtOpening
  split
  · split
    exacts [h.changeLamp l _ hw, hw]
  all_goals exact hw

theorem pdu : KeptByPdu fun w => P w.s where
  power _ hw := h.frame hw ⟨rfl, rfl, rfl, rfl⟩
  post _ _ hw := h.post _ _ hw
  hand _ hw := hw
  trims hw := h.trims hw
  zeroed hw := h.frame hw ⟨rfl, rfl, rfl, rfl⟩
  strike l _ hw := h.strike l hw
  stop l _ hw := h.stop l hw
  opening l _ hw := h.lightAtOpening l hw

theorem take (x : Handoff) (w : Work) (hw : P w.s) : P (w.take x).s := by
  have changed (d : Demand) : P (w.changeDemand d).s := h.pdu.changeDemand (h.frame hw ⟨rfl, rfl, rfl, rfl⟩)
  have converted : P w.convertClaim.s := by
    unfold Work.convertClaim
    simp only
    repeat' split
    exacts [hw, changed _, changed _]
  have bare : P (w.takeBare x).s := by
    cases claims : x.claims with
    | false => exact h.pdu.takeBare claims hw
    | true =>
      cases x with
      | addClaim c => exact changed _
      | removeClaim c => exact changed _
      | convert => exact converted
      | _ => cases claims
  exact h.pdu.follow _ bare

theorem run (n : Nat) {w : Work} (hw : P w.s) : P (Work.run n w) := Work.run_keeps P h.take n w hw

theorem settle {f : Work → Work} {s : State} (hf : P (f ⟨s, []⟩).s) : P (s.settle f) := h.run _ hf

theorem handPower (x : Handoff) {s : State} (hs : P s) : P (s.handPower x) := h.settle (f := fun w => w.hand x) hs

theorem setBlank {s : State} (on : Bool) (hs : P s) : P (s.setBlank on) := h.pdu.setBlank (w := ⟨s, []⟩) on hs

theorem followBlankTimer {s : State} (hs : P s) : P s.followBlankTimer := h.frame hs ⟨by simp, by simp, by simp, by simp⟩

/-! ### Lamp events -/

theorem windowExpiry {w : Work} (l : Lamp) (hw : P w.s) : P (w.windowExpiry l).s := by
  unfold Work.windowExpiry
  split
  · repeat' split
    exacts [h.moveLamp l _ hw, h.setCondition l _ hw, h.fail l 1 hw]
  all_goals exact hw

theorem retryExpiry {w : Work} (l : Lamp) (hw : P w.s) : P (w.retryExpiry l).s := by
  unfold Work.retryExpiry
  split
  · next attempts _ _ =>
    split
    · exact h.pulse (w := w.edit fun s => s.setCondition l (.window (attempts + 1) Config.ignitionWindow false)) l
        (h.setCondition l _ hw)
    · exact h.fail l 1 hw
  all_goals exact hw

theorem coolDownExpiry {w : Work} (l : Lamp) (hw : P w.s) : P (w.coolDownExpiry l).s := by
  unfold Work.coolDownExpiry
  split
  · repeat' split
    exacts [h.beginStrike l hw, h.moveLamp l _ hw, h.changeLamp l _ hw]
  all_goals exact hw

theorem fanTimeEnd {w : Work} (l : Lamp) (hw : P w.s) : P (w.fanTimeEnd l).s := by
  unfold Work.fanTimeEnd
  split
  · split
    exacts [hw, h.setCondition l _ hw]
  all_goals exact hw

theorem dropout {w : Work} (l : Lamp) (hw : P w.s) : P (w.dropout l).s := by
  let charged (n : Nat) : Work := w.edit fun s => (s.setSessionDropouts l n).setAccount l (s.account l).chargeDropout
  have counted (n : Nat) : P (charged n).s := h.frame hw ⟨rfl, rfl, rfl, rfl⟩
  unfold Work.dropout
  simp only
  split
  exacts [h.changeLamp (w := charged _) l _ (counted _), h.fail (w := charged _) l 2 (counted _)]

theorem litRise {w : Work} (l : Lamp) (hw : P w.s) : P (w.litRise l).s := by
  have risen : P (w.edit fun s => { s with lines.lit := s.lines.lit.set l true }).s := h.frame hw ⟨rfl, rfl, rfl, rfl⟩
  unfold Work.litRise
  simp only
  split
  exacts [h.changeLamp l _ risen, risen, h.post _ _ risen, h.post _ _ risen, h.post _ _ risen]

theorem litFall {w : Work} (l : Lamp) (hw : P w.s) : P (w.litFall l).s := by
  have fallen : P (w.edit fun s => { s with lines.lit := s.lines.lit.set l false }).s := h.frame hw ⟨rfl, rfl, rfl, rfl⟩
  unfold Work.litFall
  simp only
  split
  exacts [h.dropout l fallen, fallen]

theorem senseLit {s : State} (l : Lamp) (level : Bool) (hs : P s) : P (s.senseLit l level) := by
  unfold State.senseLit
  split
  · exact hs
  · split
    · refine h.settle (f := fun w => if level then w.litRise l else w.litFall l) ?_
      cases level
      exacts [h.litFall (w := ⟨s, []⟩) l hs, h.litRise (w := ⟨s, []⟩) l hs]
    · exact h.frame hs ⟨rfl, rfl, rfl, rfl⟩

theorem thermalTrip {s : State} (hs : P s) : P (s.settle Work.thermalTrip) := by
  have told (t : State) (ht : P t) : P (forLamps s.burning (fun l s => s.post (.lampState l) LampState.cooling.number) t) :=
    forLamps_keeps P _ _ _ (fun _ _ ht => h.post _ _ ht) ht
  have tripped : P (State.post { s.mapConditions (·.tripped s.lamps.params.coolDown) with lamps.thermalHold := true }
      .thermalTrip s.burning.count) := h.post _ _ (h.frame hs ⟨rfl, rfl, rfl, rfl⟩)
  refine h.settle ?_
  simp only [Work.thermalTrip, Work.hand_s, Work.edit_s]
  split
  exacts [told _ tripped, h.frame (told _ tripped) ⟨rfl, rfl, rfl, rfl⟩]

theorem thermalClear {s : State} (hs : P s) : P (s.settle Work.thermalClear) := by
  refine h.settle ?_
  unfold Work.thermalClear
  split
  exacts [h.frame hs ⟨rfl, rfl, rfl, rfl⟩, hs]

theorem accountsTick {s : State} (hs : P s) : P s.accountsTick := by
  have charged : P (s.chargeLit s.litLamps) := by
    rw [State.chargeLit_eq]
    exact h.frame hs ⟨rfl, rfl, rfl, rfl⟩
  have computed : P (forLamps s.litLamps (fun l (w : Work) => w.recomputeLife l) ⟨s.chargeLit s.litLamps, []⟩).s :=
    forLamps_keeps (fun w : Work => P w.s) _ _ _ (fun l _ hw => h.recomputeLife l hw) charged
  unfold State.accountsTick
  refine h.run _ ?_
  split
  · unfold State.countLitTick
    simp only [Work.edit_s]
    split <;> exact h.frame computed ⟨rfl, rfl, rfl, rfl⟩
  · exact computed

/-! ### Lamp service (R13, R14, R19, R39) -/

theorem setLampThresholds {s : State} (d : List Byte) (hs : P s) : P (setLampThresholds d s).1 := by
  have set (l : Lamp) (rated warn grace : Nat) : P (Work.setLampThresholds ⟨s, []⟩ l rated warn grace).s :=
    h.frame (h.recomputeLife (w := ⟨s.setThresholds l rated warn grace, []⟩) l (h.frame hs ⟨rfl, rfl, rfl, rfl⟩)) ⟨rfl, rfl, rfl, rfl⟩
  unfold Machine.setLampThresholds
  repeat' split
  exacts [hs, h.run _ (set _ _ _ _), hs]

theorem lampReplaced {s : State} (d : List Byte) (hs : P s) : P (lampReplaced d s).1 := by
  have dark {w : Work} (l : Lamp) (hw : P w.s) : P (w.renewLamp l).s := by
    have zeroed : P (w.s.setSessionDropouts l 0) := h.frame hw ⟨rfl, rfl, rfl, rfl⟩
    unfold Work.renewLamp
    simp only
    split
    exacts [h.changeLamp (w := w.edit fun s => s.setSessionDropouts l 0) l _ zeroed, zeroed]
  have life {w : Work} (l : Lamp) (hw : P w.s) : P (w.renewLife l).s := by
    unfold Work.renewLife
    simp only
    split <;> exact h.post _ _ (h.frame hw ⟨rfl, rfl, rfl, rfl⟩)
  have replaced (l : Lamp) : P (Work.replaceLamp ⟨s, []⟩ l).s :=
    h.frame (life l (dark (w := ⟨s.retireLamp l, []⟩) l (h.frame hs ⟨rfl, rfl, rfl, rfl⟩))) ⟨rfl, rfl, rfl, rfl⟩
  unfold Machine.lampReplaced
  repeat' split
  exacts [hs, h.run _ (replaced _), hs, hs]

theorem clearLampFault {s : State} (d : List Byte) (hs : P s) : P (clearLampFault d s).1 := by
  have cleared (l : Lamp) (c : LampCondition) : P (Work.changeLamp ⟨s.setSessionDropouts l 0, []⟩ l c).s :=
    h.changeLamp (w := ⟨s.setSessionDropouts l 0, []⟩) l c (h.frame hs ⟨rfl, rfl, rfl, rfl⟩)
  unfold Machine.clearLampFault
  repeat' split
  exacts [hs, hs, h.run _ (cleared _ _), hs]

/-! ### Selection and acquisition (R89, R95) -/

theorem selection : KeptBySelection P where
  acq _ _ hs := h.frame hs ⟨rfl, rfl, rfl, rfl⟩
  status _ _ hs := h.frame hs ⟨rfl, rfl, rfl, rfl⟩
  post := h.post
  selected _ hs := h.frame hs ⟨rfl, rfl, rfl, rfl⟩
  presets := h.presets

theorem selectInput {s : State} (d : List Byte) (hs : P s) : P (selectInput d s).1 := by
  unfold Machine.selectInput
  repeat' split
  exacts [hs, h.selection.selectRow _ _ hs, hs, hs]

theorem selectClass {s : State} (d : List Byte) (hs : P s) : P (selectClass d s).1 := by
  unfold Machine.selectClass
  simp only
  repeat' split
  exacts [hs, hs, h.selection.selectRow _ _ hs, hs]

theorem rewriteKept {s : State} (x : Selection) (old new : RowConfig) (hs : P s) : P (s.rewriteKept x old new).1 := by
  have preset {t : State} (ht : P t) : P (t.rewritePreset old new) := by
    unfold State.rewritePreset
    split
    exacts [ht, h.presets _ _ _ ht]
  unfold State.rewriteKept
  split
  exacts [preset hs, preset (h.selection.restartRow _ _ hs)]

theorem writeInputRow {s : State} (d : List Byte) (hs : P s) : P (writeInputRow d s).1 := by
  have rewritten {t : State} (x : Selection) (old new : RowConfig) (ht : P t) : P (t.rewriteSelected x old new).1 := by
    unfold State.rewriteSelected
    simp only
    repeat' split
    exacts [h.selection.clearSelection _ ht, h.rewriteKept x old new ht, h.rewriteKept x old new ht, h.selection.selectRow _ _ ht,
      h.selection.clearSelection _ ht]
  have write (n : Fin 10) (new : RowConfig) : P (s.writeRow n new).1 := by
    have written : P (s.editRow n (fun r => { r with config := new })).saveRows := h.frame hs ⟨rfl, rfl, rfl, rfl⟩
    unfold State.writeRow
    simp only
    repeat' split
    exacts [rewritten _ _ _ written, written, written]
  unfold Machine.writeInputRow
  repeat' split
  exacts [hs, write _ _, hs]

theorem attemptExpiry {s : State} (hs : P s) : P s.windowExpiry := by
  unfold State.windowExpiry
  repeat' split
  exacts [h.post _ _ (h.frame hs ⟨rfl, rfl, rfl, rfl⟩), h.post _ _ (h.frame hs ⟨rfl, rfl, rfl, rfl⟩), hs, hs]

theorem syncReport {s : State} (d : List Byte) (hs : P s) : P (syncReport d s).1 := by
  have told {t : State} (x : Selection) (locked : Bool) (ht : P t) : P (t.syncSelected x locked) := by
    have locks : P (t.lockRow x.row) := h.post _ _ (h.frame ht ⟨rfl, rfl, rfl, rfl⟩)
    unfold State.syncSelected
    split
    exacts [locks, locks, h.selection.restartRow _ _ ht, ht, ht, ht, ht]
  have effect (n : Fin 10) (locked : Bool) : P (s.syncReport n locked) := by
    have present (b : Bool) : P (s.setPresent n b) := h.frame hs ⟨rfl, rfl, rfl, rfl⟩
    unfold State.syncReport
    simp only
    repeat' split
    exacts [told _ _ (present _), told _ _ hs, present _, present _]
  unfold Machine.syncReport
  repeat' split
  exacts [effect _ _, hs, hs]

theorem presenceReport {s : State} (d : List Byte) (hs : P s) : P (presenceReport d s).1 := by
  have effect (bits : Nat) : P (s.presenceReport bits) := by
    have seen : P { s with inputs := mapVectorIdx (fun i (r : InputRow) => { r with present := bits.testBit i }) s.inputs } :=
      h.frame hs ⟨rfl, rfl, rfl, rfl⟩
    unfold State.presenceReport
    simp only
    repeat' split
    exacts [h.selection.restartRow _ _ seen, seen, seen]
  unfold Machine.presenceReport
  repeat' split
  · simp only
    split
    exacts [effect _, hs]
  · exact hs

end KeptByDesk
end Sys2Proof.Machine
end

section
/-! PROOFS. What keeps a property that rests on the TGU, the LKU and the notice queues: the timetable, the requests and the steps. -/

namespace Sys2Proof.Machine.KeptByDesk

variable {P : State → Prop} (h : KeptByDesk P)
include h

/-! ### Bookings (R147 to R149) -/

theorem editTimetable {s : State} (f : Timetable → Timetable) (hs : P s) : P (s.editTimetable f) := h.frame hs ⟨rfl, rfl, rfl, rfl⟩

theorem startBooking {s : State} (i : Nat) (b : Booking) (hs : P s) : P (s.startBooking i b) := by
  have selected {t : State} (ht : P t) : P (t.bookingSelection b).1 := by
    unfold State.bookingSelection
    split
    exacts [ht, h.selection.selectForBooking _ ht]
  have levelled {t : State} (ht : P t) : P (match b.config.mode.level with | none => t | some level => t.setLevel level) := by
    split
    exacts [ht, h.frame ht ⟨rfl, rfl, rfl, rfl⟩]
  have applied {t : State} (noMatch : Bool) (ht : P t) : P (t.bookingApplied b noMatch) := by
    have handed : P ((t.handBookingPreset b.config.preset).handBookingClaim b.config.lockout b.config.sourceClass) :=
      h.lockout _ (h.presets _ _ _ ht)
    have told := h.post (.booking b.config.id) 2 (h.followBlankTimer (levelled handed))
    unfold State.bookingApplied
    simp only
    split
    exacts [h.post _ _ told, told]
  unfold State.startBooking
  rw [State.applyBooking_eq]
  exact applied _ (selected (h.handPower _ (h.editTimetable _ hs)))

theorem endBooking {s : State} (b : Booking) (hs : P s) : P (s.endBooking b) :=
  h.post _ _ (h.followBlankTimer (h.presets _ _ _ (h.lockout _ (h.editTimetable _ hs))))

theorem enterLead {s : State} (b : Booking) (hs : P s) : P (s.enterLead b) := h.post _ _ (h.handPower _ (h.editTimetable _ hs))

theorem enterIdle {s : State} (hs : P s) : P s.enterIdle := h.handPower _ (h.editTimetable _ hs)

theorem graceExpiry {s : State} (hs : P s) : P s.graceExpiry := by
  unfold State.graceExpiry
  split
  exacts [h.enterLead _ hs, h.enterIdle hs]

theorem expireEmptyGrace {s : State} (hs : P s) : P s.expireEmptyGrace := by
  unfold State.expireEmptyGrace
  split
  exacts [h.graceExpiry hs, hs]

theorem convertFor {s : State} (b : Booking) (hs : P s) : P (s.convertFor b) := by
  unfold State.convertFor
  split
  exacts [hs, h.handPower _ hs]

theorem followOn {s : State} (b : Booking) (hs : P s) : P (s.followOn b) := by
  have leads {t : State} (ht : P t) : P t.leadWindowTest := by
    unfold State.leadWindowTest
    split
    exacts [h.enterLead _ ht, h.editTimetable _ ht]
  unfold State.followOn
  split
  exacts [h.expireEmptyGrace (h.editTimetable _ hs), leads (h.convertFor b hs)]

/-! ### The minute tick (R138, R145, R146) -/

theorem tickEnd {s : State} (hs : P s) : P s.tickEnd := by
  unfold State.tickEnd
  repeat' split
  exacts [h.followOn _ (h.endBooking _ hs), hs, hs]

theorem tickRollover {s : State} (hs : P s) : P s.tickRollover := by
  unfold State.tickRollover
  split
  exacts [h.editTimetable _ hs, hs]

theorem tickLead {s : State} (hs : P s) : P s.tickLead := by
  have leads (b : Booking) : P (s.leadEvent b) := by
    unfold State.leadEvent
    split
    exacts [h.enterLead b hs, h.enterLead b hs, hs, hs, hs, hs]
  unfold State.tickLead
  repeat' split
  exacts [leads _, hs, hs]

theorem tickStart {s : State} (hs : P s) : P s.tickStart := by
  unfold State.tickStart
  repeat' split
  exacts [h.startBooking _ _ hs, hs, hs]

theorem timetableTick {s : State} (hs : P s) : P s.timetableTick := by
  unfold State.timetableTick
  split
  exacts [h.tickStart (h.tickLead (h.tickRollover (h.tickEnd hs))), h.tickRollover hs]

theorem minuteTick {s : State} (first : TickTaker) (hs : P s) : P (s.minuteTick first) := by
  have clocked : P { s with clock := s.clock.tick } := h.frame hs ⟨rfl, rfl, rfl, rfl⟩
  unfold State.minuteTick
  simp only
  split
  · cases first with
    | accounts => exact h.timetableTick (h.accountsTick clocked)
    | timetable => exact h.accountsTick (h.timetableTick clocked)
  · exact clocked

/-! ### Re-evaluation (R153, R154) -/

theorem endForReevaluation {s : State} (p : Booking) (hs : P s) : P (s.endForReevaluation p) := by
  have ended := h.endBooking p hs
  unfold State.endForReevaluation
  simp only
  split
  exacts [h.editTimetable _ ended, h.convertFor p ended]

theorem decideState {s : State} (ran : Option Nat) (hs : P s) : P (s.decideState ran) := by
  unfold State.decideState State.leadOn
  repeat' split
  exacts [h.handPower _ (h.editTimetable _ hs), h.enterLead _ hs, hs, h.enterIdle hs]

theorem reevaluateEmpty {s : State} (before : Before) (hs : P s) : P (s.reevaluateEmpty before) := by
  have ended : P (match before.active with | some p => s.endForReevaluation p | none => s) := by
    split
    exacts [h.endForReevaluation _ hs, hs]
  exact h.expireEmptyGrace (h.decideState _ (h.editTimetable _ ended))

theorem reapply {s : State} (was now : BookingConfig) (hs : P s) : P (s.reapply was now) := by
  have selected : P (if now.sourceClass ≠ was.sourceClass ∧ now.sourceClass ≠ 0 then s.selectForBooking now.sourceClass
      else (s, false)).1 := by
    split
    exacts [h.selection.selectForBooking _ hs, hs]
  unfold State.reapply
  generalize (if now.sourceClass ≠ was.sourceClass ∧ now.sourceClass ≠ 0 then s.selectForBooking now.sourceClass
      else (s, false)) = r at selected
  have told : P (if r.2 = true then r.1.post (.booking now.id) 4 else r.1) := by
    split
    exacts [h.post _ _ selected, selected]
  have claimed {t : State} (ht : P t) : P (if now.lockout ≠ was.lockout ∨ now.sourceClass ≠ was.sourceClass then
      t.handBookingClaim now.lockout now.sourceClass else t) := by
    split
    exacts [h.lockout _ ht, ht]
  simp only
  split
  exacts [h.presets _ _ _ (claimed told), claimed told]

theorem reevaluate {s : State} (before : Before) (hs : P s) : P (s.reevaluate before) := by
  have counted := h.editTimetable (fun t => { t with table := carryLive t.table before.active }) hs
  have within {t : State} (i : Nat) (b : Booking) (ht : P t) : P (t.reevaluateWithin before i b) := by
    unfold State.reevaluateWithin
    repeat' split
    exacts [h.reapply _ _ (h.editTimetable _ ht), h.startBooking i b (h.endForReevaluation _ ht), h.startBooking i b ht]
  unfold State.reevaluate
  simp only
  repeat' split
  exacts [within _ _ counted, counted, h.reevaluateEmpty before counted, hs]

/-! ### Requests (R170) -/

theorem dismiss {s : State} (hs : P s) : P s.dismiss := by
  unfold State.dismiss
  repeat' split
  exacts [hs, hs, h.handPower _ (h.editTimetable _ hs)]

theorem setScheduleEnable {s : State} (d : List Byte) (hs : P s) : P (setScheduleEnable d s).1 := by
  have disabled {t : State} (ht : P t) : P t.disableSchedule := by
    have ended : P (match t.activeBooking with | some b => t.endBooking b | none => t) := by
      split
      exacts [h.endBooking _ ht, ht]
    exact h.editTimetable (fun t => { t with state := .disabled, cursor := 0 })
      (h.handPower _ (h.editTimetable (fun t => { t with grace := none }) ended))
  have set (on : Bool) : P (s.setEnable on) := by
    have written : P { s with timetable.enable := on, store.scheduleEnable := some on } := h.frame hs ⟨rfl, rfl, rfl, rfl⟩
    unfold State.setEnable
    simp only
    repeat' split
    exacts [written, h.reevaluate _ (h.editTimetable _ written), disabled written]
  unfold Machine.setScheduleEnable
  repeat' split
  exacts [hs, set _, hs]

theorem factoryReset {s : State} (d : List Byte) (hs : P s) : P (factoryReset d s).1 := by
  have made : P s.factoryMade := h.factory hs (h.handPower _ (h.frame hs ⟨rfl, rfl, rfl, rfl⟩))
  unfold Machine.factoryReset
  split
  · simp only [State.factoryBlocks_eq]
    split
    exacts [h.handPower _ made, made]
  · exact hs

/-- R170: what every operation of the TGU, the LKU and the queues keeps, every request keeps. -/
theorem owner (r : Request) (p : Port) (d : List Byte) {s : State} (hs : P s) : P (owner r p d s).1 := by
  cases r
  case readStatus | readInputRow | readPreset | readGeometry | readCorners | readTilt | readScheduleState | readBookings | readLockout
      | readLampAccount | readSnapshot | readReplacementHistory =>
    rw [owner_read (by decide)]; exact hs
  case nudgeCorner | writePreset | storeSessionTrims | setKeystoneCalibration | armHoming => exact h.geometry p d (by decide) hs
  case clearSessionTrims => exact h.trims hs
  case takeNotice => exact h.takeNotice p d hs
  case setNoticeMask => exact h.setNoticeMask p d hs
  case stageBegin | takeAccountSnapshot => exact h.frame hs ⟨rfl, rfl, rfl, rfl⟩
  case setAcquisitionParameters | setLampPower | setLampParameters | stageAppend =>
    simp only [Machine.owner, setAcquisitionParameters, setLampPower, setLampParameters, stageAppend]
    repeat' split
    all_goals exact h.frame hs ⟨rfl, rfl, rfl, rfl⟩
  case powerOn => exact h.handPower _ hs
  case powerOff => exact h.dismiss (h.handPower _ hs)
  case setBlank =>
    simp only [Machine.owner, Machine.setBlank]
    repeat' split
    exacts [hs, h.followBlankTimer (h.setBlank _ hs), hs]
  case facilityPowerClaim =>
    simp only [Machine.owner, facilityPowerClaim]
    repeat' split
    exacts [hs, h.handPower _ hs, h.handPower _ hs, hs]
  case setPowerDefaults =>
    simp only [Machine.owner, setPowerDefaults]
    repeat' split
    exacts [h.followBlankTimer (h.frame hs ⟨rfl, rfl, rfl, rfl⟩), hs, hs]
  case selectInput => exact h.selectInput d hs
  case selectClass => exact h.selectClass d hs
  case writeInputRow => exact h.writeInputRow d hs
  case syncReport => exact h.syncReport d hs
  case presenceReport => exact h.presenceReport d hs
  case extendBooking =>
    simp only [Machine.owner, extendBooking]
    repeat' split
    exacts [hs, hs, h.post _ _ (h.editTimetable _ hs)]
  case setTime =>
    simp only [Machine.owner, setTime]
    split
    exacts [h.reevaluate _ (h.frame hs ⟨rfl, rfl, rfl, rfl⟩), hs]
  case stageCommit =>
    simp only [Machine.owner, stageCommit]
    repeat' split
    exacts [hs, hs, h.reevaluate _ (h.post _ _ (h.frame hs ⟨rfl, rfl, rfl, rfl⟩))]
  case insertBooking =>
    simp only [Machine.owner, Machine.insertBooking]
    repeat' split
    exacts [hs, hs, hs, hs, hs, h.reevaluate _ (h.frame hs ⟨rfl, rfl, rfl, rfl⟩)]
  case deleteBooking =>
    simp only [Machine.owner, Machine.deleteBooking]
    repeat' split
    exacts [h.reevaluate _ (h.frame hs ⟨rfl, rfl, rfl, rfl⟩), hs, hs]
  case setScheduleEnable => exact h.setScheduleEnable d hs
  case setManualLockout =>
    simp only [Machine.owner, setManualLockout]
    repeat' split
    exacts [hs, h.lockout _ (h.frame hs ⟨rfl, rfl, rfl, rfl⟩), hs]
  case openServiceWindow =>
    simp only [Machine.owner, openServiceWindow]
    split
    exacts [h.lockout _ hs, hs]
  case closeServiceWindow => exact h.lockout _ hs
  case setLampThresholds => exact h.setLampThresholds d hs
  case lampReplaced => exact h.lampReplaced d hs
  case clearLampFault => exact h.clearLampFault d hs
  case thermalTrip => exact h.thermalTrip hs
  case thermalClear => exact h.thermalClear hs
  case serviceReset => exact h.reevaluate _ (h.service hs)
  case factoryReset => exact h.factoryReset d hs

/-! ### Frames (R167 to R170) -/

theorem setPort {s : State} (p : Port) (x : PortUnit) (hs : P s) : P (s.setPort p x) := h.frame hs ⟨rfl, rfl, rfl, rfl⟩

theorem takeFrame {s : State} (p : Port) (frame : List Byte) (code : Byte) (d : List Byte) (hs : P s) :
    P (s.takeFrame p frame code d) := by
  have dispatched : P (dispatch p code d s).1 := by
    obtain ⟨-, hd⟩ | ⟨row, -, ⟨-, hd⟩ | ⟨-, -, x, -, hd⟩ | ⟨-, -, ⟨-, hd⟩ | ⟨-, hd⟩⟩⟩ := dispatch_cases p code d s
    case inr.inr.inr.inr => rw [hd]; exact h.owner _ p d hs
    all_goals rw [hd]; exact hs
  exact h.setPort p _ dispatched

theorem receiveByte {s : State} (p : Port) (b : Byte) (hs : P s) : P (s.receiveByte p b) := by
  unfold State.receiveByte
  simp only
  split
  · split
    exacts [h.setPort p _ hs, hs]
  · split <;> exact h.setPort p _ hs
  · split <;> exact h.setPort p _ hs
  · unfold State.completeFrame
    simp only
    repeat' split
    exacts [h.takeFrame p _ _ _ hs, h.setPort p _ hs, h.setPort p _ hs]
  · exact hs

theorem sendFrame {s : State} (p : Port) (code : Byte) (d : List Byte) (hs : P s) : P (s.sendFrame p code d) := by
  have bytes (l : List Byte) : P (s.receiveBytes p l) := by
    induction l generalizing s with
    | nil => exact hs
    | cons b rest ih => exact ih (h.receiveByte p b hs)
  unfold State.sendFrame
  split
  exacts [h.takeFrame p _ _ _ hs, bytes _]

/-! ### Power (R155, R172) -/

theorem powerUp {s : State} (x : Restart) (hs : P s) : P (s.powerUp x) := by
  have reset : P (s.resetAll x.backupGood) := by
    have restored := h.restored (s := { s with lines.backupGood := x.backupGood, clock := s.clock.sampled x.backupGood, powered := true })
      (h.frame hs ⟨rfl, rfl, rfl, rfl⟩)
    unfold State.resetAll
    simp only
    split
    exacts [restored, h.post _ _ restored]
  unfold State.powerUp
  refine h.reevaluate _ ?_
  split
  exacts [h.sendFrame _ _ _ reset, reset]

theorem losePower {s : State} (cut : Option (Byte × List Byte)) (done : List StoreUnit) (hs : P s) : P (s.losePower cut done) := by
  have down {store : Store} (kept : P { s with store := store }) : P (s.powerDown store) :=
    h.restored (s := { s with store := store, powered := false }) (h.frame kept ⟨rfl, rfl, rfl, rfl⟩)
  unfold State.losePower
  split
  exacts [down hs, down (h.merged done hs (h.sendFrame _ _ _ hs))]

/-! ### Commands and steps -/

theorem exec {c : Instr} {s t : State} (hs : P s) (ht : Machine.exec c s = .next t) : P t := by
  cases hf : c.frame? with
  | some frame =>
    obtain ⟨p, code, d⟩ := frame
    rw [exec_of_frame hf] at ht
    exact carry_keeps (f := fun s => s.sendFrame p code d) (h.sendFrame p code d hs) hs ht
  | none =>
    cases c
    case portByteReceived p b => exact carry_keeps (h.receiveByte p b hs) hs ht
    case interByteTimeout p =>
      refine carry_keeps ?_ hs ht
      unfold State.interByteExpiry
      split
      exacts [hs, h.setPort p _ hs, h.setPort p _ hs, h.setPort p _ hs, hs]
    case replySent p =>
      refine carry_keeps ?_ hs ht
      unfold State.replyEnd
      split
      exacts [h.setPort p _ hs, hs]
    case noticeAdmission p topic value => exact carry_keeps (h.admission p topic value hs) hs ht
    case minuteTick first => cases ht; exact h.minuteTick first hs
    case ignitionWindowExpiry l =>
      exact carry_keeps (h.settle (f := fun w => w.windowExpiry l) (h.windowExpiry (w := ⟨s, []⟩) l hs)) hs ht
    case retryWaitExpiry l => exact carry_keeps (h.settle (f := fun w => w.retryExpiry l) (h.retryExpiry (w := ⟨s, []⟩) l hs)) hs ht
    case coolDownExpiry l =>
      exact carry_keeps (h.settle (f := fun w => w.coolDownExpiry l) (h.coolDownExpiry (w := ⟨s, []⟩) l hs)) hs ht
    case fanTimeEnd l => exact carry_keeps (h.settle (f := fun w => w.fanTimeEnd l) (h.fanTimeEnd (w := ⟨s, []⟩) l hs)) hs ht
    case litRise l => cases ht; exact h.senseLit l true hs
    case litFall l => cases ht; exact h.senseLit l false hs
    case acquisitionWindowExpiry => exact carry_keeps (h.attemptExpiry hs) hs ht
    case settleTimerExpiry => exact carry_keeps (h.settling hs) hs ht
    case encoderStep ta tb =>
      cases ht
      split
      exacts [h.encoder ta tb hs, h.frame hs ⟨rfl, rfl, rfl, rfl⟩]
    case indexPulse => exact carry_keeps (h.index hs) hs ht
    case blankTimerExpiry =>
      refine carry_keeps ?_ hs ht
      unfold State.blankExpiry
      split
      exacts [hs, h.handPower _ (h.frame hs ⟨rfl, rfl, rfl, rfl⟩)]
    case graceExpiry =>
      refine carry_keeps ?_ hs ht
      unfold State.graceTimerExpiry
      split
      exacts [h.graceExpiry hs, hs]
    case serviceWindowExpiry =>
      refine carry_keeps ?_ hs ht
      unfold State.serviceWindowExpiry
      split
      exacts [h.lockout _ hs, hs]
    case powerOnReset x => cases ht; exact h.powerUp x hs
    case hardwareReset x => exact carry_keeps (h.powerUp x hs) hs ht
    case lossOfPower cut done => exact carry_keeps (h.losePower cut done hs) hs ht
    all_goals cases hf

theorem step {s t : State} (hs : P s) (ht : Machine.step s = .next t) : P t := by
  have elapsed : P s.elapse := by
    have clocked : P { s with clock := s.clock.elapse } := h.frame hs ⟨rfl, rfl, rfl, rfl⟩
    unfold State.elapse whenPowered
    split
    exacts [h.elapse clocked, clocked]
  unfold Machine.step at ht
  split at ht
  · cases ht; exact elapsed
  · next rest _ =>
    have taken : P { s with pending := rest } := h.frame hs ⟨rfl, rfl, rfl, rfl⟩
    exact h.exec taken ht

end Sys2Proof.Machine.KeptByDesk
end

section
/-! PROOFS. What each operation of the TGU leaves of the geometry; O54. -/

namespace Sys2Proof.Machine

/-! ### The record that is formed (R119, R120) -/

theorem Offset.applied_applicable (x : Offset) : x.applied.Applicable := by
  obtain ⟨dx0, dx1⟩ := clampInt_bounds (lo := 0) (hi := 480) x.dx (by omega)
  obtain ⟨dy0, dy1⟩ := clampInt_bounds (lo := 0) (hi := 300) x.dy (by omega)
  exact ⟨dx0, dx1, dy0, dy1⟩

/-- R119: whatever it is formed from, a record has its corners in range. -/
theorem Tilt.form_legal (t : Tilt) {n : Nat} (h : n < 256) : GeometryRecord.Legal { t.form with generation := n } := by
  have zero : Offset.Applicable ⟨0, 0⟩ := by decide
  unfold Tilt.form
  split
  · exact ⟨zero, zero, zero, zero, h⟩
  · exact ⟨Offset.applied_applicable _, Offset.applied_applicable _, Offset.applied_applicable _, Offset.applied_applicable _, h⟩

theorem State.recomputeGeometry_legal {s : State} (h : s.tilt.record.Legal) : s.recomputeGeometry.tilt.record.Legal := by
  by_cases same : s.tilt.form = s.tilt.record
  · rw [State.recomputeGeometry_same same]; exact h
  · rw [State.recomputeGeometry_changed same]; exact s.tilt.form_legal (Nat.mod_lt _ (by decide))

/-- R118, R119: of the presets only the applied one takes part in the record. -/
theorem Tilt.form_presets {t : Tilt} {presets : Vector Preset 8} (applied : presets[t.index] = t.presets[t.index]) :
    ({ t with presets := presets } : Tilt).form = t.form := by
  have preset : ({ t with presets := presets } : Tilt).preset = t.preset := applied
  simp only [Tilt.form, Tilt.cornerSums, Tilt.autoCorners, Tilt.inset, Tilt.autoActive, Tilt.offLevel, preset]
  rfl

theorem newCalibration_legal : newCalibration.Legal := by decide

/-! ### The three invariants together (R104, R117, R119, R120) -/

/-- `t` meets each of the invariants of the geometry that `s` meets. -/
structure State.KeepsGeometry (s t : State) : Prop where
  current : s.tilt.Current → t.tilt.Current
  legal : s.tilt.record.Legal → t.tilt.record.Legal
  range : s.TiltLegal → t.TiltLegal

namespace State.KeepsGeometry

variable {s t u : State}

theorem refl (s : State) : s.KeepsGeometry s := ⟨id, id, id⟩

theorem trans (st : s.KeepsGeometry t) (tu : t.KeepsGeometry u) : s.KeepsGeometry u :=
  ⟨tu.current ∘ st.current, tu.legal ∘ st.legal, tu.range ∘ st.range⟩

theorem same (tilt : t.tilt = s.tilt) (calibration : t.store.calibration = s.store.calibration) : s.KeepsGeometry t := by
  refine ⟨fun h => ?_, fun h => ?_, fun h => ?_⟩
  · rw [tilt]; exact h
  · rw [tilt]; exact h
  · rw [State.TiltLegal, tilt, calibration]; exact h

/-- R120: a recomputation makes the record current, whatever was changed but the presets named. -/
theorem recompute (index : s.tilt.Current → t.tilt.index = chooseIndex t.tilt.bookingPreset t.tilt.rowPreset)
    (record : t.tilt.record = s.tilt.record) (range : s.TiltLegal → t.TiltLegal) : s.KeepsGeometry t.recomputeGeometry where
  current h := ⟨by rw [State.recomputeGeometry_tilt]; exact index h, t.recomputeGeometry_form⟩
  legal h := State.recomputeGeometry_legal (record ▸ h)
  range h := by rw [State.TiltLegal, State.recomputeGeometry_tilt, State.recomputeGeometry_store]; exact range h

/-- R122, R123: a record formed afresh with no preset named is current and in range. -/
theorem fresh {x : Tilt} (tilt : t.tilt = x.freshRecord) (index : x.index = chooseIndex x.bookingPreset x.rowPreset)
    (range : s.TiltLegal → t.TiltLegal) : s.KeepsGeometry t where
  current _ := by rw [tilt]; exact ⟨index, x.freshRecord_form.symm⟩
  legal _ := by rw [tilt]; exact x.form_legal (by decide)
  range := range

/-! ### Presets and trims (R114 to R117) -/

theorem clearTrims (s : State) : s.KeepsGeometry s.clearTrims := recompute (fun h => h.1) rfl id

/-- R117: a hand-off recomputes unless it leaves the index where it was. -/
theorem handPresets (s : State) (booking row : Option (Fin 8)) (clear : Bool) : s.KeepsGeometry (s.handPresets booking row clear) := by
  unfold State.handPresets
  simp only
  split
  · exact recompute (fun _ => rfl) rfl id
  · next still =>
    have index : chooseIndex booking row = s.tilt.index := by simp_all
    rw [index]
    exact ⟨fun h => ⟨index.symm, h.2⟩, id, id⟩

theorem nudgeCorner (s : State) (d : List Byte) : s.KeepsGeometry (nudgeCorner d s).1 := by
  unfold Machine.nudgeCorner
  repeat' split
  exacts [refl s, recompute (fun h => h.1) rfl id, refl s]

/-- R112: only a write of the applied preset takes part in the record. -/
theorem writePreset (s : State) (d : List Byte) : s.KeepsGeometry (writePreset d s).1 := by
  have saved (n : Fin 8) (x : Preset) :
      s.KeepsGeometry (if n = s.tilt.index then (s.savePreset n x).recomputeGeometry else s.savePreset n x) := by
    split
    · exact recompute (fun h => h.1) rfl id
    · next other =>
      have applied : (s.tilt.presets.set n.val x n.isLt)[s.tilt.index] = s.tilt.presets[s.tilt.index] :=
        Vector.getElem_set_ne n.isLt s.tilt.index.isLt fun same => other (Fin.ext same)
      exact ⟨fun h => ⟨h.1, (Tilt.form_presets applied).trans h.2⟩, id, id⟩
  unfold Machine.writePreset
  repeat' split
  exacts [refl s, refl s, saved _ _, refl s]

theorem storeSessionTrims (s : State) (d : List Byte) : s.KeepsGeometry (storeSessionTrims d s).1 := recompute (fun h => h.1) rfl id

/-! ### Calibration, counting and settling (R105 to R111) -/

theorem setKeystoneCalibration (s : State) (d : List Byte) : s.KeepsGeometry (setKeystoneCalibration d s).1 := by
  have offset (x : Int) : -8000 ≤ clampInt (-8000) 8000 x ∧ clampInt (-8000) 8000 x ≤ 8000 := clampInt_bounds x (by omega)
  unfold Machine.setKeystoneCalibration
  split
  · refine recompute (fun h => h.1) rfl fun ⟨count, settled, _, _⟩ => ⟨count, settled, offset _, ?_⟩
    rintro _ ⟨⟩
    exact offset _
  · exact refl s

theorem armHoming (s : State) (d : List Byte) : s.KeepsGeometry (armHoming d s).1 := ⟨id, id, id⟩

/-- R104, R105: no record is formed from the count. -/
theorem setCount {n : Int} (bounds : s.TiltLegal → -8000 ≤ n ∧ n ≤ 8000) : s.KeepsGeometry (s.setCount n) :=
  ⟨id, id, fun h => ⟨bounds h, h.2⟩⟩

/-- R106: a step that would leave the range is not taken. -/
theorem stepCount (s : State) (n : Int) : s.KeepsGeometry (s.stepCount n) := by
  unfold State.stepCount
  simp only
  split
  · exact recompute (fun h => h.1) rfl id
  · next within =>
    simp only [Config.tiltMax] at within
    exact setCount fun _ => by omega

theorem encoderPassage (s : State) (ta tb : Bool) : s.KeepsGeometry (s.encoderPassage ta tb) := by
  have lines : s.KeepsGeometry { s with lines.ta := ta, lines.tb := tb } := same rfl rfl
  unfold State.encoderPassage
  simp only
  repeat' split
  exacts [lines.trans (stepCount _ _), lines.trans (stepCount _ _), same rfl rfl, lines]

theorem countToOffset (s : State) : s.KeepsGeometry s.countToOffset := by
  unfold State.countToOffset
  split
  exacts [refl s, setCount fun ⟨_, _, offset, _⟩ => offset]

theorem indexPulse (s : State) : s.KeepsGeometry s.indexPulse := by
  have homed (x y : Bool) : s.countToOffset.KeepsGeometry
      (State.recomputeGeometry { s.countToOffset with tilt.homed := x, tilt.armed := y }) := recompute (fun h => h.1) rfl id
  unfold State.indexPulse
  simp only
  repeat' split
  · exact (countToOffset s).trans (homed _ _)
  · exact (countToOffset s).trans (recompute (fun h => h.1) rfl id)
  · exact (countToOffset s).trans (recompute (fun h => h.1) rfl id)
  · exact refl s

theorem settleExpiry (s : State) : s.KeepsGeometry s.settleExpiry := by
  unfold State.settleExpiry
  simp only
  repeat' split
  · exact refl s
  · exact ⟨id, id, id⟩
  · exact recompute (fun h => h.1) rfl fun ⟨count, _, offset⟩ => ⟨count, count, offset⟩

/-! ### Resets (R22, R122, R123) -/

theorem restored (s : State) : s.KeepsGeometry s.restored := by
  have zero : (-8000 : Int) ≤ 0 ∧ (0 : Int) ≤ 8000 := by decide
  refine fresh rfl rfl fun ⟨_, _, _, saved⟩ => ⟨zero, zero, ?_, saved⟩
  show (s.store.calibration.getD newCalibration).Legal
  cases own : s.store.calibration with
  | none => exact newCalibration_legal
  | some c => exact saved c own

theorem merged {s₀ : State} (hs : s₀.KeepsGeometry s) (ht : s₀.KeepsGeometry t) (done : List StoreUnit) :
    s₀.KeepsGeometry { s with store := s.store.merge t.store done } := by
  refine ⟨hs.current, hs.legal, fun h => ?_⟩
  obtain ⟨count, settled, offset, old⟩ := hs.range h
  obtain ⟨-, -, -, new⟩ := ht.range h
  refine ⟨count, settled, offset, ?_⟩
  show ∀ c ∈ (if done.contains .geometry then t.store.calibration else s.store.calibration), c.Legal
  split
  exacts [new, old]

theorem serviceBlocks (s : State) : s.KeepsGeometry s.serviceBlocks := by
  have lamps : s.serviceLamps.tilt = s.tilt ∧ s.serviceLamps.store.calibration = s.store.calibration := by
    unfold State.serviceLamps
    simp only
    split <;> exact ⟨rfl, rfl⟩
  exact (same lamps.1 lamps.2).trans (fresh rfl rfl id)

theorem factoryGeometry (s : State) (handed : PerPort (List Notice)) :
    s.KeepsGeometry { s.factoryLamps.factorySelection.factoryGeometry.clearQueues with handed := handed } := by
  refine fresh rfl rfl fun ⟨count, settled, _, _⟩ => ⟨count, settled, newCalibration_legal, ?_⟩
  rintro _ ⟨⟩
  exact newCalibration_legal

/-- Every operation of the TGU keeps the three invariants, and nothing else touches what they rest on. -/
theorem kept (s : State) : KeptByDesk fun t => s.KeepsGeometry t where
  frame h st := h.trans (same st.tilt st.calibration)
  post _ _ h := h.trans (same rfl rfl)
  admission _ _ _ h := h.trans (same (by simp) (by simp))
  takeNotice p d h := by
    refine h.trans ?_
    unfold Machine.takeNotice
    simp only
    split <;> exact same rfl rfl
  setNoticeMask p d h := by
    refine h.trans ?_
    unfold Machine.setNoticeMask
    split <;> exact same rfl rfl
  lockout _ h := h.trans (same (by simp) (by simp))
  trims h := h.trans (clearTrims _)
  presets _ _ _ h := h.trans (handPresets _ _ _ _)
  geometry {_ r} p d listed h := by
    cases r
    case nudgeCorner => exact h.trans (nudgeCorner _ d)
    case writePreset => exact h.trans (writePreset _ d)
    case storeSessionTrims => exact h.trans (storeSessionTrims _ d)
    case setKeystoneCalibration => exact h.trans (setKeystoneCalibration _ d)
    case armHoming => exact h.trans (armHoming _ d)
    all_goals exact absurd listed (by decide)
  encoder _ _ h := h.trans (encoderPassage _ _ _)
  index h := h.trans (indexPulse _)
  settling h := h.trans (settleExpiry _)
  elapse h := h.trans ⟨id, id, id⟩
  service h := h.trans (serviceBlocks _)
  factory _ h := h.trans (factoryGeometry _ _)
  restored h := h.trans (restored _)
  merged done hs ht := merged hs ht done

end State.KeepsGeometry

end Sys2Proof.Machine

open Sys2Proof Sys2Proof.Machine in
/-- Settles O54: each operation of the TGU forms the record afresh where it changes a value that the record is formed from, and no other
block touches the TGU. -/
theorem geometryStaysCurrent : Obligations.GeometryStaysCurrent := by
  have kept {s t : State} (ran : step s = .next t) : s.KeepsGeometry t := (State.KeepsGeometry.kept s).step (.refl s) ran
  exact ⟨fun _ _ h ran => (kept ran).current h, fun _ _ h ran => (kept ran).legal h, fun _ _ h ran => (kept ran).range h⟩
end

section
/-! PROOFS. The keystone computation (O36), the recomputation, Nudge Corner and Clear Session Trims (O37). -/

namespace Sys2Proof.Machine

/-! ### The keystone computation (R118, R119) -/

/-- R118: the inset goes to the top corners where the tilt is above level, to the bottom corners where it is below. -/
theorem Tilt.autoCorners_eq (t : Tilt) :
    let inset : Int := min (t.inset : Int) Config.dxMax
    let top : Offset := ⟨if 0 < t.offLevel then inset else 0, 0⟩
    let bottom : Offset := ⟨if t.offLevel < 0 then inset else 0, 0⟩
    t.autoCorners = ⟨top, top, bottom, bottom⟩ := by
  unfold Tilt.autoCorners
  obtain below | level | above := lt_trichotomy t.offLevel 0
  · simp [below, below.not_gt]
  · simp [level]
  · simp [above, above.not_gt]

/-- R118: the automatic inset before its cap. -/
theorem Tilt.inset_eq (t : Tilt) : t.inset =
    if t.preset.mode = .autoTrim ∧ t.homed = true then (t.offLevel.natAbs * t.calibration.kfac + 2048) / 4096 else 0 := by
  simp only [Tilt.inset, Tilt.autoActive, rawInset, Bool.and_eq_true, beq_iff_eq]

/-- R119: a preset in mode OFF. -/
theorem Tilt.form_off {t : Tilt} (off : t.preset.mode = .off) :
    t.form = ⟨noTrims, false, false, false, .off, t.index, t.record.generation⟩ := if_pos off

/-- R118, R119: a preset in one of the other modes. -/
theorem Tilt.form_on {t : Tilt} (on : t.preset.mode ≠ .off) :
    t.form = ⟨t.cornerSums.map Offset.applied, t.preset.mode == .autoTrim && !t.homed, decide (Config.dxMax < (t.inset : Int)),
      t.cornerSums.any (fun x => x.applied != x), t.preset.mode, t.index, t.record.generation⟩ := if_neg on

end Sys2Proof.Machine

open Sys2Proof Sys2Proof.Machine in
/-- Settles O36: the two branches of the record that is formed, with the automatic corners by the sign of the tilt from level. -/
theorem keystoneArithmetic : Obligations.KeystoneArithmetic := by
  refine ⟨rfl, fun t => ⟨Tilt.form_off, fun on => ?_⟩⟩
  have limit (a : Nat) : decide (Config.dxMax < (a : Int)) = decide (480 < a) := decide_eq_decide.mpr Nat.ofNat_lt_cast
  rw [Tilt.form_on on, limit]
  simp only [Tilt.cornerSums, Tilt.autoCorners_eq, PerCorner.zip, Offset.add, Int.zero_add, Tilt.inset_eq]
  rfl

namespace Sys2Proof.Machine

/-! ### The presets named (R117) -/

/-- R117: a hand-off recomputes, the session trims cleared, where it moves the applied index or is to clear them in any case. -/
theorem State.handPresets_eq (s : State) (booking row : Option (Fin 8)) (clear : Bool) :
    let named : State := { s with tilt.bookingPreset := booking, tilt.rowPreset := row, tilt.index := chooseIndex booking row }
    s.handPresets booking row clear =
      if chooseIndex booking row ≠ s.tilt.index ∨ clear = true then ({ named with tilt.trims := noTrims } : State).recomputeGeometry
      else named := by
  simp only [State.handPresets, Bool.or_eq_true, bne_iff_ne]

/-! ### Requests to the TGU -/

/-- R170: a request of any length that the PANEL and the FACILITY ports may send, where the PANEL filter passes it on its level. -/
theorem State.Ready.exec_trims {s : State} {p : Port} (h : s.Ready p) (r : Request) {d : List Byte} {n : Nat}
    (found : lookupCode r.code = some ⟨r.code, r, panelAndFacility, n⟩) (level : panelLevel r = some 1) (hall : p ≠ .engine)
    (within : p = .panel → s.lockout.effective ≤ 1) (length : d.length = n) (short : d.length ≤ 64) :
    exec (Instr.ofRequest r p d) s = .next ((owner r p d s).1.answer p r.code d (owner r p d s).2) :=
  h.exec_request r _ found rfl (by cases p <;> simp_all [panelAndFacility]) length short fun panel =>
    State.panelFilter_passes d level (within panel)
      ⟨by rintro rfl; exact absurd level nofun, by rintro rfl; exact absurd level nofun⟩

/-- R175: a corner code names its corner. -/
theorem readCorner_eq {x : Byte} {i : Fin 4} (h : i.val = x.toNat) : readCorner x = some i := by
  unfold readCorner
  rw [dif_pos (h ▸ i.isLt)]
  exact congrArg some (Fin.ext h.symm)

/-- 00_scope.md: CLAMPED where what was taken is not what was asked. -/
theorem okOrClamped_ne {α : Type} [DecidableEq α] (taken asked : α) (payload : List Byte) :
    okOrClamped (taken != asked) payload = ⟨if taken = asked then .ok else .clamped, payload⟩ :=
  okOrClamped_eq (by simp only [bne, beq_eq_decide]) payload

/-- R114: Nudge Corner of the corner that the code names. -/
theorem nudgeCorner_eq {c : Byte} {i : Fin 4} (h : i.val = c.toNat) (x y : Byte) (s : State) :
    let sumX := (s.tilt.trims.get i).dx + x.toInt
    let sumY := (s.tilt.trims.get i).dy + y.toInt
    let dx := max (-64) (min 64 sumX)
    let dy := max (-64) (min 64 sumY)
    let g : State := ({ s with tilt.trims := s.tilt.trims.set i ⟨dx, dy⟩ } : State).recomputeGeometry
    nudgeCorner [c, x, y] s = (g, ⟨if dx = sumX ∧ dy = sumY then .ok else .clamped,
      [BitVec.ofInt 8 dx, BitVec.ofInt 8 dy, byteOf g.tilt.record.generation]⟩) := by
  intro sumX sumY dx dy g
  have clamped : ((⟨dx, dy⟩ : Offset) != ⟨sumX, sumY⟩) = !decide (dx = sumX ∧ dy = sumY) := by
    simp only [bne, beq_eq_decide, Offset.mk.injEq]
  rw [← okOrClamped_eq clamped]
  simp only [nudgeCorner, readCorner_eq h]
  rfl

end Sys2Proof.Machine

open Sys2Proof Sys2Proof.Machine in
/-- Settles O37: a recomputation by whether the record formed differs, a hand-off by the presets it names, and the two requests on the
session trims as their owner answers them. -/
theorem trimsAndRecomputation : Obligations.TrimsAndRecomputation := by
  refine ⟨fun s => ⟨State.recomputeGeometry_same, State.recomputeGeometry_changed⟩, fun s booking row clear => ?_,
    fun s p c x y hall ready within => ?_, fun s p hall ready within => ?_⟩
  · cases booking with
    | some b => exact s.handPresets_eq (some b) row clear
    | none => cases row <;> exact s.handPresets_eq none _ clear
  · have run := ready.exec_trims .nudgeCorner (d := [c, x, y]) rfl rfl hall within rfl (by simp)
    refine ⟨fun high => run.trans ?_, fun i hi => run.trans ?_⟩
    · simp only [owner, nudgeCorner, readCorner_none high]
      rfl
    · simp only [owner, nudgeCorner_eq hi]
      rfl
  · exact ready.exec_trims .clearSessionTrims (d := []) rfl rfl hall within rfl (by simp)
end

section
/-! PROOFS. Presets, calibration and homing (O38). -/

namespace Sys2Proof.Machine

/-! ### Offsets in frames (R175, R176) -/

/-- 00_scope.md: a two-byte signed number is read back as it was written. -/
theorem readS16_leS16 {x : Int} (low : -32768 ≤ x) (high : x < 32768) :
    readS16 (byteOf (BitVec.ofInt 16 x).toNat) (byteOf ((BitVec.ofInt 16 x).toNat / 256)) = x := by
  have whole (v : BitVec 16) : byteOf (v.toNat / 256) ++ byteOf v.toNat = v := by
    have bound := v.isLt
    apply BitVec.eq_of_toNat_eq
    rw [BitVec.toNat_append, ← Nat.shiftLeft_add_eq_or_of_lt (BitVec.isLt _), Nat.shiftLeft_eq]
    simp only [byteOf, BitVec.toNat_ofNat]
    omega
  rw [readS16, whole, BitVec.toInt_ofInt]
  exact Int.bmod_eq_of_le (by omega) (by omega)

/-- R112: an offset that fits into two two-byte numbers. -/
def Offset.Fits (x : Offset) : Prop := -32768 ≤ x.dx ∧ x.dx < 32768 ∧ -32768 ≤ x.dy ∧ x.dy < 32768

theorem readS16s_offset {x : Offset} (fits : x.Fits) (rest : List Byte) : readS16s (x.bytes ++ rest) = x.dx :: x.dy :: readS16s rest := by
  obtain ⟨lowX, highX, lowY, highY⟩ := fits
  simp only [Offset.bytes, leS16, le16, List.cons_append, List.nil_append, readS16s, readS16_leS16 lowX highX, readS16_leS16 lowY highY]

/-- R112: the eight trims of Write Preset are read back as they were written. -/
theorem readTrims_bytes {x : PerCorner Offset} (fits : ∀ i : Fin 4, (x.get i).Fits) : readTrims (readS16s (x.bytesFrom 0)) = x := by
  rw [← List.append_nil (x.bytesFrom 0)]
  simp only [PerCorner.bytesFrom, List.append_assoc, readS16s_offset (fits _)]
  rfl

theorem presetBytes_eq (n : Fin 8) (x : Preset) : presetBytes n x = byteOf n.val :: presetModeByte x.mode :: x.trims.bytesFrom 0 := rfl

/-- R175: no byte above 2 is the mode of a preset. -/
theorem readPresetMode_none {x : Byte} (h : 2 < x.toNat) : readPresetMode x = none := by
  unfold readPresetMode
  rw [if_neg, if_neg, if_neg] <;> rintro rfl <;> exact absurd h (by decide)

theorem presetMode_of_mem {x : Byte} {m : PresetMode}
    (h : (x, m) ∈ [((0 : Byte), PresetMode.autoTrim), (1, .trimOnly), (2, .off)]) :
    readPresetMode x = some m ∧ presetModeByte m = x := by
  simp only [List.mem_cons, Prod.mk.injEq, List.not_mem_nil, or_false] at h
  rcases h with ⟨rfl, rfl⟩ | ⟨rfl, rfl⟩ | ⟨rfl, rfl⟩ <;> exact ⟨rfl, rfl⟩

/-! ### What the requests answer -/

/-- R112: Write Preset of a preset and a mode that exist. -/
theorem writePreset_eq {number mode : Byte} {n : Fin 8} {m : PresetMode} (named : n.val = number.toNat)
    (moded : readPresetMode mode = some m ∧ presetModeByte m = mode) {trims : PerCorner Offset} {d : List Byte}
    (read : readTrims (readS16s d) = trims) (s : State) :
    let written := s.savePreset n ⟨m, clampTrims trims⟩
    let g : State := if n = s.tilt.index then written.recomputeGeometry else written
    writePreset (number :: mode :: d) s = (g, ⟨if clampTrims trims = trims then .ok else .clamped,
      number :: mode :: ((clampTrims trims).bytesFrom 0 ++ [byteOf g.tilt.record.generation])⟩) := by
  obtain ⟨mode, byte⟩ := moded
  simp only [writePreset, readPresetNumber_eq named, mode, read, okOrClamped_ne, presetBytes_eq, byteOf_eq named, byte]
  rfl

/-- R116: Store Session Trims. -/
theorem storeSessionTrims_eq (d : List Byte) (s : State) :
    let sum := PerCorner.zip Offset.add s.tilt.preset.trims s.tilt.trims
    let g : State := (s.savePreset s.tilt.index ⟨s.tilt.preset.mode, clampTrims sum⟩).clearTrims
    storeSessionTrims d s = (g, ⟨if clampTrims sum = sum then .ok else .clamped, byteOf s.tilt.index.val ::
      presetModeByte s.tilt.preset.mode :: ((clampTrims sum).bytesFrom 0 ++ [byteOf g.tilt.record.generation])⟩) := by
  simp only [storeSessionTrims, okOrClamped_ne, presetBytes_eq]
  rfl

/-- R111: Set Keystone Calibration. -/
theorem setKeystoneCalibration_eq (l0 l1 k0 k1 o0 o1 : Byte) (s : State) :
    let level := max (-8000) (min 8000 (readS16 l0 l1))
    let kfac := min 4095 (readU16 k0 k1)
    let offset := max (-8000) (min 8000 (readS16 o0 o1))
    let moved : Bool := offset != s.tilt.calibration.indexOffset
    let g : State := ({ s with
      tilt.calibration := ⟨level, kfac, offset⟩, tilt.homed := s.tilt.homed && !moved, tilt.armed := s.tilt.armed || moved
      store.calibration := some ⟨level, kfac, offset⟩ } : State).recomputeGeometry
    setKeystoneCalibration [l0, l1, k0, k1, o0, o1] s =
      (g, ⟨if level = readS16 l0 l1 ∧ kfac = readU16 k0 k1 ∧ offset = readS16 o0 o1 then .ok else .clamped,
        leS16 level ++ le16 kfac ++ leS16 offset ++ [flagByte (s.tilt.homed && !moved), flagByte (s.tilt.armed || moved),
          byteOf g.tilt.record.generation]⟩) := by
  intro level kfac offset moved g
  have clamped : ((⟨level, kfac, offset⟩ : Calibration) != ⟨readS16 l0 l1, readU16 k0 k1, readS16 o0 o1⟩) =
      !decide (level = readS16 l0 l1 ∧ kfac = readU16 k0 k1 ∧ offset = readS16 o0 o1) := by
    simp only [bne, beq_eq_decide, Calibration.mk.injEq]
  have homed : g.tilt.homed = (s.tilt.homed && !moved) := by rw [State.recomputeGeometry_tilt]
  have armed : g.tilt.armed = (s.tilt.armed || moved) := by rw [State.recomputeGeometry_tilt]
  rw [← okOrClamped_eq clamped, ← homed, ← armed]
  simp only [setKeystoneCalibration, clampNat_zero]
  rfl

end Sys2Proof.Machine

open Sys2Proof Sys2Proof.Machine in
/-- Settles O38: each request reaches the TGU and is compared with what its owner answers. -/
theorem presetsAndCalibration : Obligations.PresetsAndCalibration := by
  refine ⟨fun s number mode trims ready (fits : ∀ i, (trims.get i).Fits) => ?_, fun s ready => ?_,
    fun s l0 l1 k0 k1 o0 o1 ready => ?_, fun s ready => ?_⟩
  · have run := ready.exec_request .writePreset (d := number :: mode :: trims.bytesFrom 0)
      ⟨0x32, .writePreset, [.facility], 18⟩ rfl rfl rfl rfl (by simp [PerCorner.bytesFrom, Offset.bytes, leS16, le16]) nofun
    refine ⟨fun high => run.trans ?_, fun low high => run.trans ?_, fun n m named moded => run.trans ?_⟩
    · simp only [owner, writePreset, readPresetNumber_none high]
      rfl
    · have named : readPresetNumber number = some ⟨number.toNat, by omega⟩ := readPresetNumber_eq rfl
      simp only [owner, writePreset, named, readPresetMode_none high]
      rfl
    · simp only [owner, writePreset_eq named (presetMode_of_mem moded) (readTrims_bytes fits)]
      rfl
  · refine (ready.exec_request .storeSessionTrims (d := []) ⟨0x34, .storeSessionTrims, [.facility], 0⟩ rfl rfl rfl rfl (by simp)
      nofun).trans ?_
    simp only [owner, storeSessionTrims_eq]
    rfl
  · refine (ready.exec_request .setKeystoneCalibration (d := [l0, l1, k0, k1, o0, o1])
      ⟨0x35, .setKeystoneCalibration, [.facility], 6⟩ rfl rfl rfl rfl (by simp) nofun).trans ?_
    simp only [owner, setKeystoneCalibration_eq]
    rfl
  · exact ready.exec_request .armHoming (d := []) ⟨0x36, .armHoming, [.facility], 0⟩ rfl rfl rfl rfl (by simp) nofun
end

section
/-! PROOFS. Counting, homing and settling (O39). -/

namespace Sys2Proof.Machine

/-- R105: the passages of the quadrature pair that are a step, each with its direction. -/
def encoderSteps : List ((Bool × Bool) × (Bool × Bool) × Int) :=
  [((false, false), (true, false), (1 : Int)), ((true, false), (true, true), 1), ((true, true), (false, true), 1),
    ((false, true), (false, false), 1), ((false, false), (false, true), -1), ((false, true), (true, true), -1),
    ((true, true), (true, false), -1), ((true, false), (false, false), -1)]

/-- R105: a passage to a neighbouring position is a step. -/
theorem State.encoderPassage_step {s : State} {ta tb : Bool} {n : Int} (h : ((s.lines.ta, s.lines.tb), (ta, tb), n) ∈ encoderSteps) :
    s.encoderPassage ta tb = State.stepCount { s with lines.ta := ta, lines.tb := tb } n := by
  simp only [encoderSteps, List.mem_cons, Prod.mk.injEq, List.not_mem_nil, or_false] at h
  unfold State.encoderPassage
  rcases h with h | h | h | h | h | h | h | h <;> obtain ⟨⟨a, b⟩, ⟨rfl, rfl⟩, rfl⟩ := h <;> rw [a, b] <;> rfl

/-- R105: a passage to the opposite position is a skip. -/
theorem State.encoderPassage_skip (s : State) : s.encoderPassage (!s.lines.ta) (!s.lines.tb) =
    State.post { s with lines.ta := !s.lines.ta, lines.tb := !s.lines.tb } .tiltFault 3 := by
  have turn : (quadrature (!s.lines.ta) (!s.lines.tb) + 4 - quadrature s.lines.ta s.lines.tb) % 4 = 2 := by
    cases s.lines.ta <;> cases s.lines.tb <;> rfl
  simp only [State.encoderPassage, turn]
  rfl

theorem exec_encoderStep {s : State} (powered : s.powered = true) (ta tb : Bool) :
    exec (.encoderStep ta tb) s = .next (s.encoderPassage ta tb) :=
  congrArg Host.Outcome.next (if_pos powered)

/-- R107: an index pulse while homing is not armed and the tilt is homed. -/
theorem State.indexPulse_homed {s : State} (armed : s.tilt.armed = false) (homed : s.tilt.homed = true) :
    s.indexPulse = (if 4 < (s.tilt.count - s.tilt.calibration.indexOffset).natAbs then s.countToOffset.post .tiltFault 2
      else s.countToOffset).recomputeGeometry := by
  simp only [State.indexPulse, armed, homed, Config.indexPlay]
  rfl

end Sys2Proof.Machine

open Sys2Proof Sys2Proof.Machine in
/-- Settles O39: the encoder by the turn of the quadrature pair, the index pulse by the homing, the settle timer by whether it runs. -/
theorem encoderIndexAndSettling : Obligations.EncoderIndexAndSettling := by
  intro s powered
  refine ⟨fun ta tb n listed => ⟨fun low high => ?_, fun outside => ?_⟩, ?_,
    ⟨fun armed => ?_, fun armed homed => ⟨fun slip => ?_, fun play => ?_⟩, fun armed homed => ?_⟩, fun running => ?_⟩
  · rw [exec_encoderStep powered, State.encoderPassage_step listed]
    exact congrArg _ (if_neg (not_or.mpr ⟨not_lt.mpr low, not_lt.mpr high⟩))
  · rw [exec_encoderStep powered, State.encoderPassage_step listed]
    exact congrArg _ (if_pos outside)
  · rw [exec_encoderStep powered, State.encoderPassage_skip]
  · exact (carry_powered _ powered).trans (congrArg _ (if_pos armed))
  · refine (carry_powered _ powered).trans ?_
    rw [State.indexPulse_homed armed homed, if_pos slip]
    rfl
  · refine (carry_powered _ powered).trans ?_
    rw [State.indexPulse_homed armed homed, if_neg (by omega)]
    rfl
  · refine (carry_powered _ powered).trans ?_
    simp only [State.indexPulse, armed, homed]
    rfl
  · refine (carry_powered _ powered).trans ?_
    rw [State.settleExpiry, if_neg (by simpa using running)]
end

section
/-! PROOFS. What every step leaves of the effective level (O53), and the requests and the expiry of the LKU (O41). -/

namespace Sys2Proof.Machine

/-! ### The effective level and its value (R125, R126) -/

theorem Lockout.formed_eq (x : Lockout) : x.formed = if x.window = none then max x.manual x.bookingLevel else 0 := by
  unfold Lockout.formed
  cases x.window <;> rfl

theorem Lockout.number_eq (x : Lockout) : x.number = x.effective.val + (if x.window = none then 0 else 16) := by
  unfold Lockout.number
  cases x.window <;> rfl

/-- R125: of the service window only its being open takes part in the level, so that its time may run. -/
theorem Lockout.Current.map_window {x : Lockout} (h : x.Current) (f : ServiceWindow → ServiceWindow) :
    Lockout.Current { x with window := x.window.map f } := by
  refine h.trans ?_
  simp only [Lockout.formed, Option.isSome_map]

/-- R135, R136: what a reset leaves of the LKU. -/
theorem openLockout_current (manual : Fin 4) : (openLockout manual).Current := (max_eq_left (Fin.zero_le manual)).symm

theorem State.setLockout_lockout (s : State) (x : Lockout) : (s.setLockout x).lockout = { x with effective := x.formed } := by
  unfold State.setLockout
  simp only
  split <;> rfl

/-- R125, R126: a changed input of the level, with LOCKOUT-CHANGED where the value that it carries differs. -/
theorem State.setLockout_eq (s : State) (x : Lockout) :
    let value (y : Lockout) : Nat := y.effective.val + (if y.window = none then 0 else 16)
    let t : State := { s with
      lockout := { x with effective := if x.window = none then max x.manual x.bookingLevel else 0 } }
    s.setLockout x = if value t.lockout = value s.lockout then t else t.post .lockoutChanged (value t.lockout) := by
  simp only [State.setLockout, Lockout.formed_eq, Lockout.number_eq]

/-! ### What the TGU leaves of the LKU (R105 to R116) -/

theorem State.stepCount_lockout (s : State) (n : Int) : (s.stepCount n).lockout = s.lockout := by
  unfold State.stepCount State.rangeFault
  simp only
  split
  exacts [State.recomputeGeometry_lockout _, rfl]

theorem State.encoderPassage_lockout (s : State) (ta tb : Bool) : (s.encoderPassage ta tb).lockout = s.lockout := by
  unfold State.encoderPassage
  simp only
  repeat' split
  exacts [State.stepCount_lockout _ _, State.stepCount_lockout _ _, rfl, rfl]

theorem State.countToOffset_lockout (s : State) : s.countToOffset.lockout = s.lockout := by
  unfold State.countToOffset
  split <;> rfl

theorem State.indexPulse_lockout (s : State) : s.indexPulse.lockout = s.lockout := by
  unfold State.indexPulse
  simp only
  repeat' split
  all_goals simp [State.countToOffset_lockout]

theorem State.settleExpiry_lockout (s : State) : s.settleExpiry.lockout = s.lockout := by
  unfold State.settleExpiry
  simp only
  repeat' split
  all_goals simp

theorem owner_geometry_lockout {r : Request} (listed : r ∈ geometryRequests) (p : Port) (d : List Byte) (s : State) :
    (owner r p d s).1.lockout = s.lockout := by
  simp only [geometryRequests, List.mem_cons, List.not_mem_nil, or_false] at listed
  rcases listed with rfl | rfl | rfl | rfl | rfl
  all_goals
    simp only [owner, nudgeCorner, writePreset, storeSessionTrims, setKeystoneCalibration, armHoming]
    repeat' split
    all_goals simp [State.savePreset]

/-! ### The invariant (R125) -/

/-- Each change of the LKU and each reset forms the level afresh, a second leaves an open window open, and no other block touches the
LKU. -/
theorem lockoutCurrent_kept : KeptByDesk fun s => s.lockout.Current where
  frame h st := by rw [st.lockout]; exact h
  post _ _ h := h
  admission _ _ _ h := by rw [State.takeHanded_lockout]; exact h
  takeNotice _ _ h := by
    unfold Machine.takeNotice
    simp only
    split <;> exact h
  setNoticeMask _ _ h := by
    unfold Machine.setNoticeMask
    split <;> exact h
  lockout x _ := State.setLockout_current _ x
  trims h := by rw [State.clearTrims_lockout]; exact h
  presets _ _ _ h := by rw [State.handPresets_lockout]; exact h
  geometry _ _ listed h := by rw [owner_geometry_lockout listed]; exact h
  encoder _ _ h := by rw [State.encoderPassage_lockout]; exact h
  index h := by rw [State.indexPulse_lockout]; exact h
  settling h := by rw [State.settleExpiry_lockout]; exact h
  elapse h := Lockout.Current.map_window h _
  service _ := openLockout_current _
  factory _ _ := openLockout_current 0
  restored _ := openLockout_current _
  merged _ h _ := h

/-! ### Requests (R127, R129, R130) -/

/-- R170: a request that the FACILITY port alone may send. -/
theorem State.Ready.exec_facility {s : State} (h : s.Ready .facility) (r : Request) {d : List Byte} {n : Nat}
    (found : lookupCode r.code = some ⟨r.code, r, [.facility], n⟩) (length : d.length = n) (short : d.length ≤ 64) :
    exec (Instr.ofRequest r .facility d) s =
      .next ((owner r .facility d s).1.answer .facility r.code d (owner r .facility d s).2) :=
  h.exec_request r _ found rfl rfl length short nofun

/-- R175: a lockout level is coded by its number. -/
theorem readLockoutLevel_eq {x : Byte} {n : Fin 4} (h : n.val = x.toNat) : readLockoutLevel x = some n := by
  unfold readLockoutLevel
  rw [dif_pos (h ▸ n.isLt)]
  exact congrArg some (Fin.ext h.symm)

theorem readLockoutLevel_none {x : Byte} (h : 3 < x.toNat) : readLockoutLevel x = none := dif_neg (by omega)

theorem setManualLockout_eq {x : Byte} {n : Fin 4} (h : n.val = x.toNat) (s : State) :
    setManualLockout [x] s = (State.setLockout { s with store.manualClaim := some n } { s.lockout with manual := n },
      ⟨.ok, [x, byteOf (Lockout.formed { s.lockout with manual := n }).val]⟩) := by
  simp only [setManualLockout, readLockoutLevel_eq h, State.setLockout_lockout, byteOf_eq h]

/-- R129: the length is clamped to 1..120 minutes, and while the window is open the level is 0. -/
theorem openServiceWindow_eq (x : Byte) (s : State) :
    let length := max 1 (min 120 x.toNat)
    openServiceWindow [x] s = (s.setLockout { s.lockout with window := some ⟨length, 60 * length⟩ },
      ⟨if length = x.toNat then .ok else .clamped, [byteOf length, 0]⟩) := by
  simp only [openServiceWindow, State.setLockout_lockout, okOrClamped_ne]
  rfl

/-- R130: what the end of the window leaves; without a window the level is the greater of the claims. -/
theorem closeServiceWindow_eq (d : List Byte) (s : State) : closeServiceWindow d s =
    (s.setLockout { s.lockout with window := none }, ⟨.ok, [byteOf (max s.lockout.manual s.lockout.bookingLevel).val]⟩) := by
  simp only [closeServiceWindow, State.closeWindow, State.setLockout_lockout]
  rfl

end Sys2Proof.Machine

open Sys2Proof Sys2Proof.Machine in
/-- Settles O53: the level is formed afresh at each change of what it is formed from, and no other block touches the LKU. -/
theorem lockoutStaysCurrent : Obligations.LockoutStaysCurrent := fun _ _ current ran => lockoutCurrent_kept.step current ran

open Sys2Proof Sys2Proof.Machine in
/-- Settles O41: each request and the expiry are one change of the LKU's registers, which forms the level and tells it. -/
theorem lockoutRequests : Obligations.LockoutRequests := by
  intro s becomes value told
  refine ⟨fun ready => ⟨fun x n named => ?_, fun x high => ?_, fun x => ?_, fun _ => ?_⟩, fun powered opened => ?_⟩
  · refine (ready.exec_facility .setManualLockout (d := [x]) rfl rfl (by simp)).trans ?_
    simp only [owner, setManualLockout_eq named, State.setLockout_eq, Lockout.formed_eq]
    rfl
  · refine (ready.exec_facility .setManualLockout (d := [x]) rfl rfl (by simp)).trans ?_
    simp only [owner, setManualLockout, readLockoutLevel_none high]
    rfl
  · refine (ready.exec_facility .openServiceWindow (d := [x]) rfl rfl (by simp)).trans ?_
    simp only [owner, openServiceWindow_eq, State.setLockout_eq]
    rfl
  · refine (ready.exec_facility .closeServiceWindow (d := []) rfl rfl (by simp)).trans ?_
    simp only [owner, closeServiceWindow_eq, State.setLockout_eq]
    rfl
  · refine (carry_powered State.serviceWindowExpiry powered).trans (congrArg _ ?_)
    rw [State.serviceWindowExpiry, if_pos (Option.isSome_iff_ne_none.mpr opened), State.closeWindow, State.setLockout_eq]
end

section
/-! PROOFS. The PANEL filter: the level alone (O7), and selections at level 1 (O8). -/

namespace Sys2Proof.Machine

variable {s : State} {r : Request} {top : Fin 4} {d : List Byte} {x : Byte} {n : Fin 10}

/-! ### The level alone (R132, R133) -/

/-- R171: the row of a request in the catalogue names the PANEL port exactly where R133 gives the request a level. -/
theorem lookupCode_panelLevel (r : Request) :
    (lookupCode r.code).any (fun row => row.request == r && row.ports.contains .panel == (panelLevel r).isSome) = true := by
  cases r <;> rfl

/-- R132, R170: what the filter refuses is answered so, and nothing is carried out. -/
theorem State.Ready.exec_filtered (h : s.Ready .panel) (level : panelLevel r = some top) (short : d.length ≤ 64) {a : Answer}
    (filter : s.panelFilter r d = some a) : exec (Instr.ofRequest r .panel d) s = .next (s.answer .panel r.code d a) := by
  have row := lookupCode_panelLevel r
  simp only [Option.any_eq_true, level, Option.isSome_some, Bool.and_eq_true, beq_iff_eq] at row
  obtain ⟨row, found, rfl, port⟩ := row
  rw [exec_ofRequest, carry_powered _ h.1, h.sendFrame _ short]
  simp only [State.takeFrame, dispatch, found, port, if_true, carryOut, filter]
  rfl

/-- R133: at level 0 everything passes. -/
theorem State.panelFilter_open (zero : s.lockout.effective = 0) (r : Request) (d : List Byte) : s.panelFilter r d = none := by
  have level : s.lockout.effective ≠ 1 := by rw [zero]; decide
  have within (top : Fin 4) : s.lockout.effective ≤ top := zero ▸ Fin.zero_le top
  simp only [State.panelFilter, level, false_and, if_false, State.filterLevel, within, if_true]
  split <;> rfl

/-- R132, R133: above its greatest level a request is refused for the level, whatever its payload. -/
theorem State.panelFilter_above (level : panelLevel r = some top) (above : top < s.lockout.effective)
    (plain : s.lockout.effective = 1 → r ≠ .selectInput ∧ r ≠ .selectClass) (d : List Byte) :
    s.panelFilter r d = some (s.refuseLocked 1) := by
  have input : ¬ (s.lockout.effective = 1 ∧ r = .selectInput) := fun h => (plain h.1).1 h.2
  have cls : ¬ (s.lockout.effective = 1 ∧ r = .selectClass) := fun h => (plain h.1).2 h.2
  simp only [State.panelFilter, input, cls, if_false, State.filterLevel, level, not_le.mpr above]

/-! ### Selections at level 1 (R134) -/

theorem State.panelFilter_input (one : s.lockout.effective = 1) (d : List Byte) : s.panelFilter .selectInput d = s.filterInput d :=
  if_pos ⟨one, rfl⟩

theorem State.panelFilter_class (one : s.lockout.effective = 1) (d : List Byte) : s.panelFilter .selectClass d = s.filterClass d := by
  rw [State.panelFilter, if_neg nofun, if_pos ⟨one, rfl⟩]

theorem State.refuseLocked_one (one : s.lockout.effective = 1) (reason : Nat) :
    s.refuseLocked reason = ⟨.refusedLocked, [1, byteOf reason]⟩ := by
  rw [State.refuseLocked, one]
  rfl

/-- R134, check 1: the length. -/
theorem State.filterInput_length (length : d.length ≠ 1) : s.filterInput d = some badLength := by
  unfold State.filterInput
  split
  exacts [absurd rfl length, rfl]

theorem State.filterClass_length (length : d.length ≠ 1) : s.filterClass d = some badLength := by
  unfold State.filterClass
  split
  exacts [absurd rfl length, rfl]

/-- R134, check 1: the argument. -/
theorem State.filterInput_high (high : 10 ≤ x.toNat) : s.filterInput [x] = some badArgument := by
  simp only [State.filterInput, readRow_none high]

/-- R134, checks 2 to 4 of Select Input. -/
theorem State.filterInput_row (row : n.val = x.toNat) :
    s.filterInput [x] = if s.lockout.bookingClass = 0 then some (s.refuseLocked 2) else s.rowTest n := by
  simp only [State.filterInput, readRow_eq row]

/-- R134, check 2 of Select Class. -/
theorem State.filterClass_unbooked (named : x ≠ 0) (unbooked : s.lockout.bookingClass = 0) :
    s.filterClass [x] = some (s.refuseLocked 2) := by
  simp only [State.filterClass, named, unbooked, if_false, if_true]

/-- R134, check 3 of Select Class: no row matches the class asked for. -/
theorem State.filterClass_none (named : x ≠ 0) (booked : s.lockout.bookingClass ≠ 0) (none : (s.resolve x).row = none) :
    s.filterClass [x] = some (s.refuseLocked 4) := by
  simp only [State.filterClass, named, booked, none, if_false]

/-- R134, checks 3 and 4 of Select Class: the row that the class resolves to. -/
theorem State.filterClass_found (named : x ≠ 0) (booked : s.lockout.bookingClass ≠ 0) (found : (s.resolve x).row = some n) :
    s.filterClass [x] = s.rowTest n := by
  simp only [State.filterClass, named, booked, found, if_false]

theorem State.rowTest_suited (suited : (s.row n).config.answers s.lockout.bookingClass = true) : s.rowTest n = none := if_pos suited

theorem State.rowTest_unsuited (unsuited : ¬ (s.row n).config.answers s.lockout.bookingClass = true) :
    s.rowTest n = some (s.refuseLocked 3) := if_neg unsuited

theorem State.selectStatus_cases (s : State) (n : Fin 10) : s.selectStatus n = .ok ∨ s.selectStatus n = .accepted := by
  unfold State.selectStatus
  split
  exacts [.inr rfl, .inl rfl]

/-- R89, R91, R94: a selection leaves its row selected and is answered OK or ACCEPTED. -/
theorem State.Chooses.selects {c : Instr} {p : Port} {code : Byte} {m : SelectMethod} {found : List Byte}
    (chooses : s.Chooses c p code x n m found) : ∃ (t : State) (y : Answer), exec c s = .next (t.answer p code [x] y) ∧
      t.selectedRow = some n ∧ (y.status = .ok ∨ y.status = .accepted) :=
  ⟨_, _, chooses, State.selectedRow_of (s.selectRow_selected n m), s.selectStatus_cases n⟩

end Sys2Proof.Machine

open Sys2Proof Sys2Proof.Machine in
/-- Settles O8: each check of the filter is one equation, and what passes them all is a selection. -/
theorem panelSelectionAtLevelOne : Obligations.PanelSelectionAtLevelOne := by
  intro s d ready short one locked suits
  have input {a : Answer} (filter : s.filterInput d = some a) : exec (.selectInput .panel d) s = .next (s.answer .panel 0x20 d a) :=
    ready.exec_filtered (r := .selectInput) rfl short ((State.panelFilter_input one d).trans filter)
  have cls {a : Answer} (filter : s.filterClass d = some a) : exec (.selectClass .panel d) s = .next (s.answer .panel 0x21 d a) :=
    ready.exec_filtered (r := .selectClass) rfl short ((State.panelFilter_class one d).trans filter)
  have lockedInput (reason : Nat) (filter : s.filterInput d = some (s.refuseLocked reason)) :
      locked (.selectInput .panel d) 0x20 (byteOf reason) := input (filter.trans (congrArg some (State.refuseLocked_one one reason)))
  have lockedClass (reason : Nat) (filter : s.filterClass d = some (s.refuseLocked reason)) :
      locked (.selectClass .panel d) 0x21 (byteOf reason) := cls (filter.trans (congrArg some (State.refuseLocked_one one reason)))
  have suits_iff (n : Fin 10) : suits n ↔ (s.row n).config.answers s.lockout.bookingClass = true := (RowConfig.answers_iff _ _).symm
  refine ⟨fun length => ⟨input (State.filterInput_length length), cls (State.filterClass_length length)⟩, ?_⟩
  rintro x rfl
  refine ⟨fun high => input (State.filterInput_high high), fun n row => ?_, ?_, fun named => ⟨fun unbooked => ?_, fun booked => ?_⟩⟩
  · refine ⟨fun unbooked => ?_, fun booked unsuited => ?_, fun booked suited => ?_⟩
    · exact lockedInput 2 ((State.filterInput_row row).trans (if_pos unbooked))
    · have test := State.rowTest_unsuited (mt (suits_iff n).mpr unsuited)
      exact lockedInput 3 ((State.filterInput_row row).trans ((if_neg booked).trans test))
    · have test := State.rowTest_suited ((suits_iff n).mp suited)
      have passed := (State.panelFilter_input one _).trans ((State.filterInput_row row).trans ((if_neg booked).trans test))
      have admits : s.Admits .panel .selectInput [x] := ⟨ready, fun _ => passed⟩
      exact (admits.selectInput_chooses nofun row suited.1).selects
  · rintro rfl
    exact cls rfl
  · exact lockedClass 2 (State.filterClass_unbooked named unbooked)
  · refine ⟨fun none => lockedClass 4 (State.filterClass_none named booked none),
      fun n found => ⟨fun unsuited => ?_, fun suited => ?_⟩⟩
    · have test := State.rowTest_unsuited (mt (suits_iff n).mpr unsuited)
      exact lockedClass 3 ((State.filterClass_found named booked found).trans test)
    · have test := State.rowTest_suited ((suits_iff n).mp suited)
      have passed := (State.panelFilter_class one _).trans ((State.filterClass_found named booked found).trans test)
      have admits : s.Admits .panel .selectClass [x] := ⟨ready, fun _ => passed⟩
      exact (admits.selectClass_chooses nofun named found).selects

open Sys2Proof Sys2Proof.Machine in
/-- Settles O7: by the greatest level of each request in the table of R133. -/
theorem panelFilterByLevel : Obligations.PanelFilterByLevel := by
  intro s d ready short refused passes
  have above {r : Request} {top : Fin 4} (level : panelLevel r = some top) (higher : top < s.lockout.effective)
      (plain : s.lockout.effective = 1 → r ≠ .selectInput ∧ r ≠ .selectClass) : refused r :=
    ready.exec_filtered level short (State.panelFilter_above level higher plain d)
  refine ⟨fun r listed => ?_, fun r listed => ?_, fun r listed => ?_, fun r listed => ?_, fun zero => ?_, fun one => ?_⟩
  · have level : panelLevel r = some 3 := by revert r; decide
    exact State.panelFilter_read d level
  · have ⟨level, plain⟩ : panelLevel r = some 2 ∧ r ≠ .selectInput ∧ r ≠ .selectClass := by revert r; decide
    exact ⟨fun low => State.panelFilter_passes d level low plain, fun high => above level (by omega) fun _ => plain⟩
  · have ⟨level, plain⟩ : panelLevel r = some 1 ∧ r ≠ .selectInput ∧ r ≠ .selectClass := by revert r; decide
    exact ⟨fun low => State.panelFilter_passes d level low plain, fun high => above level (by omega) fun _ => plain⟩
  · have level : panelLevel r = some 0 := by revert r; decide
    exact ⟨fun zero => State.panelFilter_open zero r d, fun high => above level (by omega) fun one => absurd one (by omega)⟩
  · exact State.panelFilter_open zero .setLampPower d
  · exact above rfl (by omega) fun _ => ⟨nofun, nofun⟩
end

section
/-! PROOFS. The second that passes on an empty queue, and the expiries and line changes without effect (O2). -/

namespace Sys2Proof.Machine

/-! ### A second passes (R137, log 2) -/

theorem step_empty {s : State} (empty : s.pending = []) : step s = .next s.elapse := by
  rw [step, empty]

theorem tickDown_of_lt {d t : Nat} (h : d < t) : tickDown d t = t - d := if_neg (by omega)

theorem tickDown_of_le {d t : Nat} (h : t ≤ d) : tickDown d t = min t 1 := if_pos h

/-! ### Expiries of timers that do not run (log 3) -/

/-- An event of the LCU that changes no lamp and hands nothing over. -/
theorem State.settle_self {s : State} {f : Work → Work} (h : f ⟨s, []⟩ = ⟨s, []⟩) : s.settle f = s := by
  rw [State.settle, h, Work.run_empty]

section Lamps
variable {w : Work} {l : Lamp}

theorem Work.windowExpiry_self (h : ∀ k t b, w.s.condition l ≠ .window k t b) : w.windowExpiry l = w := by
  unfold Work.windowExpiry
  split
  case h_1 k t b window => exact absurd window (h k t b)
  all_goals rfl

theorem Work.retryExpiry_self (h : ∀ k t, w.s.condition l ≠ .retry k t) : w.retryExpiry l = w := by
  unfold Work.retryExpiry
  split
  case h_1 k t retry => exact absurd retry (h k t)
  all_goals rfl

theorem Work.coolDownExpiry_self (h : ∀ t b, w.s.condition l ≠ .cooling t b) : w.coolDownExpiry l = w := by
  unfold Work.coolDownExpiry
  split
  case h_1 t b cooling => exact absurd cooling (h t b)
  all_goals rfl

theorem Work.fanTimeEnd_self (h : ∀ fan, 0 < fan → w.s.condition l ≠ .failed fan) : w.fanTimeEnd l = w := by
  unfold Work.fanTimeEnd
  split
  case h_1 fan failed => exact if_pos (Nat.eq_zero_of_not_pos fun runs => h fan runs failed)
  all_goals rfl

end Lamps

theorem State.interByteExpiry_self {s : State} {p : Port}
    (h : (s.ports.get p).receive = .hunt ∨ (s.ports.get p).receive = .replying) : s.interByteExpiry p = s := by
  unfold State.interByteExpiry
  obtain h | h := h <;> rw [h]

theorem State.settleExpiry_self {s : State} (h : s.tilt.settle = none) : s.settleExpiry = s := if_pos (by rw [h]; rfl)

theorem State.serviceWindowExpiry_self {s : State} (h : s.lockout.window = none) : s.serviceWindowExpiry = s :=
  if_neg (by rw [h]; decide)

theorem State.windowExpiry_self {s : State} (h : s.acq.window = none) : s.windowExpiry = s := by
  rw [State.windowExpiry, h]
  cases s.selectedRow <;> rfl

theorem State.blankExpiry_self {s : State} (h : s.power.blankTimer = none) : s.blankExpiry = s := if_pos (by rw [h]; rfl)

theorem State.graceTimerExpiry_self {s : State} (h : s.timetable.state ≠ .grace) : s.graceTimerExpiry = s := if_neg h

/-! ### Lines that have not changed (log 12) -/

theorem State.encoderPassage_self (s : State) : s.encoderPassage s.lines.ta s.lines.tb = s := by
  have turn : (quadrature s.lines.ta s.lines.tb + 4 - quadrature s.lines.ta s.lines.tb) % 4 = 0 := by omega
  simp only [State.encoderPassage, turn]
  rfl

theorem State.senseLit_self {s : State} {l : Lamp} {level : Bool} (h : s.lines.lit.get l = level) : s.senseLit l level = s := if_pos h

end Sys2Proof.Machine

open Sys2Proof Sys2Proof.Machine in
/-- Settles O2: a step on an empty queue is the second that passes; each expiry and each line change is one equation above. -/
theorem emptyQueueAndIdleTimers : Obligations.EmptyQueueAndIdleTimers := by
  refine ⟨fun s empty powered => ?_, fun s empty off => ?_, fun _ _ _ => ⟨rfl, rfl, rfl, rfl, rfl, rfl⟩, fun _ => rfl,
    fun d t => ⟨tickDown_of_lt, fun runs ends => ?_, tickDown_of_le (Nat.zero_le d)⟩, fun s powered => ?_⟩
  · simp only [step_empty empty, State.elapse, whenPowered, powered, if_true]
    rfl
  · simp only [step_empty empty, State.elapse, whenPowered, off]
    rfl
  · rw [tickDown_of_le ends]
    omega
  · have carried {f : State → State} (h : f s = s) : carry f s = .next s := by rw [carry_powered f powered, h]
    refine ⟨fun p waits => carried (State.interByteExpiry_self waits), fun stopped => carried (State.settleExpiry_self stopped),
      fun closed => carried (State.serviceWindowExpiry_self closed), fun stopped => carried (State.windowExpiry_self stopped),
      fun stopped => carried (State.blankExpiry_self stopped), fun other => carried (State.graceTimerExpiry_self other), ?_, fun l => ?_⟩
    · rw [exec_encoderStep powered, State.encoderPassage_self]
    · exact ⟨fun h => carried (State.settle_self (Work.windowExpiry_self h)), fun h => carried (State.settle_self (Work.retryExpiry_self h)),
        fun h => carried (State.settle_self (Work.coolDownExpiry_self h)), fun h => carried (State.settle_self (Work.fanTimeEnd_self h)),
        fun high => congrArg _ (State.senseLit_self high), fun low => congrArg _ (State.senseLit_self low)⟩
end

section
/-! PROOFS. A commit whose staged id is out of range; O58. -/

namespace Sys2Proof.Machine

/-- R157: one booking is staged, and Stage Commit is the next command. Its id 65536 is one that no frame carries, but the staging list
holds ids as numbers, and `State.TimetableLegal` bounds how many bookings are staged and not their ids. -/
def State.overstaged : State :=
  { State.reset with
    staging := ⟨true, [⟨65536, 0, 1, 0, 0, 0, 0, 0, 0⟩]⟩
    pending := [.stageCommit .facility []] }

theorem State.overstaged_legal : State.overstaged.TimetableLegal := by decide

/-- R160, R161: the passes of a commit ask of an id only that it is not 0, so that this one comes into the live table. -/
theorem State.overstaged_commits : ∃ t : State, step State.overstaged = .next t ∧
    t.timetable.table = [⟨⟨65536, 0, 1, 0, 0, some 0, 0, .default, false⟩, 0, false⟩] := ⟨_, rfl, rfl⟩

end Sys2Proof.Machine

open Sys2Proof Sys2Proof.Machine in
/-- Refutes O58: its second clause, for the state `State.overstaged`, which meets `State.TimetableLegal` and is left for one whose live
table holds an id above 65535. No such state is reached from reset, since a frame carries ids of two bytes; the clause is about every
state that meets the invariant. -/
theorem not_scheduleStaysLegal : ¬ Obligations.ScheduleStaysLegal := by
  rintro ⟨-, keeps, -⟩
  obtain ⟨t, committed, table⟩ := State.overstaged_commits
  obtain ⟨-, -, ⟨-, -, -, legal⟩, -⟩ := keeps _ _ State.overstaged_legal committed
  rw [table] at legal
  obtain ⟨⟨-, high, -⟩, -⟩ := legal _ (List.mem_singleton.mpr rfl)
  exact absurd high (by decide)
end

section
/-! PROOFS. The SCHEDULE claim beside another claim, the entry into LEAD and into IDLE, and the bookings around one of the live table;
O44. -/

namespace Sys2Proof.Machine

/-! ### The SCHEDULE claim (R52, log 33) -/

section Claim
variable {s : State} {b : Booking} {v : Bool}

/-- R52: a SCHEDULE claim that is as it was, or beside another, leaves the demand set as empty as it was. -/
theorem Demand.isEmpty_schedule {d : Demand} (h : d.schedule = v ∨ d.panel = true ∨ d.facility = true) :
    ({ d with schedule := v } : Demand).isEmpty = d.isEmpty := by
  obtain ⟨panel, schedule, facility⟩ := d
  obtain rfl | rfl | rfl := h
  · rfl
  · rfl
  · cases panel <;> cases schedule <;> cases v <;> rfl

theorem State.addSchedule_beside (h : s.power.demand.schedule = true ∨ s.power.demand.panel = true ∨ s.power.demand.facility = true)
    (blank : s.BlankLegal) : s.handPower (.addClaim .schedule) = s.wanting { s.power.demand with schedule := true } :=
  State.handPower_beside rfl (Demand.isEmpty_schedule h) blank

theorem State.removeSchedule_beside (h : s.power.demand.schedule = false ∨ s.power.demand.panel = true ∨ s.power.demand.facility = true)
    (blank : s.BlankLegal) : s.handPower (.removeClaim .schedule) = s.wanting { s.power.demand with schedule := false } :=
  State.handPower_beside rfl (Demand.isEmpty_schedule h) blank

/-! ### LEAD and IDLE (R143, R146, R149) -/

/-- The timetable in schedule state `x` without a grace. -/
abbrev Timetable.turned (t : Timetable) (x : ScheduleState) : Timetable := { t with state := x, grace := none }

theorem State.BlankLegal.retimed (blank : s.BlankLegal) {x : Timetable} (active : x.active = s.timetable.active) :
    ({ s with timetable := x } : State).BlankLegal :=
  blank.timed rfl (by simp only [State.blankTiming, active])

theorem State.enterLead_beside (b : Booking)
    (h : s.power.demand.schedule = true ∨ s.power.demand.panel = true ∨ s.power.demand.facility = true) (blank : s.BlankLegal) :
    s.enterLead b = ({ s with
      timetable := s.timetable.turned .lead
      power.demand := { s.power.demand with schedule := true } } : State).post (.booking b.config.id) 1 :=
  congrArg (fun t : State => t.post (.booking b.config.id) 1)
    (State.addSchedule_beside (s := s.editTimetable (·.turned .lead)) h (blank.retimed rfl))

theorem State.enterIdle_beside (h : s.power.demand.schedule = false ∨ s.power.demand.panel = true ∨ s.power.demand.facility = true)
    (blank : s.BlankLegal) : s.enterIdle = { s with
      timetable := s.timetable.turned .idle
      power.demand := { s.power.demand with schedule := false } } :=
  State.removeSchedule_beside (s := s.editTimetable (·.turned .idle)) h (blank.retimed rfl)

/-- R143: the awaited booking leads at this minute. -/
theorem State.leading_some (active : s.timetable.active = none) (awaited : s.timetable.awaited = some b)
    (near : 1 ≤ (b.config.start + 10080 - s.clock.minute) % 10080)
    (far : (b.config.start + 10080 - s.clock.minute) % 10080 ≤ b.config.lead) : s.leading = some b := by
  rw [State.leading, Option.filter_eq_some_iff]
  exact ⟨awaited, (s.inLeadWindow_iff b).mpr ⟨⟨⟨active, by omega⟩, near⟩, far⟩⟩

end Claim

/-! ### One booking of the live table (R141, R151) -/

section Split
variable {t : Timetable} {before after : List Booking} {b : Booking}

theorem Timetable.find_split (table : t.table = before ++ b :: after) (first : ∀ x ∈ before, x.config.id ≠ b.config.id) :
    t.find b.config.id = some b := by
  rw [Timetable.find, List.find?_eq_some_iff_append]
  exact ⟨by simp, before, after, table, fun x hx => by simpa using first x hx⟩

theorem nextStart_split (first : ∀ x ∈ before, x.config.id ≠ b.config.id) :
    nextStart b.config.id (before ++ b :: after) = (after.head?.map fun x => x.config.start).getD 10080 := by
  induction before with
  | nil => exact if_pos rfl
  | cons x rest ih =>
    rw [List.cons_append, nextStart, if_neg (first x (by simp))]
    exact ih fun y hy => first y (by simp [hy])

theorem Timetable.editBooking_split (table : t.table = before ++ b :: after) (first : ∀ x ∈ before, x.config.id ≠ b.config.id)
    (last : ∀ x ∈ after, x.config.id ≠ b.config.id) (f : Booking → Booking) :
    t.editBooking b.config.id f = { t with table := before ++ f b :: after } := by
  have same {l : List Booking} (others : ∀ x ∈ l, x.config.id ≠ b.config.id) :
      l.map (fun x => if x.config.id = b.config.id then f x else x) = l :=
    (List.map_congr_left fun x hx => if_neg (others x hx)).trans (List.map_id _)
  rw [Timetable.editBooking, table, List.map_append, List.map_cons, same first, same last, if_pos rfl]

end Split

/-! ### Extend Booking (R151) -/

section Extend
variable {s : State} {b : Booking}

theorem State.Ready.exec_extendBooking {p : Port} (ready : s.Ready p) (hall : p ≠ .engine) (within : p = .panel → s.lockout.effective ≤ 2)
    {a : State × Answer} (answer : Machine.extendBooking [] s = a) : exec (.extendBooking p []) s = .next (a.1.answer p 0x40 [] a.2) := by
  subst answer
  exact ready.exec_request .extendBooking (d := []) ⟨0x40, .extendBooking, panelAndFacility, 0⟩ rfl rfl (panelAndFacility_contains hall) rfl
    (by simp) fun panel => State.panelFilter_passes [] rfl (within panel) ⟨nofun, nofun⟩

theorem Booking.noRoom_iff (b : Booking) (table : List Booking) : b.noRoom table = true ↔
    60 < b.extension + 15 ∨ 10080 < b.config.stop + b.extension + 15 ∨ nextStart b.config.id table < b.config.stop + b.extension + 15 := by
  simp only [Booking.noRoom, Bool.or_eq_true, decide_eq_true_eq, or_assoc]
  rfl

theorem extendBooking_none (idle : s.activeBooking = none) : Machine.extendBooking [] s = (s, ⟨.refusedState, []⟩) := by
  rw [Machine.extendBooking, idle]

theorem extendBooking_full (active : s.activeBooking = some b) (full : b.noRoom s.timetable.table = true) :
    Machine.extendBooking [] s = (s, ⟨.conflict, b.extendBytes⟩) := by
  simp only [Machine.extendBooking, active, full, if_true]

theorem extendBooking_room (active : s.activeBooking = some b) (room : ¬ b.noRoom s.timetable.table = true) :
    Machine.extendBooking [] s =
      ((s.editTimetable (·.editBooking b.config.id fun _ => { b with extension := b.extension + 15 })).post (.booking b.config.id) 5,
        ⟨.ok, ({ b with extension := b.extension + 15 } : Booking).extendBytes⟩) := by
  simp only [Machine.extendBooking, active, room]
  rfl

end Extend

end Sys2Proof.Machine

open Sys2Proof Sys2Proof.Machine in
/-- Settles O44: beside another claim the SCHEDULE claim is written and no more, so that the expiry is the entry into LEAD or into IDLE;
the extension is by the place of the active booking in the live table. -/
theorem graceExpiryAndExtension : Obligations.GraceExpiryAndExtension := by
  refine ⟨fun s powered blank grace active scheduled claimed => ?_, fun s p hall ready within => ?_⟩
  · intro awaited leads
    have expires : exec .graceExpiry s = .next s.graceExpiry :=
      (carry_powered State.graceTimerExpiry powered).trans (congrArg Host.Outcome.next (if_pos grace))
    refine ⟨fun b awaits lead => ?_, fun unled => ?_⟩
    · have leading := State.leading_some active (s.timetable.awaited_eq.trans awaits) lead.1 lead.2
      have same : ({ s.power.demand with schedule := true } : Demand) = s.power.demand := Demand.set_same (c := .schedule) scheduled
      rw [expires, State.graceExpiry, leading]
      simp only
      rw [State.enterLead_beside b (.inl scheduled) blank, same]
    · have leading := State.leading_none (s := s) fun b awaits => unled b (s.timetable.awaited_eq.symm.trans awaits)
      rw [expires, State.graceExpiry, leading]
      exact congrArg _ (State.enterIdle_beside (.inr claimed) blank)
  · intro bytes
    refine ⟨fun idle => ?_, fun before after b table active first last => ?_⟩
    · exact ready.exec_extendBooking hall within (extendBooking_none (by rw [State.activeBooking, idle]; rfl))
    · intro stop next
      have booked : s.activeBooking = some b := by
        rw [State.activeBooking, active]
        exact Timetable.find_split table first
      have follows : nextStart b.config.id s.timetable.table = next := by
        rw [table, nextStart_split first]
        cases after <;> rfl
      have room := follows ▸ b.noRoom_iff s.timetable.table
      refine ⟨fun full => ?_, fun short early free => ?_⟩
      · exact ready.exec_extendBooking hall within (extendBooking_full booked (room.mpr full))
      · refine (ready.exec_extendBooking hall within (extendBooking_room booked ?_)).trans ?_
        · rw [room]
          omega
        · rw [State.editTimetable, Timetable.editBooking_split table first last]
          rfl
end

section
/-! PROOFS. The live table with which a re-evaluation counts (R153, R154). -/

namespace Sys2Proof.Machine

section Counted
variable {s : State} {was : Option Booking}

/-- R141: a legal saved table has its bookings in order, without overlap and with distinct ids. -/
theorem savedTableLegal.ordered {table : List Booking} (legal : savedTableLegal (table.map fun b => b.config)) :
    (table.map fun b => b.config.id).Nodup ∧ table.Pairwise (fun x y => x.config.stop ≤ y.config.start) ∧
      ∀ b ∈ table, b.config.start < b.config.stop := by
  obtain ⟨-, distinct, apart, each⟩ := legal
  simp only [List.map_map, List.pairwise_map, List.forall_mem_map] at distinct apart each
  exact ⟨distinct, apart, fun b hb => (each b hb).1.2.2.1⟩

/-- R141: in order without overlap, the starts rise. -/
theorem starts_rise {table : List Booking} (apart : table.Pairwise fun x y => x.config.stop ≤ y.config.start)
    (lasts : ∀ b ∈ table, b.config.start < b.config.stop) : table.Pairwise fun x y => x.config.start < y.config.start :=
  apart.imp_of_mem fun hx _ h => (lasts _ hx).trans_le h

/-- R154: where the starts rise, an end is at or before the start of the following booking if it is at or before that of each booking
which starts later. -/
theorem le_nextStart_iff {table : List Booking} (distinct : (table.map fun b => b.config.id).Nodup)
    (rise : table.Pairwise fun x y => x.config.start < y.config.start) {b : Booking} (hb : b ∈ table) {k : Nat} (week : k ≤ 10080) :
    k ≤ nextStart b.config.id table ↔ ∀ x ∈ table, x.config.start ≤ b.config.start ∨ k ≤ x.config.start := by
  obtain ⟨before, after, rfl⟩ := List.append_of_mem hb
  have first : ∀ x ∈ before, x.config.id ≠ b.config.id := by
    rw [List.map_append, List.map_cons, List.nodup_append] at distinct
    exact fun x hx => distinct.2.2 _ (List.mem_map_of_mem hx) _ (List.mem_cons_self ..)
  obtain ⟨-, later, earlier⟩ := List.pairwise_append.mp rise
  obtain ⟨later, rest⟩ := List.pairwise_cons.mp later
  have all (p : Booking → Prop) : (∀ x ∈ before ++ b :: after, p x) ↔ (∀ x ∈ before, p x) ∧ p b ∧ ∀ x ∈ after, p x := by
    rw [List.forall_mem_append, List.forall_mem_cons]
  rw [nextStart_split first, all]
  constructor
  · intro fits
    refine ⟨fun x hx => .inl (earlier x hx b (List.mem_cons_self ..)).le, .inl le_rfl, fun x hx => .inr ?_⟩
    cases after with
    | nil => cases hx
    | cons a after =>
      obtain rfl | hx := List.mem_cons.mp hx
      · exact fits
      · exact fits.trans ((List.pairwise_cons.mp rest).1 x hx).le
  · rintro ⟨-, -, free⟩
    cases after with
    | nil => exact week
    | cons a after => exact (free a (List.mem_cons_self ..)).resolve_left (later a (List.mem_cons_self ..)).not_ge

/-- R153, step 1, and R154: the model counts with the live table as the statement gives it. -/
theorem State.carryLive_eq (legal : savedTableLegal (s.timetable.table.map fun b => b.config)) :
    carryLive s.timetable.table was = s.countedTable was := by
  obtain ⟨distinct, apart, lasts⟩ := legal.ordered
  cases was with
  | none => rfl
  | some p =>
    refine List.map_congr_left fun b hb => ?_
    simp only [eq_comm (a := b.config.id)]
    split
    · refine congrArg (fun n => (⟨b.config, n, p.dismissed⟩ : Booking)) (if_congr ?_ rfl rfl)
      rw [Bool.and_eq_true, decide_eq_true_eq, List.all_eq_true]
      refine and_congr_right fun week => (le_nextStart_iff distinct (starts_rise apart lasts) hb week).trans ?_
      simp only [Bool.or_eq_true, decide_eq_true_eq]
    · rfl

/-- R154: with the extension that is kept, no booking of the counted table starts before the end of an earlier one. -/
theorem State.countedTable_ordered (legal : savedTableLegal (s.timetable.table.map fun b => b.config)) :
    (s.countedTable was).Pairwise fun x y => x.finish ≤ y.config.start := by
  obtain ⟨-, apart, lasts⟩ := legal.ordered
  have both := (starts_rise apart lasts).and apart
  cases was with
  | none => exact List.pairwise_map.mpr apart
  | some p =>
    refine List.pairwise_map.mpr (both.imp_of_mem fun {x y} _ hy ⟨rises, free⟩ => ?_)
    simp only [apply_ite Booking.config, ite_self]
    split
    · simp only [Booking.finish]
      split
      · next fits =>
        rw [Bool.and_eq_true, List.all_eq_true] at fits
        have := fits.2 y hy
        simp only [Bool.or_eq_true, decide_eq_true_eq] at this
        omega
      · exact free
    · exact free

/-- R153, R154: the counted table is the live table in other live fields. -/
theorem State.countedTable_configs (s : State) (was : Option Booking) :
    (s.countedTable was).map (fun b => b.config) = s.timetable.table.map fun b => b.config := by
  cases was with
  | none => exact List.map_map.trans rfl
  | some p =>
    refine List.map_map.trans (List.map_congr_left fun b _ => ?_)
    exact (apply_ite Booking.config _ _ _).trans (ite_self _)

/-- R141: the live fields of the ended booking cleared, those of the counted table all are. -/
theorem State.countedTable_cleared (s : State) (p : Booking) :
    (s.countedTable (some p)).map (fun b => if b.config.id = p.config.id then b.fresh else b) = s.clearedTable := by
  refine List.map_map.trans (List.map_congr_left fun b _ => ?_)
  simp only [Function.comp, Booking.fresh]
  split <;> simp_all [eq_comm]

end Counted
end Sys2Proof.Machine
end

section
/-! PROOFS. The end of the active booking in a re-evaluation, and the state that follows it (R153). -/

namespace Sys2Proof.Machine

/-! ### A state beside another -/

/-- `u` is `y` but for what the PDU and the LCU write besides the demand set, and is `y` where `exact` holds. -/
structure State.Agrees (exact : Prop) (y u : State) : Prop where
  aside : y.Aside u
  demand : u.power.demand = y.power.demand
  whole : exact → u = y

namespace State.Agrees

variable {exact : Prop} {y u : State}

theorem refl (exact : Prop) (y : State) : y.Agrees exact y := ⟨.refl y, rfl, fun _ => rfl⟩

theorem editTimetable (h : y.Agrees exact u) (f : Timetable → Timetable) : (y.editTimetable f).Agrees exact (u.editTimetable f) where
  aside := { h.aside with timetable := congrArg f h.aside.timetable }
  demand := h.demand
  whole e := congrArg (State.editTimetable · f) (h.whole e)

theorem post (h : y.Agrees exact u) (topic : Topic) (value : Nat) : (y.post topic value).Agrees exact (u.post topic value) where
  aside := { h.aside with }
  demand := h.demand
  whole e := congrArg (State.post · topic value) (h.whole e)

/-- R52: a hand-off that writes the demand set `d`, which leaves it as empty as it was where `beside` holds. -/
theorem handPower (h : y.Agrees exact u) {x : Handoff} {d : Demand} {beside : Prop}
    (taken : u.Aside (u.handPower x) ∧ (u.handPower x).power.demand = d) (alone : beside → y.handPower x = y.wanting d) :
    (y.wanting d).Agrees (exact ∧ beside) (u.handPower x) where
  aside := { h.aside.trans taken.1 with }
  demand := taken.2
  whole := fun ⟨e, b⟩ => (congrArg (State.handPower · x) (h.whole e)).trans (alone b)

theorem addSchedule (h : y.Agrees exact u) (blank : y.BlankLegal) :
    (y.wanting { y.power.demand with schedule := true }).Agrees
      (exact ∧ (y.power.demand.schedule = true ∨ y.power.demand.panel = true ∨ y.power.demand.facility = true))
      (u.handPower (.addClaim .schedule)) :=
  h.handPower (h.demand ▸ u.addClaim_demand .schedule) fun beside => State.addSchedule_beside beside blank

theorem removeSchedule (h : y.Agrees exact u) (blank : y.BlankLegal) :
    (y.wanting { y.power.demand with schedule := false }).Agrees
      (exact ∧ (y.power.demand.schedule = false ∨ y.power.demand.panel = true ∨ y.power.demand.facility = true))
      (u.handPower (.removeClaim .schedule)) :=
  h.handPower (h.demand ▸ u.removeClaim_demand .schedule) fun beside => State.removeSchedule_beside beside blank

theorem leading (h : y.Agrees exact u) : u.leading = y.leading := by
  have window : u.inLeadWindow = y.inLeadWindow := by
    funext b
    have distance : u.distance b = y.distance b := by rw [State.distance, State.distance, h.aside.clock]
    rw [State.inLeadWindow, State.inLeadWindow, h.aside.timetable, distance]
  rw [State.leading, State.leading, h.aside.timetable, window]

end State.Agrees

/-! ### The schedule state where no booking is ACTIVE (R153, step 5) -/

/-- R153, step 5: the schedule state `x` with this grace and this SCHEDULE claim. -/
abbrev State.turning (y : State) (x : ScheduleState) (grace : Option Nat) (schedule : Bool) : State := { y with
  power.demand := { y.power.demand with schedule := schedule }
  timetable := { y.timetable with state := x, grace := grace } }

/-- R143: booking `b` leads at the present minute. -/
abbrev State.Leads (s : State) (b : Booking) : Prop :=
  0 < b.config.lead ∧ 1 ≤ (b.config.start + 10080 - s.clock.minute) % 10080 ∧
    (b.config.start + 10080 - s.clock.minute) % 10080 ≤ b.config.lead

theorem State.expireEmptyGrace_other {s : State} (grace : s.timetable.grace ≠ some 0) : s.expireEmptyGrace = s := if_neg grace

section Decides
variable {exact : Prop} {y u : State} {b : Booking} {ran : Option Nat}

/-- R153, step 5: the awaited booking leads. -/
theorem State.Agrees.leads (h : y.Agrees exact u) (blank : y.BlankLegal) (active : y.timetable.active = none)
    (awaits : y.timetable.awaited = some b) (leads : y.Leads b) :
    (if ran = some b.config.id then y.turning .lead none true else (y.turning .lead none true).post (.booking b.config.id) 1).Agrees
      (exact ∧ (y.power.demand.schedule = true ∨ y.power.demand.panel = true ∨ y.power.demand.facility = true))
      (u.decideState ran).expireEmptyGrace := by
  have leading : u.leading = some b := h.leading.trans (State.leading_some active awaits leads.2.1 leads.2.2)
  have claimed := (h.editTimetable (·.turned .lead)).addSchedule (blank.retimed rfl)
  have decided : u.decideState ran = u.leadOn b ran := by rw [State.decideState, leading]
  rw [decided, State.leadOn]
  split
  · rw [State.expireEmptyGrace_other (by rw [claimed.aside.timetable]; exact nofun)]
    exact claimed
  · have told := claimed.post (.booking b.config.id) 1
    rw [State.enterLead, State.expireEmptyGrace_other (by rw [told.aside.timetable]; exact nofun)]
    exact told

/-- R153, step 5: none leads, and the grace runs on. -/
theorem State.Agrees.stays (h : y.Agrees exact u) (unled : ∀ b, y.timetable.awaited = some b → ¬ y.Leads b)
    (graced : y.timetable.state = .grace) (runs : y.timetable.grace ≠ some 0) : y.Agrees exact (u.decideState ran).expireEmptyGrace := by
  have leading : u.leading = none := h.leading.trans (State.leading_none fun b awaits window => unled b awaits ⟨by omega, window⟩)
  have decided : u.decideState ran = u := by
    rw [State.decideState, leading]
    exact if_pos (h.aside.timetable ▸ graced)
  rw [decided, State.expireEmptyGrace_other (h.aside.timetable ▸ runs)]
  exact h

/-- R153, step 5: none leads, and no grace runs. -/
theorem State.Agrees.rests (h : y.Agrees exact u) (blank : y.BlankLegal) (unled : ∀ b, y.timetable.awaited = some b → ¬ y.Leads b)
    (ungraced : y.timetable.state ≠ .grace) : (y.turning .idle none false).Agrees
      (exact ∧ (y.power.demand.schedule = false ∨ y.power.demand.panel = true ∨ y.power.demand.facility = true))
      (u.decideState ran).expireEmptyGrace := by
  have leading : u.leading = none := h.leading.trans (State.leading_none fun b awaits window => unled b awaits ⟨by omega, window⟩)
  have claimed := (h.editTimetable (·.turned .idle)).removeSchedule (blank.retimed rfl)
  have decided : u.decideState ran = u.enterIdle := by
    rw [State.decideState, leading]
    exact if_neg (h.aside.timetable ▸ ungraced)
  rw [decided, State.expireEmptyGrace_other (by rw [State.enterIdle, claimed.aside.timetable]; exact nofun)]
  exact claimed

end Decides

/-! ### The end of the active booking (R148, R153, step 2) -/

/-- R148, steps 1 to 5: booking `p` has ended, with the timetable then as `x`. -/
def State.closing (s : State) (p : Booking) (x : Timetable) : State :=
  ((({ s with timetable := x } : State).claimed 0 0).handPresets none s.tilt.rowPreset false).followBlankTimer.post (.booking p.config.id) 3

theorem State.followBlankTimer_retimed {s : State} {x : Timetable} (active : x.active = s.timetable.active) :
    ({ s with timetable := x } : State).followBlankTimer = { s.followBlankTimer with timetable := x } := by
  unfold State.followBlankTimer State.blankTiming
  simp only [active]
  repeat' split
  all_goals rfl

theorem State.closing_retimed (s : State) (p : Booking) {x y : Timetable} (active : x.active = y.active) :
    s.closing p x = { s.closing p y with timetable := x } := by
  have handed : (({ s with timetable := x } : State).claimed 0 0).handPresets none s.tilt.rowPreset false =
      { (({ s with timetable := y } : State).claimed 0 0).handPresets none s.tilt.rowPreset false with timetable := x } := by
    rw [← State.handPresets_retimed, ← State.claimed_timetable]
  rw [State.closing, handed, State.followBlankTimer_retimed]
  · rfl
  · rw [active, State.handPresets_timetable, State.claimed_timetable]

/-- What the end of a booking leaves of the rest. -/
theorem State.closing_frame (s : State) (p : Booking) (x : Timetable) :
    (s.closing p x).timetable = x ∧ (s.closing p x).lockout = s.lockout.claimed 0 0 ∧ (s.closing p x).tilt.bookingPreset = none ∧
      (s.closing p x).acq = s.acq ∧ (s.closing p x).inputs = s.inputs ∧ (s.closing p x).clock = s.clock ∧
      (s.closing p x).staging = s.staging ∧ (s.closing p x).ports = s.ports ∧ (s.closing p x).lines = s.lines := by
  rw [State.closing, ← State.handBookingClaim_eq]
  refine ⟨?_, ?_, (State.followBlankTimer_tilt _).symm ▸ State.handPresets_booking _ _ _ _, ?_⟩
  · simp [State.handBookingClaim]
  · rw [State.handBookingClaim_eq]
    simp [State.claimed_lockout]
  · simp [State.handBookingClaim]

theorem State.closing_power (s : State) (p : Booking) (x : Timetable) : (s.closing p x).power.demand = s.power.demand ∧
    (s.closing p x).power.state = s.power.state ∧ (s.closing p x).power.settings = s.power.settings := by
  have same : ((({ s with timetable := x } : State).claimed 0 0).handPresets none s.tilt.rowPreset false).power = s.power :=
    (State.handPresets_power _ _ _ _).trans (State.claimed_frame _ 0 0).1
  obtain ⟨timer, spent, timed, -⟩ :=
    ((({ s with timetable := x } : State).claimed 0 0).handPresets none s.tilt.rowPreset false).followBlankTimer_timed
  have power : (s.closing p x).power = { s.power with blankTimer := timer, blankSpent := spent } := by
    refine (congrArg State.power timed).trans ?_
    rw [State.timed, same]
  rw [power]
  exact ⟨rfl, rfl, rfl⟩

theorem State.closing_blank (s : State) (p : Booking) (x : Timetable) : (s.closing p x).BlankLegal :=
  (State.followBlankTimer_legal _).frame rfl rfl

/-- R148: the end of a booking is this one, in the timetable that its first step leaves. -/
theorem State.endBooking_closing (s : State) (p : Booking) : s.endBooking p = s.closing p (s.timetable.finish p) := by
  have tilt : (({ s with timetable := s.timetable.finish p } : State).claimed 0 0).tilt = s.tilt := (State.claimed_frame _ 0 0).2.2.1
  unfold State.endBooking State.closing
  simp only [State.editTimetable, State.handBookingClaim_eq, State.handBookingPreset, tilt]

/-! ### The conversion (R55) -/

theorem Booking.leavesGrace_iff (p : Booking) : p.leavesGrace = true ↔ p.config.autoOff = true ∧ p.dismissed = false := by
  rw [Booking.leavesGrace, Bool.and_eq_true, Bool.not_eq_true']

/-- R55: a conversion: nothing where SCHEDULE is not claimed, and the demand set as empty as it was outside STANDBY. -/
theorem State.convert_agrees {y : State} (blank : y.BlankLegal) :
    let d : Demand := ⟨y.power.demand.panel || y.power.state != .standby, false, y.power.demand.facility⟩
    (y.power.demand.schedule = false → y.handPower .convert = y) ∧
    (y.power.demand.schedule = true → (y.wanting d).Agrees (y.power.state ≠ .standby) (y.handPower .convert)) := by
  intro d
  refine ⟨fun unclaimed => ?_, fun claimed => ?_⟩
  · have bare : Work.takeBare .convert ⟨y, []⟩ = ⟨y, []⟩ := if_pos (by rw [unclaimed]; rfl)
    show Work.run 63 (Work.take _ ⟨y, []⟩) = _
    rw [Work.take_self bare blank, Work.run_empty]
  · have bare : Work.takeBare .convert ⟨y, []⟩ = Work.changeDemand ⟨y, []⟩ d := by
      have some : ¬ (!y.power.demand.schedule) = true := by rw [claimed]; exact nofun
      refine (if_neg some).trans ?_
      by_cases standby : y.power.state = .standby
      · simp [d, standby]
      · have lit : (y.power.state != .standby) = true := bne_iff_ne.mpr standby
        simp [d, standby, lit]
    obtain ⟨aside, demand⟩ := State.handPower_demand bare
    refine ⟨{ aside with }, demand, fun lit => State.handPower_beside bare ?_ blank⟩
    have panel : d.panel = true := by simp [d, lit]
    have now : d.isEmpty = false := Demand.isEmpty_eq_false fun none => by rw [none] at panel; cases panel
    exact now.trans (Demand.isEmpty_eq_false fun none => by rw [none] at claimed; cases claimed).symm

end Sys2Proof.Machine
end

section
/-! PROOFS. What every re-evaluation leaves (R153, R154). -/

namespace Sys2Proof.Machine

section Ends
variable {s : State} {p : Booking}

/-- R153, step 1: the live table counted with. -/
abbrev State.counting (s : State) (was : Option Booking) : State := s.editTimetable fun t => { t with table := s.countedTable was }

/-- R148, R153: the timetable once the active booking `p` has ended. -/
abbrev State.endedTimetable (s : State) (p : Booking) : Timetable := { s.timetable with
  table := s.clearedTable, active := none, cursor := s.timetable.cursor + 1
  state := if p.leavesGrace then .grace else .idle
  grace := if p.leavesGrace then some (60 * s.power.settings.autoOffGrace) else s.timetable.grace }

/-- R55, R57: the end of the previous active booking converts nothing, or does so outside STANDBY, where no re-check follows. -/
abbrev State.Told (s : State) (was : Option Booking) : Prop := s.convertedDemand was = s.power.demand ∨ s.power.state ≠ .standby

/-- R148, R153, step 2: the active booking has ended. -/
theorem State.endForReevaluation_agrees (s : State) (p : Booking) :
    ((s.closing p (s.endedTimetable p)).wanting (s.convertedDemand (some p))).Agrees (s.Told (some p))
      ((s.counting (some p)).endForReevaluation p) := by
  let idle : Timetable := { s.timetable with table := s.clearedTable, active := none, state := .idle, cursor := s.timetable.cursor + 1 }
  obtain ⟨timetable, -⟩ := s.closing_frame p idle
  obtain ⟨demand, state, settings⟩ := s.closing_power p idle
  have ended : (s.counting (some p)).endBooking p = s.closing p idle := by
    have finish : (s.counting (some p)).timetable.finish p = idle :=
      congrArg (fun l => ({ idle with table := l } : Timetable)) (s.countedTable_cleared p)
    rw [State.endBooking_closing, finish]
    rfl
  have kept : s.convertedDemand (some p) = s.power.demand → ∀ x : Timetable, x.active = none →
      (s.closing p x).wanting (s.convertedDemand (some p)) = { s.closing p idle with timetable := x } := by
    intro same x active
    rw [s.closing_retimed p (x := x) (y := idle) active, same, ← demand]
  unfold State.endForReevaluation
  simp only [ended]
  by_cases graces : p.leavesGrace = true
  · have same : s.convertedDemand (some p) = s.power.demand := if_pos (.inl ((p.leavesGrace_iff).mp graces).1)
    have entered : (s.closing p idle).enterGrace = { s.closing p idle with timetable := s.endedTimetable p } := by
      rw [State.enterGrace, State.editTimetable, timetable, settings, State.endedTimetable, if_pos graces, if_pos graces]
    rw [if_pos graces, entered, kept same _ rfl]
    exact .refl _ _
  · have still : s.endedTimetable p = idle := by simp only [State.endedTimetable, graces, if_false, idle, Bool.false_eq_true]
    have whole : ({ s.closing p idle with timetable := idle } : State) = s.closing p idle :=
      congrArg (fun x => ({ s.closing p idle with timetable := x } : State)) timetable.symm
    rw [if_neg graces, still, State.convertFor]
    split
    · next auto =>
      rw [kept (if_pos (.inl auto)) _ rfl, whole]
      exact .refl _ _
    · next manual =>
      obtain ⟨unclaimed, claimed⟩ := State.convert_agrees (s.closing_blank p idle)
      cases claim : s.power.demand.schedule with
      | false =>
        rw [unclaimed ((congrArg Demand.schedule demand).trans claim), kept (if_pos (.inr claim)) _ rfl, whole]
        exact .refl _ _
      | true =>
        have converted : s.convertedDemand (some p) =
            ⟨s.power.demand.panel || s.power.state != .standby, false, s.power.demand.facility⟩ :=
          if_neg (by rintro (auto | none); exacts [manual auto, absurd (claim.symm.trans none) (by decide)])
        have agrees := claimed ((congrArg Demand.schedule demand).trans claim)
        rw [demand, state] at agrees
        rw [converted]
        refine { agrees with whole := fun told => agrees.whole (told.resolve_left fun same => ?_) }
        rw [converted] at same
        rw [← same] at claim
        cases claim

end Ends

/-! ### No booking around the minute (R153, steps 4 and 5) -/

section Closes
variable {s y t : State} {was : Option Booking} {ran : Option Nat} {i : Nat}

/-- R153, step 4: the state before step 5, but for the demand set and the schedule state. -/
def State.closedFor (s : State) (was : Option Booking) (i : Nat) : State :=
  let x : Timetable := { s.timetable with table := s.clearedTable, active := none, cursor := i }
  match was with
  | some p => s.closing p x
  | none => { s with timetable := x }

/-- R148, R153: step 5 finds the state GRACE. -/
def State.Graced (s : State) (was : Option Booking) : Prop :=
  match was with
  | some p => p.config.autoOff = true ∧ p.dismissed = false
  | none => s.timetable.state = .grace

/-- R148: the grace timer that step 5 then finds. -/
def State.graceFor (s : State) (was : Option Booking) : Option Nat :=
  match was with
  | some _ => some (60 * s.power.settings.autoOffGrace)
  | none => s.timetable.grace

theorem State.closedFor_timetable (s : State) (was : Option Booking) (i : Nat) :
    (s.closedFor was i).timetable = { s.timetable with table := s.clearedTable, active := none, cursor := i } := by
  cases was with
  | none => rfl
  | some p => exact (s.closing_frame p _).1

theorem State.closedFor_blank (blank : s.BlankLegal) (active : was = none → s.timetable.active = none) :
    (s.closedFor was i).BlankLegal := by
  cases was with
  | none => exact blank.retimed (active rfl).symm
  | some p => exact s.closing_blank p _

/-- `y` has of `s` what no step of a re-evaluation without a start writes. -/
abbrev State.AsBefore (s y : State) : Prop :=
  y.acq = s.acq ∧ y.inputs = s.inputs ∧ y.clock = s.clock ∧ y.staging = s.staging ∧ y.ports = s.ports ∧ y.lines = s.lines

theorem State.closedFor_beside (s : State) (was : Option Booking) (i : Nat) : s.AsBefore (s.closedFor was i) := by
  cases was with
  | none => exact ⟨rfl, rfl, rfl, rfl, rfl, rfl⟩
  | some p => exact (s.closing_frame p _).2.2.2

theorem State.Agrees.becomes {exact a b : Prop} (h : y.Agrees exact t) (same : s.AsBefore y) (whole : a → b → exact) :
    t.timetable = y.timetable ∧ t.power.demand = y.power.demand ∧ t.lockout = y.lockout ∧ t.tilt.bookingPreset = y.tilt.bookingPreset ∧
      t.acq = s.acq ∧ t.inputs = s.inputs ∧ t.clock = s.clock ∧ t.staging = s.staging ∧ t.ports = s.ports ∧ t.lines = s.lines ∧
      (a → b → t = y) := by
  obtain ⟨acq, inputs, clock, staging, ports, lines⟩ := same
  exact ⟨h.aside.timetable, h.demand, h.aside.lockout, h.aside.bookingPreset, h.aside.acq.trans acq, h.aside.inputs.trans inputs,
    h.aside.clock.trans clock, h.aside.staging.trans staging, h.aside.ports.trans ports, h.aside.lines.trans lines,
    fun ha hb => h.whole (whole ha hb)⟩

/-- R153, step 5, after a step 2 that left the schedule state `x` and the grace timer `g`. -/
theorem State.closes_of {x : ScheduleState} {g : Option Nat} (blank : s.BlankLegal) (active : was = none → s.timetable.active = none)
    (h : (((s.closedFor was i).wanting (s.convertedDemand was)).editTimetable fun t => { t with state := x, grace := g }).Agrees
      (s.Told was) y)
    (graced : s.Graced was → x = .grace ∧ g = s.graceFor was) (ungraced : ¬ s.Graced was → x ≠ .grace) :
    s.Closes was ran i (y.decideState ran).expireEmptyGrace := by
  have timetable := s.closedFor_timetable was i
  have same := s.closedFor_beside was i
  obtain ⟨-, -, clock, -⟩ := same
  let z := ((s.closedFor was i).wanting (s.convertedDemand was)).editTimetable fun t => { t with state := x, grace := g }
  have legal : z.BlankLegal := ((State.closedFor_blank blank active).wanting _).retimed rfl
  have awaited : z.timetable.awaited = s.clearedTable[if i < s.clearedTable.length then i else 0]? := by
    rw [Timetable.awaited_eq]
    simp only [z, State.editTimetable, timetable]
  have leads (b : Booking) : z.Leads b ↔ s.Leads b := by
    simp only [State.Leads, z, State.editTimetable, clock]
  refine ⟨fun b awaits near => ?_, fun unled => ⟨fun grace runs => ?_, fun grace => ?_⟩⟩
  · have led := h.leads (ran := ran) legal (congrArg Timetable.active timetable) (awaited.trans awaits) ((leads b).mpr near)
    refine led.becomes ?_ fun a b => ⟨a, b⟩
    split <;> exact s.closedFor_beside was i
  · obtain ⟨rfl, rfl⟩ := graced grace
    have stays := h.stays (ran := ran) (fun b awaits near => unled b (awaited.symm.trans awaits) ((leads b).mp near)) rfl runs
    exact stays.becomes (s.closedFor_beside was i) fun a _ => a
  · have rests := h.rests (ran := ran) legal (fun b awaits near => unled b (awaited.symm.trans awaits) ((leads b).mp near)) (ungraced grace)
    exact rests.becomes (s.closedFor_beside was i) fun a b => ⟨a, b⟩

theorem cursorAt_congr {x y : List Booking} (configs : x.map (fun b => b.config) = y.map fun b => b.config) (m : Nat) :
    cursorAt x m = cursorAt y m := by
  have by_config (l : List Booking) : cursorAt l m =
      ((l.map fun b => b.config).findIdx? (fun c => m < c.start)).getD (l.map fun b => b.config).length := by
    rw [List.findIdx?_map, List.length_map]
    rfl
  rw [by_config, by_config, configs]

theorem State.clearedTable_configs (s : State) : s.clearedTable.map (fun b => b.config) = s.timetable.table.map fun b => b.config :=
  s.countedTable_configs none

/-- R153, steps 2, 4 and 5: a re-evaluation that finds no booking around the minute. -/
theorem State.reevaluateEmpty_closes {before : Before} (blank : s.BlankLegal) (active : before.active = none → s.timetable.active = none)
    (cursor : cursorAt s.clearedTable s.clock.minute = i) :
    s.Closes before.active before.lead i ((s.counting before.active).reevaluateEmpty before) := by
  obtain ⟨was, ran⟩ := before
  cases was with
  | none =>
    have counted : ((s.counting none).editTimetable fun t => { t with cursor := cursorAt t.table s.clock.minute }) =
        ((s.closedFor none i).wanting (s.convertedDemand none)).editTimetable fun t =>
          { t with state := s.timetable.state, grace := s.timetable.grace } := by
      show ({ s with timetable := { s.timetable with table := s.clearedTable, cursor := cursorAt s.clearedTable s.clock.minute } } : State) =
        { s with timetable := { s.timetable with table := s.clearedTable, active := none, cursor := i } }
      rw [cursor, ← active rfl]
    exact State.closes_of blank active (counted ▸ .refl _ _) (fun graced => ⟨graced, rfl⟩) (fun ungraced => ungraced)
  | some p =>
    let ended := (s.counting (some p)).endForReevaluation p
    have agrees := s.endForReevaluation_agrees p
    obtain ⟨timetable, -, -, -, -, clock, -⟩ := s.closing_frame p (s.endedTimetable p)
    have found : cursorAt ended.timetable.table ended.clock.minute = i := by
      have now : ended.clock = s.clock := agrees.aside.clock.trans clock
      have left : ended.timetable = s.endedTimetable p := agrees.aside.timetable.trans timetable
      rw [left, now]
      exact cursor
    have moved : ended.editTimetable (fun t => { t with cursor := cursorAt t.table ended.clock.minute }) =
        ended.editTimetable fun t => { t with cursor := i } := by
      simp only [State.editTimetable, found]
    have here : (((s.closing p (s.endedTimetable p)).wanting (s.convertedDemand (some p))).editTimetable fun t => { t with cursor := i }) =
        ((s.closedFor (some p) i).wanting (s.convertedDemand (some p))).editTimetable fun t =>
          { t with
            state := if p.leavesGrace then .grace else .idle
            grace := if p.leavesGrace then some (60 * s.power.settings.autoOffGrace) else s.timetable.grace } := by
      have retimed : s.closing p (s.endedTimetable p) = { s.closedFor (some p) i with timetable := s.endedTimetable p } :=
        s.closing_retimed p rfl
      rw [retimed]
      simp only [State.editTimetable, State.closedFor_timetable]
    have done := agrees.editTimetable fun t => { t with cursor := i }
    rw [here, ← moved] at done
    refine State.closes_of blank active done (fun graced => ?_) (fun ungraced => ?_)
    · rw [if_pos ((p.leavesGrace_iff).mpr graced), if_pos ((p.leavesGrace_iff).mpr graced)]
      exact ⟨rfl, rfl⟩
    · rw [if_neg fun graces => ungraced ((p.leavesGrace_iff).mp graces)]
      exact nofun

end Closes
end Sys2Proof.Machine
end

section
/-! PROOFS. Every re-evaluation: the booking that starts, the booking that is kept, and all together (R153, R154). -/

namespace Sys2Proof.Machine

/-! ### A start (R147, R153, steps 2 and 3) -/

section Starts
variable {s e : State} {was : Option Booking} {i : Nat} {b p : Booking}

/-- R147, R153: the start of booking `b` in a state that differs from `s` as the end of the previous active booking makes it. -/
theorem State.starts_of (table : e.timetable.table = s.clearedTable) (enable : e.timetable.enable = s.timetable.enable)
    (demand : e.power.demand = s.convertedDemand was) (lockout : ∀ level c, e.lockout.claimed level c = s.lockout.claimed level c)
    (same : s.AsBefore e) : s.Starts was i b.config (e.startBooking i b) := by
  obtain ⟨acq, inputs, clock, staging, ports, lines⟩ := same
  obtain ⟨timetable, claims, locks, preset, unselected, selected, level, at_clock, at_staging, at_ports, at_lines⟩ :=
    State.startBooking_starts (s := e) (i := i) (b := b) (table ▸ s.clearedTable_fresh)
  have chosen : e.resolve b.config.sourceClass = s.resolve b.config.sourceClass := State.resolve_congr inputs _
  rw [chosen] at unselected selected
  refine ⟨?_, ?_, locks.trans (lockout _ _), preset, fun none => ?_, selected, fun full => level .full (by rw [full]; rfl),
    fun eco => level .eco (by rw [eco]; rfl), at_clock.trans clock, at_staging.trans staging, at_ports.trans ports, at_lines.trans lines⟩
  · simp only [timetable, table, enable]
  · rw [claims, demand]
  · exact ⟨(unselected none).1.trans acq, (unselected none).2.trans inputs⟩

theorem State.startBooking_counted (s : State) (i : Nat) (b : Booking) : s.Starts none i b.config ((s.counting none).startBooking i b) :=
  State.starts_of rfl rfl rfl (fun _ _ => rfl) ⟨rfl, rfl, rfl, rfl, rfl, rfl⟩

theorem State.startBooking_ended (s : State) (p : Booking) (i : Nat) (b : Booking) :
    s.Starts (some p) i b.config (((s.counting (some p)).endForReevaluation p).startBooking i b) := by
  obtain ⟨aside, demand, -⟩ := s.endForReevaluation_agrees p
  obtain ⟨timetable, lockout, -, acq, inputs, clock, staging, ports, lines⟩ := s.closing_frame p (s.endedTimetable p)
  have left := aside.timetable.trans timetable
  refine State.starts_of (congrArg Timetable.table left) (congrArg Timetable.enable left :) demand (fun level c => ?_)
    ⟨aside.acq.trans acq, aside.inputs.trans inputs, aside.clock.trans clock, aside.staging.trans staging, aside.ports.trans ports,
      aside.lines.trans lines⟩
  rw [aside.lockout.trans lockout]
  rfl

end Starts

/-! ### A booking kept (R154) -/

section Keeps
variable {s : State} {old new : BookingConfig}

/-- R154: the claim on the lockout that the kept booking makes anew. -/
def State.relocked (x : State) (old new : BookingConfig) : State :=
  if new.lockout = old.lockout ∧ new.sourceClass = old.sourceClass then x else x.claimed new.lockout new.sourceClass

/-- R154: the preset that the kept booking names anew. -/
def State.represet (x : State) (old new : BookingConfig) : State :=
  if new.preset = old.preset then x else x.handPresets new.preset x.tilt.rowPreset false

/-- R154: the selection that the kept booking makes anew, with its NO-MATCH. -/
def State.reselected (s : State) (old new : BookingConfig) : State × Bool :=
  if new.sourceClass ≠ old.sourceClass ∧ new.sourceClass ≠ 0 then s.selectForBooking new.sourceClass else (s, false)

theorem State.reapply_eq (s : State) (old new : BookingConfig) :
    s.reapply old new = (((if (s.reselected old new).2 then (s.reselected old new).1.post (.booking new.id) 4
      else (s.reselected old new).1).relocked old new).represet old new) := by
  have lock (x : State) : (if new.lockout ≠ old.lockout ∨ new.sourceClass ≠ old.sourceClass then
      x.handBookingClaim new.lockout new.sourceClass else x) = x.relocked old new := by
    simp only [State.relocked, State.handBookingClaim_eq, ne_eq, ← not_and_or, ite_not]
  have present (x : State) : (if new.preset ≠ old.preset then x.handBookingPreset new.preset else x) = x.represet old new := ite_not ..
  unfold State.reapply
  simp only [lock, present]
  rfl

theorem State.reselected_same (same : new.sourceClass = old.sourceClass ∨ new.sourceClass = 0) : s.reselected old new = (s, false) :=
  if_neg fun ⟨changed, named⟩ => same.elim changed named

theorem State.reselected_new (changed : new.sourceClass ≠ old.sourceClass) (named : new.sourceClass ≠ 0) :
    s.reselected old new = match (s.resolve new.sourceClass).row with
      | none => (s, true)
      | some n => (s.selectRow n (.byClass new.sourceClass), false) := if_pos ⟨changed, named⟩

/-- R89, R94: no selection writes the booking preset or the store. -/
theorem State.bookingPreset_kept (x : Option (Fin 8)) (store : Store) :
    KeptByAcquisition fun t => t.tilt.bookingPreset = x ∧ t.store = store where
  acq _ _ h := h
  status _ _ h := h
  post _ _ h := h

theorem State.selectRow_bookingPreset (s : State) (n : Fin 10) (m : SelectMethod) :
    (s.selectRow n m).tilt.bookingPreset = s.tilt.bookingPreset ∧ (s.selectRow n m).store = s.store := by
  have kept := State.bookingPreset_kept s.tilt.bookingPreset s.store
  unfold State.selectRow
  split
  · unfold State.selectAgain
    simp only
    split
    · exact kept.restartRow n m ⟨rfl, rfl⟩
    · exact ⟨rfl, rfl⟩
  · have left := kept.leaveRow (kept.strobe (s := { s with acq.selLines := n }) ⟨rfl, rfl⟩)
    exact kept.beginAcquisition n (kept.post _ _
      ⟨(State.handPresets_booking _ _ _ _).trans left.1, (State.handPresets_store _ _ _ _).trans left.2⟩)

/-- R154: what neither the claim on the lockout nor the preset of a kept booking writes. -/
theorem State.relocked_frame (x : State) (old new : BookingConfig) :
    (x.relocked old new).tilt = x.tilt ∧ (x.relocked old new).acq = x.acq ∧ (x.relocked old new).timetable = x.timetable ∧
      (x.relocked old new).power = x.power ∧ (x.relocked old new).lamps = x.lamps ∧ (x.relocked old new).accounts = x.accounts ∧
      (x.relocked old new).store = x.store ∧ (x.relocked old new).clock = x.clock ∧ (x.relocked old new).staging = x.staging ∧
      (x.relocked old new).ports = x.ports ∧ (x.relocked old new).lines = x.lines := by
  rw [State.relocked, ← State.handBookingClaim_eq]
  split <;> simp [State.handBookingClaim]

theorem State.represet_frame (x : State) (old new : BookingConfig) :
    (x.represet old new).lockout = x.lockout ∧ (x.represet old new).acq = x.acq ∧ (x.represet old new).timetable = x.timetable ∧
      (x.represet old new).power = x.power ∧ (x.represet old new).lamps = x.lamps ∧ (x.represet old new).accounts = x.accounts ∧
      (x.represet old new).store = x.store ∧ (x.represet old new).clock = x.clock ∧ (x.represet old new).staging = x.staging ∧
      (x.represet old new).ports = x.ports ∧ (x.represet old new).lines = x.lines := by
  unfold State.represet
  split <;> simp

theorem State.represet_bookingPreset {x y : State} (same : x.tilt.bookingPreset = y.tilt.bookingPreset) :
    (x.represet old new).tilt.bookingPreset = (y.represet old new).tilt.bookingPreset := by
  unfold State.represet
  split
  · exact same
  · rw [State.handPresets_booking, State.handPresets_booking]

/-- R154: a re-evaluation that keeps the active booking. -/
theorem State.reapply_keeps (s : State) (table : List Booking) (i : Nat) (old new : BookingConfig) :
    s.Keeps table i old new (({ s with
      timetable := { s.timetable with table := table, state := .active, active := some new.id, cursor := i } } : State).reapply old new) := by
  let kept : State := { s with
    timetable := { s.timetable with table := table, state := .active, active := some new.id, cursor := i } }
  show s.Keeps table i old new (kept.reapply old new)
  have chosen : kept.resolve new.sourceClass = s.resolve new.sourceClass := State.resolve_congr rfl _
  rw [State.reapply_eq]
  refine ⟨fun same => ?_, fun changed named => ⟨fun none => ?_, fun n found => ?_⟩⟩
  · rw [State.reselected_same same]
    rfl
  · rw [State.reselected_new changed named, chosen, none]
    rfl
  · rw [State.reselected_new changed named, chosen, found]
    let selected : State := kept.selectRow n (.byClass new.sourceClass)
    have selecting := kept.selecting_kept.selectRow n (.byClass new.sourceClass) ⟨rfl, rfl, rfl, rfl, rfl, rfl, rfl⟩
    have lamps := State.SameLamps.selectRow kept n (.byClass new.sourceClass)
    obtain ⟨bookingPreset, store⟩ := kept.selectRow_bookingPreset n (.byClass new.sourceClass)
    have lockout : (selected.relocked old new).lockout = selected.lockout.claimed new.lockout new.sourceClass :=
      (congrArg State.lockout (if_neg fun same => changed same.2)).trans (State.claimed_lockout _ _ _)
    obtain ⟨ltilt, lacq, ltimetable, lpower, llamps, laccounts, lstore, lclock, lstaging, lports, llines⟩ := selected.relocked_frame old new
    obtain ⟨plockout, pacq, ptimetable, ppower, plamps, paccounts, pstore, pclock, pstaging, pports, plines⟩ :=
      (selected.relocked old new).represet_frame old new
    exact ⟨(congrArg Acquisition.selected (pacq.trans lacq)).trans (kept.selectRow_selected n _),
      ptimetable.trans (ltimetable.trans selecting.timetable), plockout.trans (lockout.trans (selecting.lockout ▸ rfl)),
      State.represet_bookingPreset ((congrArg Tilt.bookingPreset ltilt).trans bookingPreset), ppower.trans (lpower.trans selecting.power),
      plamps.trans (llamps.trans lamps.lamps), paccounts.trans (laccounts.trans lamps.accounts), pstore.trans (lstore.trans store),
      pclock.trans (lclock.trans selecting.clock), pstaging.trans (lstaging.trans selecting.staging),
      pports.trans (lports.trans selecting.ports), plines.trans (llines.trans selecting.lines)⟩

end Keeps

/-! ### Every re-evaluation (R153) -/

section Reevaluates
variable {s : State} {before : Before} {i : Nat} {b : Booking}

theorem State.reevaluate_counting (runs : s.timetable.state.runs = true)
    (legal : savedTableLegal (s.timetable.table.map fun b => b.config)) :
    s.reevaluate before = match (s.countedTable before.active).findIdx? (fun b => b.contains s.clock.minute) with
      | some i => match (s.countedTable before.active)[i]? with
        | some b => (s.counting before.active).reevaluateWithin before i b
        | none => s.counting before.active
      | none => (s.counting before.active).reevaluateEmpty before := by
  have counted : (s.editTimetable fun t => { t with table := carryLive t.table before.active }) = s.counting before.active := by
    rw [State.editTimetable, State.carryLive_eq legal]
    rfl
  rw [State.reevaluate, if_pos runs]
  simp only [counted]
  rfl

theorem State.reevaluate_inside (runs : s.timetable.state.runs = true)
    (legal : savedTableLegal (s.timetable.table.map fun b => b.config)) (at_i : (s.countedTable before.active)[i]? = some b)
    (inside : b.contains s.clock.minute = true) : s.reevaluate before = (s.counting before.active).reevaluateWithin before i b := by
  rw [State.reevaluate_counting runs legal, containing_eq (State.countedTable_ordered legal) at_i inside]
  simp only [at_i]

/-- R153, R154: what every re-evaluation leaves. -/
theorem State.reevaluate_reevaluates (runs : s.timetable.state.runs = true) (before : Before) :
    s.Reevaluates before.active before.lead (s.reevaluate before) := by
  intro legal blank active
  refine ⟨fun i b at_i inside => ?_, fun i outside short first last => ?_⟩
  · rw [State.reevaluate_inside runs legal at_i ((b.contains_iff _).mpr inside), State.reevaluateWithin]
    obtain ⟨was, ran⟩ := before
    cases was with
    | none => exact ⟨nofun, fun _ => s.startBooking_counted i b⟩
    | some p =>
      refine ⟨fun q same id => ?_, fun other => ?_⟩
      · obtain rfl : p = q := Option.some.inj same
        simp only [id, if_true]
        exact State.reapply_keeps s _ i _ _
      · simp only [other p rfl, if_false]
        exact s.startBooking_ended p i b
  · have none : (s.countedTable before.active).findIdx? (fun b => b.contains s.clock.minute) = .none := by
      rw [List.findIdx?_eq_none_iff]
      exact fun b hb => Bool.eq_false_iff.mpr ((b.contains_iff _).not.mpr (outside b hb))
    have cursor : cursorAt s.clearedTable s.clock.minute = i :=
      (cursorAt_congr (s.clearedTable_configs.trans (s.countedTable_configs before.active).symm) _).trans (cursorAt_eq short first last)
    rw [State.reevaluate_counting runs legal, none]
    exact State.reevaluateEmpty_closes blank active cursor

end Reevaluates
end Sys2Proof.Machine
end

section
/-! PROOFS. What a re-evaluation leaves of the plan: the clock, the enable, the configurations of the live table, the staging list and
the two saves of the WCT (R153, R166). -/

namespace Sys2Proof.Machine

/-- `t` has the clock, the enable, the configured bookings, the staging list and the WCT's saves of `s`. -/
structure State.SamePlan (s t : State) : Prop where
  clock : t.clock = s.clock
  enable : t.timetable.enable = s.timetable.enable
  configs : t.timetable.table.map (fun b => b.config) = s.timetable.table.map fun b => b.config
  staging : t.staging = s.staging
  savedEnable : t.store.scheduleEnable = s.store.scheduleEnable
  savedTable : t.store.liveTable = s.store.liveTable

namespace State.SamePlan

variable {s t u : State} {w : Work}

theorem refl (s : State) : s.SamePlan s := ⟨rfl, rfl, rfl, rfl, rfl, rfl⟩

theorem trans (st : s.SamePlan t) (tu : t.SamePlan u) : s.SamePlan u :=
  ⟨tu.clock.trans st.clock, tu.enable.trans st.enable, tu.configs.trans st.configs, tu.staging.trans st.staging,
    tu.savedEnable.trans st.savedEnable, tu.savedTable.trans st.savedTable⟩

/-- What writes neither the clock nor the WCT. -/
theorem frame (st : s.SamePlan t) (clock : u.clock = t.clock) (timetable : u.timetable = t.timetable) (staging : u.staging = t.staging)
    (store : u.store = t.store) : s.SamePlan u :=
  st.trans ⟨clock, by rw [timetable], by rw [timetable], staging, by rw [store], by rw [store]⟩

/-! ### The lamps (R13 to R36) -/

theorem setCondition (h : s.SamePlan t) (l : Lamp) (c : LampCondition) : s.SamePlan (t.setCondition l c) := h.frame rfl rfl rfl rfl

theorem moveLamp (h : s.SamePlan w.s) (l : Lamp) (c : LampCondition) : s.SamePlan (w.moveLamp l c).s := by
  simp only [Work.moveLamp, Work.edit_s]
  split <;> exact h.trans ⟨rfl, rfl, rfl, rfl, rfl, rfl⟩

theorem abandonStrike (h : s.SamePlan w.s) (l : Lamp) : s.SamePlan (w.abandonStrike l).s := by
  unfold Work.abandonStrike
  split
  exacts [h.setCondition l _, h.moveLamp l _, h, h, h, h]

theorem recomputeLife (h : s.SamePlan w.s) (l : Lamp) : s.SamePlan (w.recomputeLife l).s := by
  have computed : s.SamePlan (w.s.recomputeLife l) := h.frame (by simp) (by simp) (by simp) (by simp)
  unfold Work.recomputeLife
  simp only
  repeat' split
  exacts [computed, abandonStrike (w := (w.edit fun s => s.recomputeLife l).hand (.lifeChanged l)) computed l, computed]

theorem pulse (h : s.SamePlan w.s) (l : Lamp) : s.SamePlan (w.pulse l).s := by
  have charged : s.SamePlan (w.edit fun s => s.setAccount l ((s.account l).chargePulse s.accounts.weights)).s := h.frame rfl rfl rfl rfl
  unfold Work.pulse
  simp only
  split
  exacts [charged.recomputeLife l, charged.recomputeLife l]

theorem strike (h : s.SamePlan w.s) (l : Lamp) : s.SamePlan (w.strike l).s := by
  unfold Work.strike
  split
  · split
    exacts [pulse (w := w.changeLamp l _) (h.moveLamp l _) l, h]
  exacts [h, h, h, h.setCondition l _, h]

theorem stop (h : s.SamePlan w.s) (l : Lamp) : s.SamePlan (w.stop l).s := by
  unfold Work.stop
  split
  exacts [h.moveLamp l _, h.moveLamp l _, h.moveLamp l _, h.setCondition l _, h, h]

theorem lightAtOpening (h : s.SamePlan w.s) (l : Lamp) : s.SamePlan (w.lightAtOpening l).s := by
  unfold Work.lightAtOpening
  split
  · split
    exacts [h.moveLamp l _, h]
  all_goals exact h

/-! ### The power state (R52) -/

/-- No act of the PDU touches the plan. -/
theorem pdu (s : State) : KeptByPdu fun w => s.SamePlan w.s where
  power _ h := h.frame rfl rfl rfl rfl
  post _ _ h := h.frame rfl rfl rfl rfl
  hand _ h := h
  trims h := h.frame (by simp) (by simp) (by simp) (by simp)
  zeroed h := h.frame rfl rfl rfl rfl
  strike l _ h := h.strike l
  stop l _ h := h.stop l
  opening l _ h := h.lightAtOpening l

theorem take (x : Handoff) (w : Work) (h : s.SamePlan w.s) : s.SamePlan (w.take x).s := by
  have changed (d : Demand) : s.SamePlan (w.changeDemand d).s := (pdu s).changeDemand (h.frame rfl rfl rfl rfl)
  have bare : s.SamePlan (w.takeBare x).s := by
    cases claims : x.claims with
    | false => exact (pdu s).takeBare claims h
    | true =>
      cases x with
      | addClaim c => exact changed _
      | removeClaim c => exact changed _
      | convert =>
        show s.SamePlan w.convertClaim.s
        unfold Work.convertClaim
        simp only
        repeat' split
        exacts [h, changed _, changed _]
      | _ => cases claims
  exact (pdu s).follow _ bare

theorem handPower (s : State) (x : Handoff) : s.SamePlan (s.handPower x) :=
  Work.run_keeps (fun t => s.SamePlan t) take 64 ⟨s, [x]⟩ (refl s)

/-! ### Selection, lockout and presets -/

theorem post (h : s.SamePlan t) (topic : Topic) (value : Nat) : s.SamePlan (t.post topic value) := h.frame rfl rfl rfl rfl

theorem handPresets (h : s.SamePlan t) (b r : Option (Fin 8)) (clear : Bool) : s.SamePlan (t.handPresets b r clear) :=
  h.frame (by simp) (by simp) (by simp) (by simp)

theorem setLockout (h : s.SamePlan t) (x : Lockout) : s.SamePlan (t.setLockout x) := h.frame (by simp) (by simp) (by simp) (by simp)

theorem followBlankTimer (h : s.SamePlan t) : s.SamePlan t.followBlankTimer := h.frame (by simp) (by simp) (by simp) (by simp)

theorem selection (s : State) : KeptBySelection fun t => s.SamePlan t where
  acq _ _ h := h.frame rfl rfl rfl rfl
  status _ _ h := h.frame rfl rfl rfl rfl
  post _ _ h := h.post _ _
  selected _ h := h.frame rfl rfl rfl rfl
  presets _ _ _ h := h.handPresets _ _ _

/-! ### Bookings (R147 to R149) -/

/-- A change of the timetable that keeps the enable and the configurations. -/
theorem editTimetable (h : s.SamePlan t) {f : Timetable → Timetable} (enable : (f t.timetable).enable = t.timetable.enable)
    (configs : (f t.timetable).table.map (fun b => b.config) = t.timetable.table.map fun b => b.config) : s.SamePlan (t.editTimetable f) :=
  h.trans ⟨rfl, enable, configs, rfl, rfl, rfl⟩

theorem editBooking_configs (x : Timetable) (id : Nat) {f : Booking → Booking} (config : ∀ b, (f b).config = b.config) :
    (x.editBooking id f).table.map (fun b => b.config) = x.table.map fun b => b.config := by
  refine List.map_map.trans (List.map_congr_left fun b _ => ?_)
  simp only [Function.comp]
  split
  exacts [config b, rfl]

theorem startBooking (h : s.SamePlan t) (i : Nat) (b : Booking) : s.SamePlan (t.startBooking i b) := by
  have begun : s.SamePlan (t.editTimetable (·.begin i b)) := h.editTimetable rfl (editBooking_configs _ _ fun _ => rfl)
  have applied (x : State) (hx : s.SamePlan x) (noMatch : Bool) : s.SamePlan (x.bookingApplied b noMatch) := by
    have handed : s.SamePlan ((x.handBookingPreset b.config.preset).handBookingClaim b.config.lockout b.config.sourceClass) :=
      (hx.handPresets _ _ _).setLockout _
    have levelled (y : State) (hy : s.SamePlan y) :
        s.SamePlan (match b.config.mode.level with | none => y | some level => y.setLevel level) := by
      split
      exacts [hy, hy.frame rfl rfl rfl rfl]
    have told := ((levelled _ handed).followBlankTimer).post (.booking b.config.id) 2
    unfold State.bookingApplied
    simp only
    split
    exacts [told.post _ _, told]
  have selected (x : State) (hx : s.SamePlan x) : s.SamePlan (x.bookingSelection b).1 := by
    unfold State.bookingSelection
    split
    exacts [hx, (selection s).selectForBooking _ hx]
  rw [State.startBooking, State.applyBooking_eq]
  exact applied _ (selected _ (begun.trans (handPower _ _))) _

theorem endBooking (h : s.SamePlan t) (b : Booking) : s.SamePlan (t.endBooking b) := by
  have finished : s.SamePlan (t.editTimetable (·.finish b)) := h.editTimetable rfl (editBooking_configs _ _ fun _ => rfl)
  exact (((finished.setLockout _).handPresets _ _ _).followBlankTimer).post _ _

theorem enterLead (h : s.SamePlan t) (b : Booking) : s.SamePlan (t.enterLead b) :=
  ((h.editTimetable rfl rfl).trans (handPower _ _)).post _ _

theorem enterIdle (h : s.SamePlan t) : s.SamePlan t.enterIdle := (h.editTimetable rfl rfl).trans (handPower _ _)

theorem expireEmptyGrace (h : s.SamePlan t) : s.SamePlan t.expireEmptyGrace := by
  unfold State.expireEmptyGrace State.graceExpiry
  repeat' split
  exacts [h.enterLead _, h.enterIdle, h]

/-! ### Re-evaluation (R153, R154) -/

theorem endForReevaluation (h : s.SamePlan t) (p : Booking) : s.SamePlan (t.endForReevaluation p) := by
  unfold State.endForReevaluation State.convertFor
  simp only
  repeat' split
  exacts [(h.endBooking p).editTimetable rfl rfl, h.endBooking p, (h.endBooking p).trans (handPower _ _)]

theorem decideState (h : s.SamePlan t) (ran : Option Nat) : s.SamePlan (t.decideState ran) := by
  unfold State.decideState State.leadOn
  repeat' split
  exacts [(h.editTimetable rfl rfl).trans (handPower _ _), h.enterLead _, h, h.enterIdle]

theorem reevaluateEmpty (h : s.SamePlan t) (before : Before) : s.SamePlan (t.reevaluateEmpty before) := by
  have ended : s.SamePlan (match before.active with | some p => t.endForReevaluation p | none => t) := by
    split
    exacts [h.endForReevaluation _, h]
  exact ((ended.editTimetable rfl rfl).decideState _).expireEmptyGrace

theorem reapply (h : s.SamePlan t) (old new : BookingConfig) : s.SamePlan (t.reapply old new) := by
  have selected : s.SamePlan (t.reselected old new).1 := by
    unfold State.reselected
    split
    exacts [(selection s).selectForBooking _ h, h]
  have relocked (x : State) (hx : s.SamePlan x) : s.SamePlan (x.relocked old new) := by
    obtain ⟨-, -, timetable, -, -, -, store, clock, staging, -⟩ := x.relocked_frame old new
    exact hx.frame clock timetable staging store
  have represet (x : State) (hx : s.SamePlan x) : s.SamePlan (x.represet old new) := by
    obtain ⟨-, -, timetable, -, -, -, store, clock, staging, -⟩ := x.represet_frame old new
    exact hx.frame clock timetable staging store
  rw [State.reapply_eq]
  refine represet _ (relocked _ ?_)
  split
  exacts [selected.post _ _, selected]

theorem reevaluate (s : State) (before : Before) : s.SamePlan (s.reevaluate before) := by
  have counted : s.SamePlan (s.editTimetable fun t => { t with table := carryLive t.table before.active }) := by
    refine (refl s).editTimetable rfl (List.map_map.trans (List.map_congr_left fun b _ => ?_))
    simp only [Function.comp]
    repeat' split
    exacts [rfl, rfl, rfl]
  have within (t : State) (h : s.SamePlan t) (i : Nat) (b : Booking) : s.SamePlan (t.reevaluateWithin before i b) := by
    unfold State.reevaluateWithin
    repeat' split
    exacts [(h.editTimetable rfl rfl).reapply _ _, (h.endForReevaluation _).startBooking i b, h.startBooking i b]
  unfold State.reevaluate
  simp only
  repeat' split
  exacts [within _ counted _ _, counted, counted.reevaluateEmpty before, refl s]

end State.SamePlan
end Sys2Proof.Machine
end

section
/-! PROOFS. Set Time and Set Schedule Enable (R140, R152); O45. -/

namespace Sys2Proof.Machine

section Time
variable {s : State} {b : Booking} {i : Nat}

/-! ### Before a re-evaluation -/

/-- R153: the awaited booking's id where the state was LEAD (log 21). -/
theorem State.before_lead (s : State) : s.before.lead = if s.timetable.state = .lead then
    (s.timetable.table[if s.timetable.cursor < s.timetable.table.length then s.timetable.cursor else 0]?).map (fun b => b.config.id)
    else none := by
  rw [State.before, Timetable.awaited_eq]

theorem State.activeBooking_none (none : s.timetable.active = none) : s.activeBooking = .none := by
  rw [State.activeBooking, none]
  rfl

/-- R153: in DISABLED and in NO-TIME there is no re-evaluation. -/
theorem State.reevaluate_still (stopped : s.timetable.state.runs = false) (before : Before) : s.reevaluate before = s :=
  if_neg (by rw [stopped]; exact nofun)

/-- R141: a legal live table is one without the extensions. -/
theorem tableLegal.saved {table : List Booking} (legal : tableLegal table) : savedTableLegal (table.map fun b => b.config) := by
  obtain ⟨short, distinct, apart, each⟩ := legal
  simp only [savedTableLegal, tableLegal, List.length_map, List.map_map, List.pairwise_map, List.forall_mem_map]
  refine ⟨short, distinct, apart.imp fun {x _} h => ?_, fun b hb => ⟨(each b hb).1, ?_⟩⟩
  · exact (Nat.le_add_right x.config.stop x.extension).trans h
  · exact (each b hb).1.2.2.2.2.1

/-- R147, R153: with no booking ACTIVE before, a re-evaluation starts the booking around the minute. -/
theorem State.reevaluate_starts_at (runs : s.timetable.state.runs = true) (before : Before) (was : before.active = none)
    (active : s.timetable.active = none) (legal : tableLegal s.timetable.table) (blank : s.BlankLegal) (at_i : s.timetable.table[i]? = some b)
    (inside : b.config.start ≤ s.clock.minute ∧ s.clock.minute < b.config.stop) : s.Starts none i b.config (s.reevaluate before) := by
  obtain ⟨within, -⟩ := State.reevaluate_reevaluates runs before legal.saved blank fun _ => active
  rw [was] at within
  have cleared : (s.countedTable none)[i]? = some ⟨b.config, 0, false⟩ := by
    show s.clearedTable[i]? = _
    rw [State.clearedTable, List.getElem?_map, at_i]
    rfl
  exact (within i _ cleared inside).2 nofun

/-- R153: with no booking at all and no SCHEDULE claim, a re-evaluation leads to IDLE and does nothing else. -/
theorem State.reevaluate_empty (runs : s.timetable.state.runs = true) (before : Before) (was : before.active = none)
    (active : s.timetable.active = none) (ungraced : s.timetable.state ≠ .grace) (empty : s.timetable.table = [])
    (unclaimed : s.power.demand.schedule = false) (blank : s.BlankLegal) :
    s.reevaluate before = { s with timetable := { s.timetable with state := .idle, cursor := 0, grace := none } } := by
  obtain ⟨-, outside⟩ := State.reevaluate_reevaluates runs before (by rw [empty]; decide) blank fun _ => active
  have counted : s.clearedTable = [] := congrArg (List.map _) empty
  have closes : s.Closes none before.lead 0 (s.reevaluate before) := by
    rw [was, show s.countedTable none = [] from counted] at outside
    exact outside 0 nofun (Nat.zero_le _) nofun nofun
  obtain ⟨-, rests⟩ := closes
  rw [counted] at rests
  obtain ⟨-, idle⟩ := rests nofun
  obtain ⟨-, -, -, -, -, -, -, -, -, -, whole⟩ := idle ungraced
  refine (whole (.inl rfl) (.inl unclaimed)).trans ?_
  have same : ({ s.power.demand with schedule := false } : Demand) = s.power.demand := Demand.set_same (c := .schedule) unclaimed
  simp only [State.convertedDemand, same, ← active, ← empty]

/-! ### Set Time (R140) -/

/-- R140: the time is set, and NO-TIME is left. -/
abbrev State.timeSet (s : State) (minute second : Nat) : State := { s with
  clock := ⟨minute, second, true⟩
  timetable := if s.timetable.state = .noTime then { s.timetable with state := .idle, cursor := 0 } else s.timetable }

theorem State.Ready.exec_setTime (ready : s.Ready .facility) (m0 m1 sec : Byte) :
    let minute := min 10079 (readU16 m0 m1)
    let second := min 59 sec.toNat
    let t := (s.timeSet minute second).reevaluate s.before
    exec (.setTime .facility [m0, m1, sec]) s = .next (t.answer .facility 0x41 [m0, m1, sec]
      ⟨if minute = readU16 m0 m1 ∧ second = sec.toNat then .ok else .clamped,
        le16 minute ++ [byteOf second, 1, byteOf t.timetable.state.number] ++ le16 (t.timetable.active.getD 0)⟩) := by
  intro minute second t
  have clock : t.clock = ⟨minute, second, true⟩ := (State.SamePlan.reevaluate _ _).clock
  refine (ready.exec_facility .setTime (d := [m0, m1, sec]) (n := 3) rfl rfl (by simp)).trans ?_
  have taken : setTime [m0, m1, sec] s = (t, okOrClamped (minute != readU16 m0 m1 || second != sec.toNat)
      (clockBytes t.clock ++ [byteOf t.timetable.state.number] ++ idBytes t.timetable.active)) := by
    simp only [setTime, clampNat_zero]
    rfl
  have clamped : (minute != readU16 m0 m1 || second != sec.toNat) = !decide (minute = readU16 m0 m1 ∧ second = sec.toNat) := by
    rw [Bool.decide_and, Bool.not_and]
    rfl
  simp only [owner, taken, okOrClamped_eq clamped, clock]
  rfl

/-- R140: what of the timetable the leaving of NO-TIME does not touch. -/
theorem State.timeSet_timetable (s : State) (minute second : Nat) :
    (s.timeSet minute second).timetable.active = s.timetable.active ∧ (s.timeSet minute second).timetable.table = s.timetable.table ∧
      ({ (s.timeSet minute second).timetable with state := .idle, cursor := 0, grace := none } : Timetable) =
        { s.timetable with state := .idle, cursor := 0, grace := none } := by
  unfold State.timeSet
  simp only
  split <;> exact ⟨rfl, rfl, rfl⟩

theorem State.timeSet_blank (blank : s.BlankLegal) (minute second : Nat) : (s.timeSet minute second).BlankLegal := by
  have active := (s.timeSet_timetable minute second).1
  exact blank.timed rfl (by rw [State.blankTiming, State.blankTiming, active])

theorem State.timeSet_runs (enabled : s.timetable.state ≠ .disabled) (minute second : Nat) :
    (s.timeSet minute second).timetable.state.runs = true := by
  unfold State.timeSet
  simp only
  split
  · rfl
  · next timed => cases state : s.timetable.state <;> simp_all [ScheduleState.runs]

/-! ### Set Schedule Enable (R152) -/

theorem State.Ready.exec_setScheduleEnable (ready : s.Ready .facility) (on : Bool) :
    exec (.setScheduleEnable .facility [flagByte on]) s = .next ((s.setEnable on).answer .facility 0x49 [flagByte on]
      ⟨.ok, [flagByte on, byteOf (s.setEnable on).timetable.state.number]⟩) := by
  refine (ready.exec_facility .setScheduleEnable (d := [flagByte on]) (n := 1) rfl rfl (by simp)).trans ?_
  simp only [owner, setScheduleEnable, readFlag_flagByte]
  rfl

/-- R152: the enable goes on or off. -/
theorem State.setEnable_on (enable : s.timetable.enable = false) : s.setEnable true =
    (({ s with
      store.scheduleEnable := some true
      timetable := { s.timetable with enable := true, state := openingState true s.clock.valid, cursor := 0 } } : State).reevaluate
        Before.nothing) := by
  rw [State.setEnable, if_neg (by rw [enable]; decide)]
  rfl

/-- R152: the state in which the enable going on re-evaluates. -/
abbrev State.enabledIdle (s : State) : State := { s with
  store.scheduleEnable := some true
  timetable := { s.timetable with enable := true, state := .idle, cursor := 0 } }

theorem State.setEnable_valid (enable : s.timetable.enable = false) (valid : s.clock.valid = true) :
    s.setEnable true = s.enabledIdle.reevaluate Before.nothing := by
  rw [State.setEnable_on enable, valid]
  rfl

theorem State.setEnable_same : s.setEnable s.timetable.enable = { s with store.scheduleEnable := some s.timetable.enable } := if_pos rfl

/-- R152: what the end of the active booking and the loss of the SCHEDULE claim leave where the enable goes off. -/
theorem State.withdrawn_frame (s : State) : (s.withdrawn).timetable = { s.timetable with grace := none, state := .disabled, cursor := 0 } ∧
    (s.withdrawn).power.demand = { s.power.demand with schedule := false } ∧ (s.withdrawn).lockout = s.lockout ∧
    (s.withdrawn).tilt.bookingPreset = s.tilt.bookingPreset ∧ (s.withdrawn).store.scheduleEnable = s.store.scheduleEnable := by
  obtain ⟨aside, demand⟩ := (s.editTimetable fun t => { t with grace := none }).removeClaim_demand .schedule
  exact ⟨rfl, demand, aside.lockout, aside.bookingPreset, (State.SamePlan.handPower _ _).savedEnable⟩

theorem State.withdrawn_unclaimed (unclaimed : s.power.demand.schedule = false) (blank : s.BlankLegal) :
    s.withdrawn = { s with timetable := { s.timetable with grace := none, state := .disabled, cursor := 0 } } := by
  have same : ({ s.power.demand with schedule := false } : Demand) = s.power.demand := Demand.set_same (c := .schedule) unclaimed
  have claims := (State.removeSchedule_beside (s := s.editTimetable fun t => { t with grace := none }) (.inl unclaimed)
    (blank.retimed rfl)).trans (congrArg (State.wanting _) same)
  exact congrArg (fun x => ({ x with timetable := { s.timetable with grace := none, state := .disabled, cursor := 0 } } : State)) claims

end Time
end Sys2Proof.Machine

open Sys2Proof Sys2Proof.Machine in
/-- Settles O45: each case is a re-evaluation, of which `State.reevaluate_reevaluates` says what it leaves, or none. -/
theorem timeAndScheduleEnable : Obligations.TimeAndScheduleEnable := by
  intro s ready blank starts inside leadRunning
  have started {t u : State} {i : Nat} {b : Booking} (h : u.Starts none i b.config t) : starts t i b := by
    obtain ⟨timetable, demand, lockout, preset, -⟩ := h
    refine ⟨congrArg Timetable.state timetable, congrArg Timetable.active timetable, congrArg Timetable.cursor timetable,
      congrArg Demand.schedule demand, ?_, ?_, preset⟩
    exacts [congrArg Lockout.bookingLevel lockout, congrArg Lockout.bookingClass lockout]
  refine ⟨fun m0 m1 sec => ?_, fun x bad => ?_, ?_, fun enable invalid => ?_, fun i b enable valid active legal at_i within => ?_,
    fun enable valid => ?_, fun enable => ⟨fun active unclaimed => ?_, fun b active => ?_⟩⟩
  · intro minute second reply
    have run := ready.exec_setTime m0 m1 sec
    refine ⟨fun disabled active => ?_, fun state active empty unclaimed => ?_, fun i b enabled active legal at_i within => ?_,
      fun enabled => ⟨_, run, ?_⟩⟩
    · have timed : s.timeSet minute second = { s with clock := ⟨minute, second, true⟩ } := by
        rw [State.timeSet, if_neg (by rw [disabled]; decide)]
      refine run.trans ?_
      rw [State.reevaluate_still (by rw [timed, disabled]; rfl), timed]
      simp only [active]
      rfl
    · obtain ⟨kept, table, rested⟩ := s.timeSet_timetable minute second
      have idle : (s.timeSet minute second).timetable.state = .idle := by
        rcases state with state | state <;> simp [state]
      have emptied := State.reevaluate_empty (s := s.timeSet minute second) (by rw [idle]; rfl) s.before (State.activeBooking_none active)
        (kept.trans active) (by rw [idle]; decide) (table.trans empty) unclaimed (State.timeSet_blank blank minute second)
      rw [rested] at emptied
      refine run.trans ?_
      rw [emptied]
      simp only [active]
      rfl
    · obtain ⟨kept, table, -⟩ := s.timeSet_timetable minute second
      have begun := State.reevaluate_starts_at (s.timeSet_runs enabled minute second) s.before (State.activeBooking_none active)
        (kept.trans active)        (table ▸ legal) (State.timeSet_blank blank minute second) (table ▸ at_i) within
      refine ⟨_, run.trans ?_, started begun, (State.SamePlan.reevaluate _ _).clock⟩
      rw [(started begun).2.1]
      rfl
    · have all := State.reevaluate_reevaluates (s.timeSet_runs enabled minute second) s.before
      rw [State.before_lead] at all
      exact all
  · refine (ready.exec_facility .setScheduleEnable (d := [x]) (n := 1) rfl rfl (by simp)).trans ?_
    simp only [owner, setScheduleEnable, readFlag_none bad]
    rfl
  · refine (ready.exec_setScheduleEnable _).trans ?_
    rw [State.setEnable_same]
  · refine (ready.exec_setScheduleEnable true).trans ?_
    rw [State.setEnable_on enable, invalid, State.reevaluate_still rfl]
    rfl
  · have begun := State.reevaluate_starts_at (s := s.enabledIdle) rfl Before.nothing rfl active legal (blank.timed rfl rfl) at_i within
    have plan := State.SamePlan.reevaluate s.enabledIdle Before.nothing
    refine ⟨_, (ready.exec_setScheduleEnable true).trans ?_, started begun, plan.enable, plan.savedEnable⟩
    rw [State.setEnable_valid enable valid, (started begun).1]
    rfl
  · refine ⟨_, (ready.exec_setScheduleEnable true).trans ?_, State.reevaluate_reevaluates rfl Before.nothing⟩
    rw [State.setEnable_valid enable valid]
    rfl
  · let off : State := { s with timetable.enable := false, store.scheduleEnable := some false }
    exact ready.disables enable ((State.disableSchedule_none (State.activeBooking_none (s := off) active)).trans
      (State.withdrawn_unclaimed (s := off) unclaimed (blank.timed rfl rfl))) rfl
  · let off : State := { s with timetable.enable := false, store.scheduleEnable := some false }
    have closed := off.endBooking_closing b
    obtain ⟨timetable, demand, lockout, preset, saved⟩ := (off.endBooking b).withdrawn_frame
    obtain ⟨finished, unlocked, unset, -⟩ := off.closing_frame b (off.timetable.finish b)
    obtain ⟨claims, -⟩ := off.closing_power b (off.timetable.finish b)
    rw [← closed] at finished unlocked unset claims
    rw [finished] at timetable
    rw [claims] at demand
    rw [unlocked] at lockout
    refine ⟨_, ready.disables enable (State.disableSchedule_some (s := off) active) rfl, ?_⟩
    rw [timetable, demand, lockout, preset, saved]
    exact ⟨rfl, rfl, rfl, rfl, rfl, rfl, rfl, rfl, unset, ((State.SamePlan.refl off).endBooking b).savedEnable⟩
end

section
/-! PROOFS. Stage Commit, Insert Booking and Delete Booking (R161 to R163); O47. -/

namespace Sys2Proof.Machine

section Amend
variable {s u : State} {c : BookingConfig} {before after : List Booking}

/-! ### Searches of the live table (R162, R163) -/

theorem Timetable.find_isSome (x : Timetable) (id : Nat) :
    (x.find id).isSome = true ↔ id ∈ (x.table.map fun b => b.config).map BookingConfig.id := by
  simp only [Timetable.find, List.find?_isSome, List.map_map, List.mem_map, Function.comp, beq_iff_eq]

theorem Booking.overlaps_iff (b : Booking) (c : BookingConfig) :
    b.overlaps c = true ↔ c.start < b.config.stop + b.extension ∧ b.config.start < c.stop := by
  rw [Booking.overlaps, Bool.and_eq_true, decide_eq_true_eq, decide_eq_true_eq]
  rfl

/-- R162: where no booking of the table overlaps, none is named. -/
theorem overlapping_none {table : List Booking} (apart : ∀ b ∈ table, ¬ b.overlaps c = true) : overlapping table c = none := by
  have none : table.filter (·.overlaps c) = [] := List.filter_eq_nil_iff.mpr apart
  rw [overlapping, none]
  rfl

/-- R162, log 10: where one overlaps, one that does is named, whichever the choice. -/
theorem overlapping_some {table : List Booking} (meets : ∃ b ∈ table, b.overlaps c = true) :
    ∃ b ∈ table, b.overlaps c = true ∧ overlapping table c = some b.config.id := by
  have named : ∃ id ∈ (table.filter (·.overlaps c)).map (fun b => b.config.id), overlapping table c = some id := by
    obtain ⟨b, listed, overlap⟩ := meets
    have some : b.config.id ∈ (table.filter (·.overlaps c)).map fun b => b.config.id :=
      List.mem_map_of_mem (List.mem_filter.mpr ⟨listed, overlap⟩)
    unfold overlapping
    generalize (table.filter (·.overlaps c)).map (fun b => b.config.id) = ids at some ⊢
    split
    · cases some
    · next id => exact ⟨id, List.mem_singleton_self _, rfl⟩
    · have short : Config.overlapChoice ids % ids.length < ids.length := Nat.mod_lt _ (List.length_pos_of_mem some)
      exact ⟨_, List.getElem_mem short, List.getElem?_eq_getElem short⟩
  obtain ⟨id, mem, found⟩ := named
  obtain ⟨b, kept, rfl⟩ := List.mem_map.mp mem
  obtain ⟨listed, overlap⟩ := List.mem_filter.mp kept
  exact ⟨b, listed, overlap, found⟩

/-- R162: a booking goes between those that start earlier and those that start later. -/
theorem insertBy_split {α : Type} {key : α → Nat} {x : α} {before after : List α} (earlier : ∀ y ∈ before, key y < key x)
    (later : ∀ y ∈ after, key x < key y) : insertBy key x (before ++ after) = before ++ x :: after := by
  induction before with
  | nil =>
    cases after with
    | nil => rfl
    | cons y rest => exact if_neg (later y (List.mem_cons_self ..)).not_ge
  | cons y rest ih =>
    exact (if_pos (earlier y (List.mem_cons_self ..)).le).trans
      (congrArg (y :: ·) (ih fun z hz => earlier z (List.mem_cons_of_mem _ hz)))

theorem insertIndex_split (earlier : ∀ b ∈ before, b.config.start < c.start) (later : ∀ b ∈ after, c.start < b.config.start) :
    insertIndex (before ++ after) c = before.length := by
  have none : after.takeWhile (fun b => b.config.start ≤ c.start) = [] := by
    cases after with
    | nil => rfl
    | cons b rest => exact List.takeWhile_cons_of_neg (by simpa using later b (List.mem_cons_self ..))
  rw [insertIndex, List.takeWhile_append_of_pos fun b hb => by simpa using (earlier b hb).le, none, List.append_nil]

/-! ### A new table (R153) -/

/-- R177: the count of the live table, the schedule state, the active booking's id and the cursor. -/
abbrev State.tableReply (t : State) : List Byte :=
  byteOf t.timetable.table.length :: ([byteOf t.timetable.state.number] ++ le16 (t.timetable.active.getD 0) ++ [byteOf t.timetable.cursor])

/-- R161 to R163: the table `table` in place of the live one, and saved. -/
abbrev State.amended (s : State) (table : List Booking) : State := { s with
  timetable.table := table, store.liveTable := some (table.map fun b => b.config) }

/-- R161: the table `cs` committed, before the re-evaluation. -/
abbrev State.committed (s : State) (cs : List BookingConfig) : State := ({ s with
  timetable.table := cs.map (fun c => ⟨c, 0, false⟩), store.liveTable := some cs
  staging := ⟨false, []⟩ } : State).post .scheduleCommitted cs.length

theorem configs_fresh (cs : List BookingConfig) : (cs.map fun c => (⟨c, 0, false⟩ : Booking)).map (fun b => b.config) = cs :=
  List.map_map.trans (List.map_id _)

theorem State.commit_eq (s : State) (cs : List BookingConfig) : s.commit cs = (s.committed cs).reevaluate s.before := by
  have saved : (cs.map fun c => (⟨c, 0, false⟩ : Booking)).map Booking.config = cs := configs_fresh cs
  unfold State.commit State.setTable State.saveTable
  simp only [State.editTimetable, saved]
  rfl

theorem State.reevaluate_stopped (same : u.timetable.state = s.timetable.state)
    (idle : s.timetable.state = .disabled ∨ s.timetable.state = .noTime) (before : Before) : u.reevaluate before = u := by
  refine State.reevaluate_still ?_ before
  rw [same]
  rcases idle with state | state <;> rw [state] <;> rfl

/-- R153: a new table is re-evaluated with what was ACTIVE or led before it. -/
theorem State.reevaluate_changed (same : u.timetable.state = s.timetable.state)
    (busy : ¬ (s.timetable.state = .disabled ∨ s.timetable.state = .noTime)) :
    u.Reevaluates s.activeBooking (if s.timetable.state = .lead then
      (s.timetable.table[if s.timetable.cursor < s.timetable.table.length then s.timetable.cursor else 0]?).map (fun b => b.config.id)
      else none) (u.reevaluate s.before) := by
  have runs : u.timetable.state.runs = true := by
    rw [same]
    cases state : s.timetable.state <;> simp_all [ScheduleState.runs]
  have all := State.reevaluate_reevaluates runs s.before
  rw [State.before_lead] at all
  exact all

/-! ### The three requests -/

theorem State.Ready.exec_stageCommit {a : State × Answer} (ready : s.Ready .facility) (answer : stageCommit [] s = a) :
    exec (.stageCommit .facility []) s = .next (a.1.answer .facility 0x46 [] a.2) := by
  subst answer
  exact ready.exec_facility .stageCommit (d := []) (n := 0) rfl rfl (by simp)

theorem stageCommit_ok {cs : List BookingConfig} (isOpen : s.staging.isOpen = true) (passed : checkStaged s.staging.bookings = .ok cs) :
    stageCommit [] s = (s.commit cs, ⟨.ok, (s.commit cs).tableReply⟩) := by
  simp only [stageCommit, isOpen, passed]
  rfl

theorem readBooking_length {d : List Byte} {x : RawBooking} (read : readBooking d = some x) : d.length = 14 := by
  unfold readBooking at read
  split at read
  · rfl
  · cases read

theorem State.Ready.exec_insertBooking {d : List Byte} {x : RawBooking} {a : State × Answer} (ready : s.Ready .facility)
    (read : readBooking d = some x) (answer : Machine.insertBooking d s = a) :
    exec (.insertBooking .facility d) s = .next (a.1.answer .facility 0x47 d a.2) := by
  subst answer
  have length := readBooking_length read
  exact ready.exec_facility .insertBooking (d := d) (n := 14) rfl length (by rw [length]; decide)

theorem State.Ready.exec_deleteBooking {i0 i1 : Byte} {a : State × Answer} (ready : s.Ready .facility)
    (answer : Machine.deleteBooking [i0, i1] s = a) : exec (.deleteBooking .facility [i0, i1]) s = .next (a.1.answer .facility 0x48 [i0, i1] a.2) := by
  subst answer
  exact ready.exec_facility .deleteBooking (d := [i0, i1]) (n := 2) rfl rfl (by simp)

theorem insertBooking_bad {d : List Byte} {x : RawBooking} {k : Nat} (read : readBooking d = some x) (bad : x.check = .error k) :
    insertBooking d s = (s, ⟨.badArgument, [byteOf k]⟩) := by
  simp only [insertBooking, read, bad]

theorem insertBooking_full {d : List Byte} {x : RawBooking} (read : readBooking d = some x) (good : x.check = .ok c)
    (full : 48 ≤ s.timetable.table.length) : insertBooking d s = (s, ⟨.full, []⟩) := by
  simp only [insertBooking, read, good]
  exact if_pos full

theorem insertBooking_twin {d : List Byte} {x : RawBooking} (read : readBooking d = some x) (good : x.check = .ok c)
    (room : s.timetable.table.length < 48) (twin : (s.timetable.find c.id).isSome = true) :
    insertBooking d s = (s, ⟨.conflict, 16 :: le16 c.id⟩) := by
  simp only [insertBooking, read, good, twin, if_true]
  exact if_neg room.not_ge

/-- R162: past the count and the ids, the overlap decides. -/
theorem insertBooking_new {d : List Byte} {x : RawBooking} (read : readBooking d = some x) (good : x.check = .ok c)
    (room : s.timetable.table.length < 48) (new : ¬ (s.timetable.find c.id).isSome = true) :
    insertBooking d s = match overlapping s.timetable.table c with
      | some id => (s, ⟨.conflict, 17 :: le16 id⟩)
      | none => (s.insertBooking c,
          ⟨.ok, byteOf (insertIndex s.timetable.table c) :: (s.insertBooking c).tableReply⟩) := by
  simp only [insertBooking, read, good, new]
  exact (if_neg room.not_ge).trans rfl

theorem State.insertBooking_eq (table : s.timetable.table = before ++ after) (earlier : ∀ b ∈ before, b.config.start < c.start)
    (later : ∀ b ∈ after, c.start < b.config.start) :
    s.insertBooking c = (s.amended (before ++ ⟨c, 0, false⟩ :: after)).reevaluate s.before := by
  have placed : insertBy (fun b => b.config.start) (⟨c, 0, false⟩ : Booking) s.timetable.table = before ++ ⟨c, 0, false⟩ :: after := by
    rw [table]
    exact insertBy_split earlier later
  rw [State.insertBooking, placed]
  rfl

theorem State.deleteBooking_eq (s : State) (id : Nat) :
    s.deleteBooking id = (s.amended (s.timetable.table.filter fun b => b.config.id ≠ id)).reevaluate s.before := by
  have others : s.timetable.table.filter (fun b => b.config.id != id) = s.timetable.table.filter fun b => b.config.id ≠ id :=
    List.filter_congr fun _ _ => Bool.eq_iff_iff.mpr (bne_iff_ne.trans decide_eq_true_iff.symm)
  rw [State.deleteBooking, others]
  rfl

end Amend
end Sys2Proof.Machine

open Sys2Proof Sys2Proof.Machine in
/-- Settles O47: each of the three writes and saves a table, and re-evaluates it with what was before. -/
theorem commitInsertAndDelete : Obligations.CommitInsertAndDelete := by
  intro s ready configs tail count idle ran amended
  refine ⟨fun e isOpen failed => ?_, fun cs isOpen passed => ?_, fun d x read => ?_, fun i0 i1 => ?_⟩
  · have refused : stageCommit [] s = (s, ⟨e.status, [byteOf e.kind, byteOf e.index, (e.other.map byteOf).getD 0xFF]⟩) := by
      simp only [stageCommit, isOpen, failed]
      rfl
    refine (ready.exec_stageCommit refused).trans ?_
    cases e.other <;> rfl
  · have run := ready.exec_stageCommit (stageCommit_ok isOpen passed)
    rw [State.commit_eq] at run
    have plan := State.SamePlan.reevaluate (s.committed cs) s.before
    refine ⟨⟨_, run, plan.configs.trans (configs_fresh cs), plan.savedTable, plan.staging⟩, fun still => ?_, fun busy => ⟨_, run, ?_⟩⟩
    · rw [State.reevaluate_stopped (u := s.committed cs) rfl still] at run
      exact run
    · exact State.reevaluate_changed (u := s.committed cs) rfl busy
  · intro req refused
    have refuses {y : Answer} (answer : insertBooking d s = (s, y)) : refused y := ready.exec_insertBooking read answer
    refine ⟨fun k bad => refuses (insertBooking_bad read bad), fun c good => ⟨fun full => refuses (insertBooking_full read good full),
      fun room => ⟨fun twin => ?_, fun new => ?_⟩⟩⟩
    · exact refuses (insertBooking_twin read good room ((s.timetable.find_isSome c.id).mpr twin))
    · intro overlaps
      have decided := insertBooking_new read good room ((s.timetable.find_isSome c.id).not.mpr new)
      refine ⟨fun ⟨b, listed, meets⟩ => ?_, fun before after table earlier later apart => ?_⟩
      · obtain ⟨b, listed, meets, named⟩ := overlapping_some ⟨b, listed, (b.overlaps_iff c).mpr meets⟩
        rw [named] at decided
        exact ⟨b, listed, (b.overlaps_iff c).mp meets, refuses decided⟩
      · rw [overlapping_none fun b listed meets => apart b listed ((b.overlaps_iff c).mp meets)] at decided
        have run := ready.exec_insertBooking read decided
        rw [State.insertBooking_eq table earlier later, table, insertIndex_split earlier later] at run
        let inserted : State := s.amended (before ++ ⟨c, 0, false⟩ :: after)
        have plan := State.SamePlan.reevaluate inserted s.before
        refine ⟨⟨_, run, plan.configs.trans ?_, ?_, plan.staging⟩, fun still => ?_, fun busy => ⟨_, run, ?_⟩⟩
        · exact List.map_append.trans rfl
        · exact plan.savedTable.trans (congrArg some plan.configs.symm)
        · rw [State.reevaluate_stopped (u := inserted) rfl still] at run
          exact run
        · exact State.reevaluate_changed (u := inserted) rfl busy
  · intro req id
    refine ⟨fun absent => ?_, fun present => ?_⟩
    · refine ready.exec_deleteBooking (a := (s, ⟨.noMatch, []⟩)) (if_neg ?_)
      exact (s.timetable.find_isSome id).not.mpr absent
    · have run := ready.exec_deleteBooking (i0 := i0) (i1 := i1)
        (a := (s.deleteBooking id, ⟨.ok, (s.deleteBooking id).tableReply⟩)) (if_pos ((s.timetable.find_isSome id).mpr present))
      rw [State.deleteBooking_eq] at run
      let deleted : State := s.amended (s.timetable.table.filter fun b => b.config.id ≠ id)
      have plan := State.SamePlan.reevaluate deleted s.before
      refine ⟨⟨_, run, plan.configs.trans ?_, ?_, plan.staging⟩, fun still => ?_, fun busy => ⟨_, run, ?_⟩⟩
      · exact (List.filter_map (p := fun c : BookingConfig => decide (c.id ≠ id))).symm
      · exact plan.savedTable.trans (congrArg some plan.configs.symm)
      · rw [State.reevaluate_stopped (u := deleted) rfl still] at run
        exact run
      · exact State.reevaluate_changed (u := deleted) rfl busy
end

section
/-! PROOFS. Stage Begin and Stage Append, and the three passes of a commit (R158 to R160); O46. -/

namespace Sys2Proof.Machine

/-! ### Pass 1: the fields of a booking (R141, R175) -/

section Fields
variable {x : RawBooking} {c : BookingConfig} {l : List RawBooking} {cs : List BookingConfig}

/-- R175: a byte that is a preset reference is the byte of what it names. -/
theorem readPresetRef_known {x : Byte} (named : ¬ (7 < x.toNat ∧ x ≠ 0xFF)) :
    ∃ p, readPresetRef x = some p ∧ presetRefByte p = x := by
  by_cases none : x = 0xFF
  · exact ⟨Option.none, if_pos none, none.symm⟩
  · have low : x.toNat < 8 := by
      by_contra high
      exact named ⟨by omega, none⟩
    exact ⟨some ⟨x.toNat, low⟩, readPresetRef_number rfl, byteOf_eq rfl⟩

theorem readBookingMode_none {x : Byte} (high : 2 < x.toNat) : readBookingMode x = none := by
  unfold readBookingMode
  rw [if_neg, if_neg, if_neg] <;> rintro rfl <;> exact absurd high (by decide)

/-- R175: a byte that is a booking's lamp power mode is the byte of that mode. -/
theorem readBookingMode_known {x : Byte} (low : ¬ 2 < x.toNat) : ∃ m, readBookingMode x = some m ∧ bookingModeByte m = x := by
  have mode : x = 0 ∨ x = 1 ∨ x = 2 := by bv_omega
  rcases mode with rfl | rfl | rfl
  · exact ⟨.default, rfl, rfl⟩
  · exact ⟨.full, rfl, rfl⟩
  · exact ⟨.eco, rfl, rfl⟩

theorem readFlag_known {x : Byte} (low : ¬ 1 < x.toNat) : ∃ b, readFlag x = some b ∧ flagByte b = x := by
  have flag : x = 0 ∨ x = 1 := by bv_omega
  rcases flag with rfl | rfl
  · exact ⟨false, rfl, rfl⟩
  · exact ⟨true, rfl, rfl⟩

/-- R160, pass 1: the fields in the order of the table of R141; the first that is out of range names the failure, and where none is, the
booking is read as it was carried. -/
theorem RawBooking.check_fields (x : RawBooking) :
    if x.id = 0 then x.check = .error 1
    else if 10079 < x.start then x.check = .error 2
    else if x.stop ≤ x.start ∨ 10080 < x.stop then x.check = .error 3
    else if 30 < x.lead then x.check = .error 4
    else if 7 < x.preset.toNat ∧ x.preset ≠ 0xFF then x.check = .error 5
    else if 3 < x.lockout.toNat then x.check = .error 6
    else if 2 < x.mode.toNat then x.check = .error 7
    else if 1 < x.autoOff.toNat then x.check = .error 8
    else ∃ c : BookingConfig, x.check = .ok c ∧ c.id = x.id ∧ c.start = x.start ∧ c.stop = x.stop ∧ c.lead = x.lead ∧
      c.sourceClass = x.sourceClass ∧ presetRefByte c.preset = x.preset ∧ byteOf c.lockout.val = x.lockout ∧
      bookingModeByte c.mode = x.mode ∧ flagByte c.autoOff = x.autoOff := by
  unfold RawBooking.check Config.weekMinutes
  by_cases id : x.id = 0
  · simp only [if_pos id]
  by_cases start : 10079 < x.start
  · simp only [if_neg id, if_pos start]
  by_cases stop : x.stop ≤ x.start ∨ 10080 < x.stop
  · simp only [if_neg id, if_neg start, if_pos stop]
  by_cases lead : 30 < x.lead
  · simp only [if_neg id, if_neg start, if_neg stop, if_pos lead]
  simp only [if_neg id, if_neg start, if_neg stop, if_neg lead]
  by_cases unnamed : 7 < x.preset.toNat ∧ x.preset ≠ 0xFF
  · simp only [if_pos unnamed, readPresetRef_none unnamed.1 unnamed.2]
  obtain ⟨preset, readPreset, presetByte⟩ := readPresetRef_known unnamed
  simp only [if_neg unnamed, readPreset]
  by_cases high : 3 < x.lockout.toNat
  · simp only [if_pos high, readLockoutLevel_none high]
  have readLockout : readLockoutLevel x.lockout = some ⟨x.lockout.toNat, by omega⟩ := readLockoutLevel_eq rfl
  simp only [if_neg high, readLockout]
  by_cases unknown : 2 < x.mode.toNat
  · simp only [if_pos unknown, readBookingMode_none unknown]
  obtain ⟨mode, readMode, modeByte⟩ := readBookingMode_known unknown
  simp only [if_neg unknown, readMode]
  by_cases flag : 1 < x.autoOff.toNat
  · simp only [if_pos flag, readFlag_none flag]
  obtain ⟨autoOff, readAutoOff, autoOffByte⟩ := readFlag_known flag
  simp only [if_neg flag, readAutoOff]
  exact ⟨_, rfl, rfl, rfl, rfl, rfl, rfl, presetByte, byteOf_eq rfl, modeByte, autoOffByte⟩

/-- A booking that passes has the id and the interval that were staged. -/
theorem RawBooking.check_ok (passed : x.check = .ok c) : c.id = x.id ∧ c.start = x.start ∧ c.stop = x.stop ∧ x.start < x.stop := by
  have fields := x.check_fields
  simp only [passed, reduceCtorEq, Except.ok.injEq] at fields
  split_ifs at fields with id start stop
  obtain ⟨_, rfl, hid, hstart, hstop, -⟩ := fields
  exact ⟨hid, hstart, hstop, by omega⟩

/-! ### Pass 1 over the list -/

/-- The configurations `cs` with their staged indices, from `n` on. -/
def indexed (n : Nat) (cs : List BookingConfig) : List Indexed := (cs.zipIdx n).map fun p => ⟨p.2, p.1⟩

theorem indexed_cons (n : Nat) : indexed n (c :: cs) = ⟨n, c⟩ :: indexed (n + 1) cs := rfl

theorem indexed_configs (cs : List BookingConfig) : (indexed 0 cs).map Indexed.config = cs := by
  rw [indexed, List.map_map]
  exact List.zipIdx_map_fst 0 cs

theorem indexed_nodup (cs : List BookingConfig) : ((indexed 0 cs).map Indexed.index).Nodup := by
  rw [indexed, List.map_map]
  exact List.nodup_zipIdx_map_snd cs

theorem getElem?_indexed (cs : List BookingConfig) (i : Nat) : (indexed 0 cs)[i]? = cs[i]?.map (⟨i, ·⟩) := by
  rw [indexed, List.getElem?_map, List.getElem?_zipIdx, Option.map_map, Nat.zero_add]
  rfl

theorem mem_indexed {y : Indexed} (listed : y ∈ indexed 0 cs) : cs[y.index]? = some y.config := by
  obtain ⟨i, at_i⟩ := List.mem_iff_getElem?.mp listed
  rw [getElem?_indexed] at at_i
  obtain ⟨c, found, rfl⟩ := Option.map_eq_some_iff.mp at_i
  exact found

/-- Every booking of `l` passes, and gives that of `cs` at its place. -/
abbrev Passes (l : List RawBooking) (cs : List BookingConfig) : Prop := List.Forall₂ (fun x c => x.check = .ok c) l cs

theorem Passes.of_getElem? (length : l.length = cs.length)
    (each : ∀ (i : Nat) (x : RawBooking) (c : BookingConfig), l[i]? = some x → cs[i]? = some c → x.check = .ok c) : Passes l cs :=
  List.forall₂_iff_get.mpr ⟨length, fun i hl hc => each i _ _ (List.getElem?_eq_getElem hl) (List.getElem?_eq_getElem hc)⟩

theorem checkFields_passes (passes : Passes l cs) (n : Nat) : checkFields n l = .ok (indexed n cs) := by
  induction passes generalizing n with
  | nil => rfl
  | cons passed _ ih => simp only [checkFields, passed, ih, indexed_cons]

/-- The first booking that does not pass is named with its failure and its index. -/
theorem checkFields_fails {k i : Nat} (n : Nat) (found : l[i]? = some x) (bad : x.check = .error k)
    (earlier : ∀ (j : Nat) (y : RawBooking), j < i → l[j]? = some y → ∃ c, y.check = .ok c) :
    checkFields n l = .error ⟨.badArgument, k, n + i, none⟩ := by
  induction l generalizing n i with
  | nil => cases found
  | cons y rest ih =>
    cases i with
    | zero =>
      cases found
      simp only [checkFields, bad, Nat.add_zero]
    | succ i =>
      obtain ⟨c, passed⟩ := earlier 0 y i.succ_pos rfl
      have later := ih (n + 1) (i := i) found fun j z hj => earlier (j + 1) z (Nat.succ_lt_succ hj)
      simp only [checkFields, passed, later]
      rw [Nat.add_right_comm, Nat.add_assoc]

end Fields

/-! ### Pass 2: ids (R160) -/

section Twins
variable {x y : Indexed} {seen rest : List Indexed}

/-- An indexed booking's id. -/
abbrev Indexed.id (x : Indexed) : Nat := x.config.id

theorem find?_new (distinct : ((seen ++ x :: rest).map Indexed.id).Nodup) : seen.find? (fun y => y.config.id == x.config.id) = none := by
  rw [List.map_append, List.map_cons] at distinct
  obtain ⟨-, -, differ⟩ := List.nodup_append.mp distinct
  exact List.find?_eq_none.mpr fun y listed same =>
    differ y.id (List.mem_map_of_mem listed) x.id (List.mem_cons_self ..) (beq_iff_eq.mp same)

theorem findTwin_none (seen rest : List Indexed) (distinct : ((seen ++ rest).map Indexed.id).Nodup) : findTwin seen rest = none := by
  induction rest generalizing seen with
  | nil => rfl
  | cons x rest ih =>
    rw [findTwin, find?_new distinct]
    exact ih _ (by rwa [List.append_assoc])

/-- Among bookings of distinct ids the one of a given id is found. -/
theorem find?_id (distinct : (seen.map Indexed.id).Nodup) (listed : y ∈ seen) (same : y.id = x.id) :
    seen.find? (fun z => z.config.id == x.config.id) = some y := by
  cases found : seen.find? (fun z => z.config.id == x.config.id) with
  | none => exact absurd (beq_iff_eq.mpr same) (List.find?_eq_none.mp found y listed)
  | some z =>
    have twin : z.id = x.id := beq_iff_eq.mp (List.find?_some (p := fun z : Indexed => z.config.id == x.config.id) found)
    exact congrArg some (List.inj_on_of_nodup_map distinct (List.mem_of_find?_eq_some found) listed (twin.trans same.symm))

/-- The first booking whose id an earlier one has is named with that one. -/
theorem findTwin_first (seen mid : List Indexed) (distinct : ((seen ++ mid).map Indexed.id).Nodup) (listed : y ∈ seen ++ mid)
    (same : y.id = x.id) : findTwin seen (mid ++ x :: rest) = some (x, y) := by
  induction mid generalizing seen with
  | nil =>
    rw [List.append_nil] at distinct listed
    rw [List.nil_append, findTwin, find?_id distinct listed same]
  | cons z mid ih =>
    rw [List.cons_append, findTwin, find?_new distinct]
    rw [List.append_cons] at distinct listed
    exact ih _ distinct listed

end Twins

/-! ### Pass 3: the order by start, and overlaps (R160) -/

section Order

theorem insertBy_perm {α : Type} (key : α → Nat) (x : α) (l : List α) : (insertBy key x l).Perm (x :: l) := by
  induction l with
  | nil => rfl
  | cons y rest ih =>
    rw [insertBy]
    split
    · exact (ih.cons y).trans (.swap x y rest)
    · rfl

theorem insertBy_ordered {α : Type} {key : α → Nat} (x : α) {l : List α} (ordered : l.Pairwise fun y z => key y ≤ key z) :
    (insertBy key x l).Pairwise fun y z => key y ≤ key z := by
  induction ordered with
  | nil => exact List.pairwise_singleton ..
  | @cons y rest least ordered ih =>
    rw [insertBy]
    split
    · next before =>
      refine List.pairwise_cons.mpr ⟨fun z hz => ?_, ih⟩
      rcases List.mem_cons.mp ((insertBy_perm key x rest).mem_iff.mp hz) with rfl | listed
      · exact before
      · exact least z listed
    · next behind =>
      refine List.pairwise_cons.mpr ⟨fun z hz => ?_, ordered.cons least⟩
      rcases List.mem_cons.mp hz with rfl | listed
      · omega
      · have := least z listed
        omega

variable {x y : Indexed} {l : List Indexed}

theorem sortStaged_perm (l : List Indexed) : (sortStaged l).Perm l := by
  have all (acc : List Indexed) : (l.foldl (fun acc x => insertBy (fun y : Indexed => y.config.start) x acc) acc).Perm (l ++ acc) := by
    induction l generalizing acc with
    | nil => rfl
    | cons x l ih => exact (ih _).trans (((insertBy_perm _ x acc).append_left l).trans List.perm_middle)
  exact (all []).trans (.of_eq (List.append_nil l))

/-- In ascending order of start. -/
abbrev Ordered (l : List Indexed) : Prop := l.Pairwise fun x y => x.config.start ≤ y.config.start

theorem sortStaged_ordered (l : List Indexed) : Ordered (sortStaged l) :=
  List.foldlRecOn l _ (motive := Ordered) .nil fun _ ordered x _ => insertBy_ordered x ordered

/-- In order of start, bookings of which none overlaps the one before it follow one another. -/
theorem findOverlap_none (ordered : Ordered l) : findOverlap l = none ↔ l.Pairwise fun x y => x.config.stop ≤ y.config.start := by
  induction ordered with
  | nil => exact iff_of_true rfl .nil
  | @cons x rest least ordered ih =>
    cases rest with
    | nil => exact iff_of_true rfl (List.pairwise_singleton ..)
    | cons y rest =>
      rw [findOverlap, List.pairwise_cons]
      split
      · next overlap => exact iff_of_false nofun fun ⟨clear, _⟩ => overlap.not_ge (clear y (List.mem_cons_self ..))
      · next clear =>
        rw [ih]
        refine (and_iff_right_of_imp fun _ z hz => ?_).symm
        rcases List.mem_cons.mp hz with rfl | listed
        · omega
        · have := List.rel_of_pairwise_cons ordered listed
          omega

/-- The pair that is named: a booking that starts before the end of the one before it. -/
theorem findOverlap_some (found : findOverlap l = some (y, x)) : [x, y].Sublist l ∧ y.config.start < x.config.stop := by
  induction l with
  | nil => cases found
  | cons z rest ih =>
    cases rest with
    | nil => cases found
    | cons w rest =>
      rw [findOverlap] at found
      split at found
      · next overlap =>
        cases found
        exact ⟨((List.nil_sublist rest).cons_cons _).cons_cons _, overlap⟩
      · exact ⟨(ih found).1.cons z, (ih found).2⟩

/-- The two intervals have no minute in common. -/
abbrev BookingConfig.Apart (c d : BookingConfig) : Prop := c.stop ≤ d.start ∨ d.stop ≤ c.start

/-- In order of start, bookings that do not overlap follow one another. -/
theorem Ordered.apart_iff (ordered : Ordered l) (lasting : ∀ x ∈ l, x.config.start < x.config.stop) :
    (l.map Indexed.config).Pairwise BookingConfig.Apart ↔ l.Pairwise fun x y => x.config.stop ≤ y.config.start := by
  rw [List.pairwise_map]
  refine ⟨fun apart => ?_, fun follows => follows.imp .inl⟩
  refine (ordered.and apart).imp_of_mem fun {x y} hx hy ⟨before, apart⟩ => ?_
  have := lasting y hy
  omega

end Order

/-! ### The three passes together (R160) -/

section Staged
variable {l : List RawBooking} {cs : List BookingConfig}

theorem Passes.ids (passes : Passes l cs) : l.map RawBooking.id = cs.map BookingConfig.id := by
  induction passes with
  | nil => rfl
  | cons passed _ ih => rw [List.map_cons, List.map_cons, ih, (RawBooking.check_ok passed).1]

theorem Passes.staged (passes : Passes l cs) {i : Nat} {c : BookingConfig} (at_i : cs[i]? = some c) :
    ∃ x, l[i]? = some x ∧ x.check = .ok c := by
  obtain ⟨short, rfl⟩ := List.getElem?_eq_some_iff.mp at_i
  obtain ⟨length, each⟩ := List.forall₂_iff_get.mp passes
  exact ⟨_, List.getElem?_eq_getElem (length ▸ short), each i (length ▸ short) short⟩

theorem Passes.config (passes : Passes l cs) {i : Nat} {x : RawBooking} (at_i : l[i]? = some x) :
    ∃ c, cs[i]? = some c ∧ x.check = .ok c := by
  obtain ⟨short, rfl⟩ := List.getElem?_eq_some_iff.mp at_i
  obtain ⟨length, each⟩ := List.forall₂_iff_get.mp passes
  exact ⟨_, List.getElem?_eq_getElem (length ▸ short), each i short (length ▸ short)⟩

/-- The ids of the indexed bookings are those that were staged. -/
theorem Passes.indexed_ids (passes : Passes l cs) : (indexed 0 cs).map Indexed.id = l.map RawBooking.id := by
  rw [passes.ids]
  exact List.map_map.symm.trans (congrArg _ (indexed_configs cs))

theorem checkStaged_fails {x : RawBooking} {k i : Nat} (found : l[i]? = some x) (bad : x.check = .error k)
    (earlier : ∀ (j : Nat) (y : RawBooking), j < i → l[j]? = some y → ∃ c, y.check = .ok c) :
    checkStaged l = .error ⟨.badArgument, k, i, none⟩ := by
  rw [checkStaged, checkFields_fails 0 found bad earlier, Nat.zero_add]

theorem Passes.checkStaged_twin (passes : Passes l cs) {i j : Nat} {x y : RawBooking} (at_i : l[i]? = some x) (at_j : l[j]? = some y)
    (before : i < j) (same : x.id = y.id) (first : ((l.take j).map RawBooking.id).Nodup) :
    checkStaged l = .error ⟨.conflict, 16, j, some i⟩ := by
  obtain ⟨c, cs_i, passed_i⟩ := passes.config at_i
  obtain ⟨d, cs_j, passed_j⟩ := passes.config at_j
  have listed : (⟨i, c⟩ : Indexed) ∈ (indexed 0 cs).take j := by
    refine List.mem_of_getElem? (i := i) ?_
    rw [List.getElem?_take_of_lt before, getElem?_indexed, cs_i]
    rfl
  have distinct : (((indexed 0 cs).take j).map Indexed.id).Nodup := by
    rwa [List.map_take, passes.indexed_ids, ← List.map_take]
  have ids : c.id = d.id := (RawBooking.check_ok passed_i).1.trans (same.trans (RawBooking.check_ok passed_j).1.symm)
  have split : indexed 0 cs = (indexed 0 cs).take j ++ ⟨j, d⟩ :: (indexed 0 cs).drop (j + 1) := by
    have at_d : (indexed 0 cs)[j]? = some ⟨j, d⟩ := by rw [getElem?_indexed, cs_j]; rfl
    obtain ⟨short, at_d⟩ := List.getElem?_eq_some_iff.mp at_d
    rw [← at_d, ← List.drop_eq_getElem_cons short, List.take_append_drop]
  have twin : findTwin [] (indexed 0 cs) = some (⟨j, d⟩, ⟨i, c⟩) := by
    rw [split]
    exact findTwin_first [] _ distinct listed ids
  simp only [checkStaged, checkFields_passes passes, twin]

theorem Passes.findTwin (passes : Passes l cs) (distinct : (l.map RawBooking.id).Nodup) : findTwin [] (indexed 0 cs) = none :=
  findTwin_none [] _ (by rwa [List.nil_append, passes.indexed_ids])

theorem Passes.mem_sorted (passes : Passes l cs) {y : Indexed} (listed : y ∈ sortStaged (indexed 0 cs)) :
    ∃ x, l[y.index]? = some x ∧ x.check = .ok y.config :=
  passes.staged (mem_indexed ((sortStaged_perm _).mem_iff.mp listed))

theorem sorted_configs (cs : List BookingConfig) : ((sortStaged (indexed 0 cs)).map Indexed.config).Perm cs :=
  ((sortStaged_perm _).map _).trans (.of_eq (indexed_configs cs))

/-- Pass 3: no two bookings overlap where, in order of start, each ends before the next. -/
theorem Passes.apart_iff (passes : Passes l cs) : cs.Pairwise BookingConfig.Apart ↔
    (sortStaged (indexed 0 cs)).Pairwise fun x y => x.config.stop ≤ y.config.start := by
  rw [← (sorted_configs cs).pairwise_iff Or.symm]
  refine (sortStaged_ordered _).apart_iff fun y listed => ?_
  obtain ⟨x, -, passed⟩ := passes.mem_sorted listed
  obtain ⟨-, start, stop, lasts⟩ := RawBooking.check_ok passed
  rwa [start, stop]

theorem Passes.checkStaged_ok (passes : Passes l cs) (distinct : (l.map RawBooking.id).Nodup) (apart : cs.Pairwise BookingConfig.Apart) :
    ∃ table, checkStaged l = .ok table ∧ table.Perm cs ∧ table.Pairwise fun c d => c.stop ≤ d.start := by
  have follows := passes.apart_iff.mp apart
  refine ⟨_, ?_, sorted_configs cs, List.pairwise_map.mpr follows⟩
  simp only [checkStaged, checkFields_passes passes, passes.findTwin distinct, (findOverlap_none (sortStaged_ordered _)).mpr follows]

/-- R160: where two bookings overlap, the pair that is named starts in that order and overlaps. -/
theorem Passes.checkStaged_overlap (passes : Passes l cs) (distinct : (l.map RawBooking.id).Nodup)
    (overlap : ¬ cs.Pairwise BookingConfig.Apart) :
    ∃ (i j : Nat) (x y : RawBooking), checkStaged l = .error ⟨.conflict, 17, i, some j⟩ ∧ i ≠ j ∧
      l[i]? = some x ∧ l[j]? = some y ∧ y.start ≤ x.start ∧ x.start < y.stop := by
  cases found : findOverlap (sortStaged (indexed 0 cs)) with
  | none => exact absurd (passes.apart_iff.mpr ((findOverlap_none (sortStaged_ordered _)).mp found)) overlap
  | some pair =>
    obtain ⟨a, b⟩ := pair
    have decided : checkStaged l = .error ⟨.conflict, 17, a.index, some b.index⟩ := by
      simp only [checkStaged, checkFields_passes passes, passes.findTwin distinct, found]
    obtain ⟨adjacent, overlaps⟩ := findOverlap_some found
    obtain ⟨x, at_x, passed_x⟩ := passes.mem_sorted (adjacent.subset (List.mem_cons_of_mem b (List.mem_singleton_self a)))
    obtain ⟨y, at_y, passed_y⟩ := passes.mem_sorted (adjacent.subset (List.mem_cons_self ..))
    obtain ⟨-, start_x, -⟩ := RawBooking.check_ok passed_x
    obtain ⟨-, start_y, stop_y, -⟩ := RawBooking.check_ok passed_y
    have ordered := List.pairwise_pair.mp (List.Pairwise.sublist adjacent (sortStaged_ordered _))
    have indices : ((sortStaged (indexed 0 cs)).map Indexed.index).Nodup := ((sortStaged_perm _).map _).nodup_iff.mpr (indexed_nodup cs)
    have differ := List.pairwise_pair.mp (List.Pairwise.sublist adjacent (List.pairwise_map.mp indices))
    exact ⟨a.index, b.index, x, y, decided, differ.symm, at_x, at_y, start_x ▸ start_y ▸ ordered, start_x ▸ stop_y ▸ overlaps⟩

end Staged

/-! ### The requests (R158, R159) -/

section Requests
variable {s : State} {d : List Byte} {x : RawBooking}

theorem State.Ready.exec_stageAppend {a : State × Answer} (ready : s.Ready .facility) (read : readBooking d = some x)
    (answer : Machine.stageAppend d s = a) : exec (.stageAppend .facility d) s = .next (a.1.answer .facility 0x45 d a.2) := by
  subst answer
  have length := readBooking_length read
  exact ready.exec_facility .stageAppend (d := d) (n := 14) rfl length (by rw [length]; decide)

theorem stageAppend_closed (read : readBooking d = some x) (closed : s.staging.isOpen = false) :
    stageAppend d s = (s, ⟨.refusedState, []⟩) := by
  simp only [stageAppend, read, closed]
  rfl

theorem stageAppend_full (read : readBooking d = some x) (isOpen : s.staging.isOpen = true) (full : 48 ≤ s.staging.bookings.length) :
    stageAppend d s = (s, ⟨.full, []⟩) := by
  simp only [stageAppend, read, isOpen]
  exact if_pos full

theorem stageAppend_room (read : readBooking d = some x) (isOpen : s.staging.isOpen = true) (room : s.staging.bookings.length < 48) :
    stageAppend d s = ({ s with staging.bookings := s.staging.bookings ++ [x] },
      ⟨.ok, [byteOf s.staging.bookings.length, byteOf (s.staging.bookings.length + 1)]⟩) := by
  simp only [stageAppend, read, isOpen]
  exact if_neg room.not_ge

theorem stageCommit_closed (closed : s.staging.isOpen = false) : stageCommit d s = (s, ⟨.refusedState, []⟩) := by
  simp only [stageCommit, closed]
  rfl

end Requests

end Sys2Proof.Machine

open Sys2Proof Sys2Proof.Machine in
/-- Settles O46: the requests by their answers, and a commit by its passes: the first field that fails, the first id that returns, and,
where fields and ids pass, the bookings in order of start. -/
theorem stagingAndCommitChecks : Obligations.StagingAndCommitChecks := by
  refine ⟨fun s ready => ⟨?_, fun closed => ?_, fun i0 i1 s0 s1 e0 e1 lead c preset lockout mode off x y => ?_⟩,
    RawBooking.check_fields, fun l i x k found bad earlier => checkStaged_fails found bad earlier, fun l cs length each => ?_⟩
  · exact ready.exec_facility .stageBegin (d := []) (n := 0) rfl rfl (by simp)
  · exact ready.exec_stageCommit (stageCommit_closed closed)
  · have read : readBooking [i0, i1, s0, s1, e0, e1, lead, c, preset, lockout, mode, off, x, y] = some
        ⟨i0.toNat + 256 * i1.toNat, s0.toNat + 256 * s1.toNat, e0.toNat + 256 * e1.toNat, lead.toNat, c, preset, lockout, mode,
          off⟩ := rfl
    exact ⟨fun closed => ready.exec_stageAppend read (stageAppend_closed read closed),
      fun isOpen full => ready.exec_stageAppend read (stageAppend_full read isOpen full),
      fun isOpen room => ready.exec_stageAppend read (stageAppend_room read isOpen room)⟩
  · have passes := Passes.of_getElem? length each
    exact ⟨fun i j x y at_i at_j before same first => passes.checkStaged_twin at_i at_j before same first,
      fun distinct => ⟨passes.checkStaged_ok distinct, passes.checkStaged_overlap distinct⟩⟩
end

section
/-! PROOFS. Request frames: the checks of a complete frame against the catalogue (O4), the bytes and the timer of a port (O5), replies
(O6), and frames sent byte by byte (O3). -/

namespace Sys2Proof.Machine

variable {s : State} {p : Port} {code len b : Byte} {d rest : List Byte} {r : CatalogueRow} {a : Answer} {queue : List Instr}

/-! ### The catalogue (R171) -/

/-- The row of a request as the columns of R171. -/
def catalogueColumns (r : CatalogueRow) : Byte × Request × List Port × Nat := (r.code, r.request, r.ports, r.length)

/-- R171: the catalogue lists each code once, with the request of that code. -/
theorem lookupCode_listed : ∀ r ∈ catalogue, lookupCode r.code = some r ∧ r.request.code = r.code := by decide

theorem lookupCode_unlisted (unlisted : ∀ r ∈ catalogue, r.code ≠ code) : lookupCode code = none :=
  List.find?_eq_none.mpr fun r listed => by simpa using unlisted r listed

/-- R171: every request has its row. -/
theorem exists_listed (x : Request) : ∃ r ∈ catalogue, r.request = x := by
  obtain ⟨r, found, named, -⟩ := lookupCode_code x
  exact ⟨r, List.mem_of_find?_eq_some found, named⟩

/-! ### The checks of a complete frame (R170) -/

/-- R170, check 2: a code outside the catalogue. -/
theorem dispatch_unlisted (unlisted : ∀ r ∈ catalogue, r.code ≠ code) :
    dispatch p code d s = (s, ⟨.unknownRequest, []⟩) := by
  rw [dispatch, lookupCode_unlisted unlisted]

/-- R170, check 3: a port that R171 does not name. -/
theorem dispatch_notPermitted (listed : r ∈ catalogue) (port : p ∉ r.ports) :
    dispatch p r.code d s = (s, ⟨.notPermitted, []⟩) := by
  rw [dispatch, (lookupCode_listed r listed).1]
  exact if_neg (by simpa using port)

/-- R170: a port that R171 names hands the frame to checks 4 and 5. -/
theorem dispatch_permitted (listed : r ∈ catalogue) (port : p ∈ r.ports) : dispatch p r.code d s = carryOut r p d s := by
  rw [dispatch, (lookupCode_listed r listed).1]
  exact if_pos (by simpa using port)

/-- R132: the PANEL filter refuses. -/
theorem carryOut_filtered (panel : p = .panel) (filter : s.panelFilter r.request d = some a) : carryOut r p d s = (s, a) := by
  simp only [carryOut, if_pos panel, filter]

/-- R132: what the PANEL filter passes, and what comes from another port, is checked for its length alone. -/
theorem carryOut_passed (filter : p = .panel → s.panelFilter r.request d = none) :
    carryOut r p d s = if d.length = r.length then owner r.request p d s else (s, badLength) := by
  have passed : (if p = .panel then s.panelFilter r.request d else none) = none := by
    split
    exacts [filter ‹_›, rfl]
  simp only [carryOut, passed]

/-- R170: a ready port answers a request as the checks of its frame decide. -/
theorem State.Ready.exec_listed (ready : s.Ready p) (short : d.length ≤ 64) (listed : r ∈ catalogue) {t : State}
    (decided : dispatch p r.code d s = (t, a)) : exec (Instr.ofRequest r.request p d) s = .next (t.answer p r.code d a) := by
  rw [exec_ofRequest, carry_powered _ ready.1, ready.sendFrame _ short, (lookupCode_listed r listed).2, State.takeFrame, decided]
  rfl

/-- R170: a ready port answers a frame of an unknown code. -/
theorem State.Ready.exec_unlisted (ready : s.Ready p) (short : d.length ≤ 64) (unlisted : ∀ r ∈ catalogue, r.code ≠ code) :
    exec (.unknownRequest p code d) s = .next (s.answer p code d ⟨.unknownRequest, []⟩) := by
  rw [exec_of_frame rfl, carry_powered _ ready.1, ready.sendFrame _ short, State.takeFrame, dispatch_unlisted unlisted]
  rfl

/-! ### A byte in each receive state (R168) -/

theorem State.receiveByte_hunt (hunt : (s.ports.get p).receive = .hunt) (b : Byte) :
    s.receiveByte p b = if b = 0x7E then s.setPort p (assembling .header []) else s := by
  simp only [State.receiveByte, hunt]
  rfl

/-- R168: the first byte of HEADER is LEN. -/
theorem State.receiveByte_length (header : (s.ports.get p).receive = .header) (empty : (s.ports.get p).buffer = []) (b : Byte) :
    s.receiveByte p b = s.setPort p (if 64 < b.toNat then idlePort else assembling .header [b]) := by
  simp only [State.receiveByte, header, empty]
  rfl

/-- R168: after LEN, HEADER and BODY collect. -/
theorem State.receiveByte_collects (collecting : (s.ports.get p).receive = .header ∨ (s.ports.get p).receive = .body)
    (buffer : (s.ports.get p).buffer = len :: rest) (b : Byte) :
    s.receiveByte p b = s.setPort p (bodyAfter len (rest ++ [b])) := by
  obtain header | body := collecting
  · simp only [State.receiveByte, header, buffer]
  · simp only [State.receiveByte, body, buffer]

/-- R168, R170 check 1: the CHECK byte completes the frame. -/
theorem State.receiveByte_check (check : (s.ports.get p).receive = .check) (buffer : (s.ports.get p).buffer = len :: code :: d)
    (b : Byte) : s.receiveByte p b =
      if frameSum (len :: code :: (d ++ [b])) = 0 then s.takeFrame p (len :: code :: (d ++ [b])) code d
      else s.reply p (len :: code :: (d ++ [b])) code ⟨.badFrame, []⟩ := by
  simp only [State.receiveByte, check, State.completeFrame, buffer, List.cons_append]

theorem State.receiveByte_replying (replying : (s.ports.get p).receive = .replying) (b : Byte) : s.receiveByte p b = s :=
  State.receiveBytes_replying replying [b]

theorem exec_portByteReceived (powered : s.powered = true) (p : Port) (b : Byte) :
    exec (.portByteReceived p b) s = .next (s.receiveByte p b) := carry_powered _ powered

/-- R168: the expiry of the inter-byte timer drops what a port has assembled. -/
theorem exec_interByteTimeout (powered : s.powered = true)
    (midFrame : (s.ports.get p).receive = .header ∨ (s.ports.get p).receive = .body ∨ (s.ports.get p).receive = .check) :
    exec (.interByteTimeout p) s = .next { s with ports := s.ports.set p ⟨.hunt, [], none, []⟩ } := by
  have drops : s.interByteExpiry p = s.setPort p idlePort := by
    obtain h | h | h := midFrame <;> simp only [State.interByteExpiry, h]
  exact (carry_powered _ powered).trans (congrArg _ drops)

/-! ### What a part discards -/

/-- Log 7: a part without power takes nothing; R168: nor does a port that is REPLYING. -/
theorem carry_sendFrame_discards (deaf : s.powered = false ∨ (s.ports.get p).receive = .replying) (code : Byte) (d : List Byte) :
    carry (fun s => s.sendFrame p code d) s = .next s := by
  cases powered : s.powered with
  | false => exact carry_unpowered _ powered
  | true =>
    have replying : (s.ports.get p).receive = .replying := by simpa [powered] using deaf
    rw [carry_powered _ powered, State.sendFrame, if_neg (by simp [replying]), State.receiveBytes_replying replying]

theorem exec_portByteReceived_discards (deaf : s.powered = false ∨ (s.ports.get p).receive = .replying) (b : Byte) :
    exec (.portByteReceived p b) s = .next s := by
  cases powered : s.powered with
  | false => exact carry_unpowered _ powered
  | true => rw [exec_portByteReceived powered, State.receiveByte_replying (by simpa [powered] using deaf)]

/-! ### Frames and their commands (R168, R170) -/

/-- R170: the frame of a well-formed request command decodes to it. -/
theorem decodeFrame_of_frame {c : Instr} (wf : c.wf = true) (spelt : c.frame? = some (p, code, d)) : decodeFrame p code d = c := by
  cases c
  case unknownRequest => exact Laws.FrameRoundTrip.unknownRequest _ _ _ p code d spelt wf
  all_goals cases spelt <;> rfl

/-- R168: the payload of a well-formed request command fits in a frame. -/
theorem payload_of_frame {c : Instr} (wf : c.wf = true) (spelt : c.frame? = some (p, code, d)) : d.length ≤ 64 := by
  rw [← decodeFrame_of_frame wf spelt] at wf
  have fits : payloadOk d = true := by
    cases found : lookupCode code with
    | none =>
      rw [decodeFrame_unknown found, Instr.wf, Bool.and_eq_true] at wf
      exact wf.2
    | some r => simpa only [decodeFrame, found, wf_ofRequest] using wf
  exact of_decide_eq_true fits

/-! ### A frame sent byte by byte (R168) -/

/-- R168: the bytes of a request frame between the sync byte and the CHECK byte. -/
def frameBody (code : Byte) (d : List Byte) : List Byte := BitVec.ofNat 8 d.length :: code :: d

/-- R168: the CHECK byte of a request frame. -/
def frameCheck (code : Byte) (d : List Byte) : Byte := 0 - frameSum (frameBody code d)

/-- R168: the bytes after the sync byte sum to 0. -/
theorem frameSum_keptFrame (code : Byte) (d : List Byte) : frameSum (keptFrame code d) = 0 := frameSum_check (frameBody code d)

theorem requestFrame_eq (code : Byte) (d : List Byte) :
    requestFrame code d = 0x7E :: BitVec.ofNat 8 d.length :: code :: (d ++ [frameCheck code d]) := rfl

/-- The part with port `p` as `x` and the commands `queue` to come. -/
def State.feeding (s : State) (p : Port) (x : PortUnit) (queue : List Instr) : State :=
  { s with ports := s.ports.set p x, pending := queue }

@[simp] theorem State.feeding_port (s : State) (p : Port) (x : PortUnit) (queue : List Instr) :
    (s.feeding p x queue).ports.get p = x := PerPort.get_set_same ..

@[simp] theorem State.feeding_setPort (s : State) (p : Port) (x y : PortUnit) (queue : List Instr) :
    (s.feeding p x queue).setPort p y = s.feeding p y queue := by
  simp only [State.feeding, State.setPort, PerPort.set_set]

theorem run_succ_of_next {M : Host.Core} {x y : M.State} (stepped : M.step x = .next y) (k : Nat) : M.run (k + 1) x = M.run k y := by
  simp only [Host.Core.run, stepped]

/-- A byte at the front of the queue is received. -/
theorem run_byte (powered : s.powered = true) (k : Nat) :
    core.run (k + 1) ({ s with pending := .portByteReceived p b :: queue } : State) =
      core.run k (State.receiveByte { s with pending := queue } p b) := by
  have stepped : core.step ({ s with pending := .portByteReceived p b :: queue } : State) =
      .next (State.receiveByte { s with pending := queue } p b) :=
    exec_portByteReceived (s := { s with pending := queue }) powered p b
  exact run_succ_of_next stepped k

/-- R168: a byte at the front of the queue that moves the port to `y`. -/
theorem run_feeding (powered : s.powered = true) {x y : PortUnit}
    (moves : (s.feeding p x queue).receiveByte p b = s.feeding p y queue) (k : Nat) :
    core.run (k + 1) (s.feeding p x (.portByteReceived p b :: queue)) = core.run k (s.feeding p y queue) := by
  rw [← moves]
  exact run_byte (s := s.feeding p x queue) powered k

/-- R168: a port that still waits for the bytes `todo` of the payload receives them and waits for the CHECK byte. -/
theorem run_payload (powered : s.powered = true) (todo got : List Byte) (length : len.toNat = got.length + todo.length) (k : Nat) :
    core.run (k + todo.length) (s.feeding p (bodyAfter len (code :: got)) (todo.map (.portByteReceived p) ++ queue)) =
      core.run k (s.feeding p (assembling .check (len :: code :: (got ++ todo))) queue) := by
  induction todo generalizing got with
  | nil =>
    have complete : bodyAfter len (code :: got) = assembling .check (len :: code :: got) := by
      simp only [bodyAfter, List.length_cons, length, List.length_nil, Nat.add_zero, if_true]
    rw [complete, List.append_nil]
    rfl
  | cons b todo ih =>
    have waiting : (bodyAfter len (code :: got)).receive = .body := by
      have more : got.length + 1 ≠ len.toNat + 1 := by simp [length]
      simp only [bodyAfter, assembling, List.length_cons, if_neg more]
    have taken (queue : List Instr) : (s.feeding p (bodyAfter len (code :: got)) queue).receiveByte p b =
        s.feeding p (bodyAfter len (code :: (got ++ [b]))) queue := by
      rw [State.receiveByte_collects (len := len) (rest := code :: got) (by simp [waiting]) (by simp [bodyAfter, assembling]),
        State.feeding_setPort, List.cons_append]
    have moved := ih (got ++ [b]) (by simp [length]; omega)
    rw [List.append_assoc] at moved
    exact (run_feeding powered (taken _) _).trans moved

/-- R168: the sync byte, LEN and CODE bring a port in HUNT to the payload. -/
theorem run_header (ready : s.Ready p) (short : len.toNat ≤ 64) (k : Nat) :
    core.run (k + 3) ({ s with
        pending := .portByteReceived p 0x7E :: .portByteReceived p len :: .portByteReceived p code :: queue } : State) =
      core.run k (s.feeding p (bodyAfter len [code]) queue) := by
  have sync (queue : List Instr) : State.receiveByte { s with pending := queue } p 0x7E =
      s.feeding p (assembling .header []) queue :=
    State.receiveByte_hunt (s := { s with pending := queue }) ready.2 0x7E
  have length (queue : List Instr) : (s.feeding p (assembling .header []) queue).receiveByte p len =
      s.feeding p (assembling .header [len]) queue := by
    rw [State.receiveByte_length (by simp [assembling]) (by simp [assembling]), if_neg short.not_gt, State.feeding_setPort]
  have named : (s.feeding p (assembling .header [len]) queue).receiveByte p code = s.feeding p (bodyAfter len [code]) queue := by
    rw [State.receiveByte_collects (len := len) (rest := []) (by simp [assembling]) (by simp [assembling]),
      State.feeding_setPort, List.nil_append]
  rw [run_byte ready.1, sync, run_feeding ready.1 (length _), run_feeding ready.1 named]

/-- R168, R170: the CHECK byte that makes the sum 0 has the frame taken. -/
theorem State.receiveByte_completes (s : State) (p : Port) (code : Byte) (d : List Byte) (queue : List Instr) :
    (s.feeding p (assembling .check (frameBody code d)) queue).receiveByte p (frameCheck code d) =
      (s.feeding p (assembling .check (frameBody code d)) queue).takeFrame p (keptFrame code d) code d := by
  rw [State.receiveByte_check (by simp [assembling]) (by rw [State.feeding_port]; rfl)]
  exact if_pos (frameSum_keptFrame code d)

/-- R168: a frame sent byte by byte to a port in HUNT is taken once its CHECK byte is in. -/
theorem run_requestFrame (ready : s.Ready p) (short : d.length ≤ 64) :
    core.run (d.length + 4) ({ s with pending := (requestFrame code d).map (.portByteReceived p) ++ queue } : State) =
      .next ((s.feeding p (assembling .check (frameBody code d)) queue).takeFrame p (keptFrame code d) code d) := by
  have length : (BitVec.ofNat 8 d.length).toNat = d.length := Nat.mod_eq_of_lt (by omega)
  have spelt : (requestFrame code d).map (.portByteReceived p) ++ queue =
      .portByteReceived p 0x7E :: .portByteReceived p (BitVec.ofNat 8 d.length) :: .portByteReceived p code ::
        (d.map (.portByteReceived p) ++ .portByteReceived p (frameCheck code d) :: queue) := by
    simp [requestFrame_eq]
  calc core.run (d.length + 4) ({ s with pending := (requestFrame code d).map (.portByteReceived p) ++ queue } : State)
    _ = core.run (1 + d.length) (s.feeding p (bodyAfter (BitVec.ofNat 8 d.length) [code])
          (d.map (.portByteReceived p) ++ .portByteReceived p (frameCheck code d) :: queue)) := by
      rw [spelt, Nat.add_comm 1]
      exact run_header ready (length.trans_le short) (d.length + 1)
    _ = core.run 1 (s.feeding p (assembling .check (frameBody code d)) (.portByteReceived p (frameCheck code d) :: queue)) :=
      run_payload ready.1 d [] (by simp [length]) 1
    _ = _ := (run_byte (s := s.feeding p _ queue) ready.1 0).trans (congrArg _ (State.receiveByte_completes s p code d queue))

end Sys2Proof.Machine

open Sys2Proof Sys2Proof.Machine in
/-- Settles O3: the table of codes spells each command, and a port collects the bytes of its frame one after another. -/
theorem framesSpellTheirCommands : Obligations.FramesSpellTheirCommands := by
  intro c p code d wf spelt
  have short := payload_of_frame wf spelt
  refine ⟨decodeFrame_of_frame wf spelt, frameSum_keptFrame code d, fun s rest ready => ⟨?_, run_requestFrame ready short⟩⟩
  rw [exec_of_frame spelt, carry_powered _ ready.1, ready.sendFrame code short]

open Sys2Proof Sys2Proof.Machine in
/-- Settles O4: the table of the statement is the catalogue, and each check is one equation of `dispatch`. -/
theorem requestsAreCheckedInOrder : Obligations.RequestsAreCheckedInOrder := by
  unfold Obligations.RequestsAreCheckedInOrder
  intro everyone hall table
  have same : table = catalogue.map catalogueColumns := rfl
  rw [same]
  simp only [List.forall_mem_map]
  refine ⟨fun x => ?_, fun s p code d ready short unlisted => ready.exec_unlisted short unlisted,
    fun r listed s p d ready short => ⟨fun port => ?_,
      fun port => ⟨fun x panel filter => ?_, fun filter => ⟨fun length => ?_, fun length => ?_⟩⟩⟩⟩
  · obtain ⟨r, listed, named⟩ := exists_listed x
    exact ⟨catalogueColumns r, List.mem_map_of_mem listed, named⟩
  · exact ready.exec_listed short listed (dispatch_notPermitted listed port)
  all_goals refine ready.exec_listed short listed ((dispatch_permitted listed port).trans ?_)
  · exact carryOut_filtered panel filter
  · exact (carryOut_passed filter).trans (if_neg length)
  · exact (carryOut_passed filter).trans (if_pos length)

open Sys2Proof Sys2Proof.Machine in
/-- Settles O5: one equation of `receiveByte` for each receive state. -/
theorem bytesMoveThePort : Obligations.BytesMoveThePort := by
  intro s p b powered
  rw [exec_portByteReceived powered]
  refine ⟨fun hunt => congrArg _ (State.receiveByte_hunt hunt b),
    fun header => ⟨fun empty => congrArg _ (State.receiveByte_length header empty b), fun len buffer => ?_,
      exec_interByteTimeout powered (.inl header)⟩,
    fun body => ⟨fun len code got buffer => ?_, exec_interByteTimeout powered (.inr (.inl body))⟩,
    fun check => ⟨fun len code d buffer => congrArg _ (State.receiveByte_check check buffer b),
      exec_interByteTimeout powered (.inr (.inr check))⟩,
    fun replying => congrArg _ (State.receiveByte_replying replying b)⟩
  · have last : ([] ++ [b]).length = len.toNat + 1 ↔ len = 0 := by simp [BitVec.toNat_eq]
    rw [State.receiveByte_collects (.inl header) buffer]
    simp only [bodyAfter, last]
    rfl
  · have last : (code :: got ++ [b]).length = len.toNat + 1 ↔ got.length + 1 = len.toNat := by simp
    rw [State.receiveByte_collects (.inr body) buffer]
    simp only [bodyAfter, last]
    rfl

open Sys2Proof Sys2Proof.Machine in
/-- Settles O6: a reply is its frame whole in the port; its end, and what a deaf port discards. -/
theorem repliesAreSentAndEnd : Obligations.RepliesAreSentAndEnd := by
  refine ⟨fun s p frame code x _ => ⟨_, rfl, frameSum_check (_ :: code :: x.status.code :: x.payload)⟩,
    fun s p code d x => ⟨_, rfl⟩, fun s p powered => carry_powered _ powered, fun s p r code d deaf => ⟨?_, ?_, ?_⟩⟩
  · rw [exec_ofRequest, carry_sendFrame_discards deaf]
  · rw [exec_of_frame rfl, carry_sendFrame_discards deaf]
  · exact exec_portByteReceived_discards deaf code
end

section
/-! PROOFS. What a notice queue does with a notice (R180), its limits (R180, R182), and what a posted notice does at each port (R178). -/

namespace Sys2Proof.Machine

/-! ### A queue takes a notice (R180) -/

section Queue
variable {q : NoticeQueue} {n : Notice}

/-- R180, coalescing: a notice takes the place of its twin. -/
theorem NoticeQueue.enqueue_twin (twin : ∃ m ∈ q.notices, m.topic = n.topic) :
    q.enqueue n = { q with notices := q.notices.map (fun m => if m.topic = n.topic then n else m) } := by
  simp only [NoticeQueue.enqueue, List.any_eq_true, beq_iff_eq, if_pos twin]

/-- R180: a notice without a twin is admitted, dropped or displaces another. -/
theorem NoticeQueue.enqueue_new (new : ∀ m ∈ q.notices, m.topic ≠ n.topic) : q.enqueue n = q.admitNew n :=
  if_neg (by simpa using new)

/-- R180, admission: twelve places are free to every notice, four more to a notice of priority 4 or above. -/
theorem NoticeQueue.admitNew_room (room : q.notices.length ≤ 11 ∨ q.notices.length ≤ 15 ∧ 4 ≤ n.topic.priority) :
    q.admitNew n = { q with notices := q.notices ++ [n] } := by
  simp only [NoticeQueue.admitNew]
  exact if_pos (by simp only [Config.queueReserve, Config.queueMax]; omega)

/-- R180, dropping: a notice that finds no room and may displace no other is counted as lost. -/
theorem NoticeQueue.admitNew_drops (reserve : 12 ≤ q.notices.length) (room : q.notices.length ≤ 15 → n.topic.priority ≤ 3)
    (full : 16 ≤ q.notices.length → n.topic.priority ≤ 6) : q.admitNew n = { q with lost := min 255 (q.lost + 1) } := by
  simp only [NoticeQueue.admitNew]
  rw [if_neg (by simp only [Config.queueReserve, Config.queueMax]; omega), if_neg (by simp only [Config.queueMax]; omega)]
  rfl

/-- R180: a notice below priority 7 that none present undercuts has the lowest priority present below 7. -/
theorem lowestBelowSeven_eq {ns : List Notice} {m : Notice} (present : m ∈ ns) (below : m.topic.priority < 7)
    (lowest : ∀ x ∈ ns, m.topic.priority ≤ x.topic.priority) : lowestBelowSeven ns = some m.topic.priority := by
  refine List.min?_eq_some_iff.mpr ⟨?_, fun b hb => ?_⟩
  · exact List.mem_filter.mpr ⟨List.mem_map_of_mem present, decide_eq_true below⟩
  · obtain ⟨x, hx, rfl⟩ := List.mem_map.mp (List.mem_filter.mp hb).1
    exact lowest x hx

/-- R180: the lowest priority below 7 is that of a notice present. -/
theorem lowestBelowSeven_mem {ns : List Notice} {low : Nat} (h : lowestBelowSeven ns = some low) :
    ∃ m ∈ ns, m.topic.priority = low :=
  List.mem_map.mp (List.mem_filter.mp (List.min?_mem h)).1

/-- R180, displacement: in a full queue a notice of priority 7 takes the place of the oldest of the lowest priority below 7. -/
theorem NoticeQueue.admitNew_displaces (full : q.notices.length = 16) (urgent : n.topic.priority = 7) {older newer : List Notice}
    {m : Notice} (split : q.notices = older ++ m :: newer) (below : m.topic.priority < 7)
    (above : ∀ x ∈ older, m.topic.priority < x.topic.priority) (lowest : ∀ x ∈ newer, m.topic.priority ≤ x.topic.priority) :
    q.admitNew n = { q with notices := older ++ newer ++ [n], lost := min 255 (q.lost + 1) } := by
  have low : lowestBelowSeven q.notices = some m.topic.priority := by
    refine lowestBelowSeven_eq (by simp [split]) below fun x hx => ?_
    rw [split, List.mem_append, List.mem_cons] at hx
    obtain hx | rfl | hx := hx
    exacts [(above x hx).le, le_rfl, lowest x hx]
  have erased : q.notices.eraseP (fun x => x.topic.priority == m.topic.priority) = older ++ newer := by
    rw [split, List.eraseP_append_right _ fun x hx => by simpa using (above x hx).ne', List.eraseP_cons_of_pos (by simp)]
  simp only [NoticeQueue.admitNew, Config.queueReserve, Config.queueMax, full, urgent, low, erased]
  rfl

/-- R180: the three things that a queue can do with a notice without a twin. -/
theorem NoticeQueue.admitNew_cases (q : NoticeQueue) (n : Notice) :
    (q.notices.length < 16 ∧ q.admitNew n = { q with notices := q.notices ++ [n] }) ∨
    q.admitNew n = q.countLost ∨
    ∃ m ∈ q.notices, q.admitNew n =
      NoticeQueue.countLost { q with notices := q.notices.eraseP (fun x => x.topic.priority == m.topic.priority) ++ [n] } := by
  simp only [NoticeQueue.admitNew]
  split
  · next room =>
    simp only [Config.queueReserve, Config.queueMax] at room
    exact .inl ⟨by omega, rfl⟩
  · split
    · split
      · next found =>
        obtain ⟨m, present, rfl⟩ := lowestBelowSeven_mem found
        exact .inr (.inr ⟨m, present, rfl⟩)
      · exact .inr (.inl rfl)
    · exact .inr (.inl rfl)

/-- R182: the mask does nothing to the queue. -/
theorem NoticeQueue.enqueue_mask (q : NoticeQueue) (n : Notice) (mask : Nat) :
    NoticeQueue.enqueue { q with mask := mask } n = { q.enqueue n with mask := mask } := by
  by_cases twin : ∃ m ∈ q.notices, m.topic = n.topic
  · rw [NoticeQueue.enqueue_twin twin, NoticeQueue.enqueue_twin (q := { q with mask := mask }) twin]
  · have new : ∀ m ∈ q.notices, m.topic ≠ n.topic := fun m hm same => twin ⟨m, hm, same⟩
    rw [NoticeQueue.enqueue_new new, NoticeQueue.enqueue_new (q := { q with mask := mask }) new]
    simp only [NoticeQueue.admitNew]
    repeat' split
    all_goals rfl

/-- R182: what asserts an attention line. -/
theorem NoticeQueue.attention_iff (q : NoticeQueue) :
    q.attention = true ↔ ∃ n ∈ q.notices, q.mask < n.topic.priority ∨ n.topic.priority = 7 := by
  simp [NoticeQueue.attention]

/-- R180: coalescing changes no topic in the queue. -/
theorem topics_coalesced (ns : List Notice) (n : Notice) :
    (ns.map (fun m => if m.topic = n.topic then n else m)).map Notice.topic = ns.map Notice.topic := by
  rw [List.map_map]
  refine List.map_congr_left fun m _ => ?_
  simp only [Function.comp_apply]
  split
  exacts [Eq.symm ‹_›, rfl]

/-- R182: the attention line is a matter of the topics in the queue and the mask alone. -/
theorem NoticeQueue.attention_topics (q : NoticeQueue) :
    q.attention = (q.notices.map Notice.topic).any (fun t => q.mask < t.priority || t.priority == 7) := by
  rw [List.any_map]
  rfl

/-! ### The limits of a queue (R180, R182) -/

theorem NoticeQueue.Legal.countLost (h : q.Legal) : q.countLost.Legal :=
  ⟨h.1, h.2.1, satAdd_le _ _ _, h.2.2.2⟩

/-- A notice whose topic is new goes to the back of a queue with a free place. -/
theorem NoticeQueue.Legal.append (h : q.Legal) {ns : List Notice} (sub : ns.Sublist q.notices) (room : ns.length < 16)
    (new : ∀ m ∈ q.notices, m.topic ≠ n.topic) : NoticeQueue.Legal { q with notices := ns ++ [n] } := by
  obtain ⟨-, distinct, lost, mask⟩ := h
  refine ⟨by simpa using room, ?_, lost, mask⟩
  rw [List.map_append, List.nodup_append_comm]
  refine List.nodup_cons.mpr ⟨fun twin => ?_, (sub.map _).nodup distinct⟩
  obtain ⟨m, present, same⟩ := List.mem_map.mp twin
  exact new m (sub.mem present) same

/-- R180, R182: a queue that takes a notice keeps its limits and its distinct topics. -/
theorem NoticeQueue.Legal.enqueue (h : q.Legal) (n : Notice) : (q.enqueue n).Legal := by
  by_cases twin : ∃ m ∈ q.notices, m.topic = n.topic
  · rw [NoticeQueue.enqueue_twin twin]
    obtain ⟨length, distinct, lost, mask⟩ := h
    exact ⟨by simpa using length, by rwa [topics_coalesced], lost, mask⟩
  · have new : ∀ m ∈ q.notices, m.topic ≠ n.topic := fun m hm same => twin ⟨m, hm, same⟩
    rw [NoticeQueue.enqueue_new new]
    obtain ⟨room, admitted⟩ | dropped | ⟨m, present, displaced⟩ := q.admitNew_cases n
    · rw [admitted]
      exact h.append (List.Sublist.refl _) room new
    · rw [dropped]
      exact h.countLost
    · rw [displaced]
      have shorter := List.length_eraseP_of_mem (p := fun x : Notice => x.topic.priority == m.topic.priority) present (by simp)
      have occupied : 0 < q.notices.length := List.length_pos_of_mem present
      exact (h.append List.eraseP_sublist (by have := h.1; omega) new).countLost

/-- R179: the topics of priority 7. -/
theorem Topic.priority_eq_seven {t : Topic} : t.priority = 7 ↔ t ∈ [Topic.thermalTrip, .lampFailed .a, .lampFailed .b] := by
  cases t
  case lampFailed l => cases l <;> simp [Topic.priority]
  all_goals simp [Topic.priority]

/-- R179: distinct topics leave room for three of priority 7. -/
theorem NoticeQueue.Legal.urgent (h : q.Legal) : (q.notices.filter (fun n => n.topic.priority = 7)).length ≤ 3 := by
  obtain ⟨-, distinct, -⟩ := h
  have few : (q.notices.filter (fun n => n.topic.priority = 7)).map Notice.topic ⊆ [.thermalTrip, .lampFailed .a, .lampFailed .b] := by
    intro t ht
    obtain ⟨n, hn, rfl⟩ := List.mem_map.mp ht
    exact Topic.priority_eq_seven.mp (by simpa using (List.mem_filter.mp hn).2)
  rw [← List.length_map (f := Notice.topic)]
  exact (((List.filter_sublist.map Notice.topic).nodup distinct).subperm few).length_le

end Queue

/-! ### A posted notice at a port (R178, log 34) -/

/-- R178: a notice is taken by the NOTICE_ADMISSION of its port, topic and value. -/
theorem Notice.takenBy_iff (n : Notice) (p : Port) (c : Instr) : n.takenBy p c = true ↔ c = .noticeAdmission p n.topic n.value := by
  cases c
  case noticeAdmission p' t v =>
    simp only [Notice.takenBy, Notice.says, Bool.and_eq_true, beq_iff_eq, Instr.noticeAdmission.injEq]
    exact and_congr_right fun _ => and_congr eq_comm eq_comm
  all_goals simp [Notice.takenBy]

theorem Notice.takenBy_eq (n : Notice) (p : Port) :
    n.takenBy p = fun c => decide (c = .noticeAdmission p n.topic n.value) :=
  funext fun c => Bool.eq_iff_iff.mpr ((n.takenBy_iff p c).trans decide_eq_true_iff.symm)

theorem Notice.says_iff (n : Notice) (t : Topic) (v : BitVec 16) : n.says t v = true ↔ n.topic = t ∧ n.value = v := by
  simp [Notice.says]

theorem Notice.says_eq (t : Topic) (v : BitVec 16) :
    (fun m : Notice => m.says t v) = fun m => decide (m.topic = t ∧ m.value = v) :=
  funext fun m => Bool.eq_iff_iff.mpr ((m.says_iff t v).trans decide_eq_true_iff.symm)

/-- R178, log 34: a posted notice waits where one more command that takes it is to come than notices like it wait. -/
theorem State.waitsAt_iff (s : State) (n : Notice) (p : Port) : s.waitsAt n p = true ↔
    ((s.handed.get p).filter (fun m => m.topic = n.topic ∧ m.value = n.value)).length <
      (s.pending.filter (fun c => c = .noticeAdmission p n.topic n.value)).length := by
  simp only [State.waitsAt, Notice.takenBy_eq, Notice.says_eq, decide_eq_true_iff]

/-- R178: where none waits, the queue takes a notice handed to it now. -/
theorem State.takeHanded_now {s : State} {p : Port} {t : Topic} {v : BitVec 16} (port : p ∈ t.ports)
    (none : ∀ m ∈ s.handed.get p, ¬ (m.topic = t ∧ m.value = v)) : s.takeHanded p t v = s.admitAt p ⟨t, v, s.clock.minute⟩ := by
  have found : (s.handed.get p).find? (fun m => m.says t v) = Option.none := by
    rw [Notice.says_eq]
    simpa using none
  simp only [State.takeHanded, List.contains_iff_mem.mpr port, if_true, found]

/-- R178, log 34: the oldest waiting notice of the topic and value is taken. -/
theorem State.takeHanded_oldest {s : State} {p : Port} {t : Topic} {v : BitVec 16} {n : Notice} {older newer : List Notice}
    (port : p ∈ t.ports) (split : s.handed.get p = older ++ n :: newer) (is : n.topic = t ∧ n.value = v)
    (first : ∀ m ∈ older, ¬ (m.topic = t ∧ m.value = v)) :
    s.takeHanded p t v = ({ s with handed := s.handed.set p (older ++ newer) } : State).admitAt p n := by
  have named : n.says t v = true := (n.says_iff t v).mpr is
  have others : ∀ m ∈ older, ¬ m.says t v = true := fun m hm same => first m hm ((m.says_iff t v).mp same)
  have found : (s.handed.get p).find? (fun m => m.says t v) = some n :=
    List.find?_eq_some_iff_append.mpr ⟨named, older, newer, split, fun m hm => by simpa using others m hm⟩
  have left : (s.handed.get p).eraseP (fun m => m.says t v) = older ++ newer := by
    rw [split, List.eraseP_append_right _ others, List.eraseP_cons_of_pos (p := fun m : Notice => m.says t v) named]
  simp only [State.takeHanded, List.contains_iff_mem.mpr port, if_true, found, left]

/-! ### Set Notice Mask (R182) -/

theorem setNoticeMask_eq (p : Port) (x : Byte) (s : State) : setNoticeMask p [x] s =
    ({ s with queues := s.queues.set p { s.queues.get p with mask := min 7 x.toNat } },
      ⟨if 7 < x.toNat then .clamped else .ok, [byteOf (min 7 x.toNat)]⟩) := by
  have clamped : min 7 x.toNat = x.toNat ↔ ¬ 7 < x.toNat := by omega
  simp only [setNoticeMask, clampNat_zero, okOrClamped_ne, clamped, ite_not]

end Sys2Proof.Machine

open Sys2Proof Sys2Proof.Machine in
/-- Settles O9: the kinds are read off their table, a posted notice goes one of three ways at each port, and only three topics have
priority 7. -/
theorem noticeKinds : Obligations.NoticeKinds := by
  refine ⟨fun l n id => ?_, fun s t v => ⟨rfl, fun p => ?_⟩, fun q legal => legal.urgent⟩
  · cases l <;> exact ⟨rfl, rfl, rfl, rfl, rfl, rfl, rfl, rfl, rfl, rfl, rfl, rfl, rfl, rfl, rfl, rfl, rfl, rfl⟩
  · intro n waits
    have test : s.waitsAt n p = true ↔ waits := s.waitsAt_iff n p
    rw [State.post_queue, State.post_handed]
    obtain ⟨port, queue, handed⟩ | ⟨port, still, queue, handed⟩ | ⟨port, waiting, queue, handed⟩ := s.post_cases n p
    · exact ⟨fun _ => ⟨queue, handed⟩, fun named => absurd named port, fun named => absurd named port⟩
    · have now : ¬ waits := fun w => Bool.false_ne_true (still.symm.trans (test.mpr w))
      exact ⟨fun unnamed => absurd port unnamed, fun _ _ => ⟨queue, handed⟩, fun _ w => absurd w now⟩
    · exact ⟨fun unnamed => absurd port unnamed, fun _ now => absurd (test.mp waiting) now, fun _ _ => ⟨queue, handed⟩⟩

open Sys2Proof Sys2Proof.Machine in
/-- Settles O10: the queue takes the notice that the command finds waiting, or one handed to it now, by one of the rules of R180. -/
theorem noticeAdmission : Obligations.NoticeAdmission := by
  intro s p topic value n left powered port q like found becomes
  have same : n.topic = topic := by
    obtain ⟨-, rfl, -⟩ | ⟨⟨same, -⟩, -⟩ := found
    exacts [rfl, same]
  have taken : exec (.noticeAdmission p topic value) s =
      .next { s with queues := s.queues.set p (q.enqueue n), handed := s.handed.set p left } := by
    refine (carry_powered _ powered).trans (congrArg _ ?_)
    obtain ⟨none, rfl, rfl⟩ | ⟨is, older, newer, split, first, rfl⟩ := found
    · rw [State.takeHanded_now port none, PerPort.set_get]
      rfl
    · rw [State.takeHanded_oldest port split is first]
      rfl
  have becomes_of {q' : NoticeQueue} (h : q.enqueue n = q') : becomes q' := by
    rw [← h]
    exact ⟨taken, fun legal => legal.enqueue n⟩
  subst same
  refine ⟨fun twin => becomes_of (NoticeQueue.enqueue_twin twin), fun new => ?_⟩
  have admitted {q' : NoticeQueue} (h : q.admitNew n = q') : becomes q' := becomes_of ((NoticeQueue.enqueue_new new).trans h)
  refine ⟨fun few => admitted (NoticeQueue.admitNew_room (.inl few)), fun reserve room => ⟨fun high => ?_, fun low => ?_⟩,
    fun full => ⟨fun low => ?_, fun urgent older m newer split below above lowest => ?_⟩⟩
  · exact admitted (NoticeQueue.admitNew_room (.inr ⟨room, high⟩))
  · exact admitted (NoticeQueue.admitNew_drops reserve (fun _ => low) (by omega))
  · exact admitted (NoticeQueue.admitNew_drops (by omega) (by omega) fun _ => low)
  · exact admitted (NoticeQueue.admitNew_displaces full urgent split below above lowest)

open Sys2Proof Sys2Proof.Machine in
/-- Settles O11: both requests pass at every level and write the queue of their port alone. -/
theorem takeNoticeAndNoticeMask : Obligations.TakeNoticeAndNoticeMask := by
  refine ⟨fun s p ready => ⟨fun empty => ?_, fun n rest first => ?_⟩, fun s p x ready => ?_, fun s p powered => ?_,
    NoticeQueue.enqueue_mask, fun q n twin => ?_, fun s p => ?_⟩
  · refine (ready.exec_read .takeNotice (d := []) rfl rfl rfl (by simp)).trans ?_
    simp only [owner, takeNotice, empty]
    rfl
  · refine (ready.exec_read .takeNotice (d := []) rfl rfl rfl (by simp)).trans ?_
    simp only [owner, takeNotice, first, Notice.bytes, List.append_assoc]
    rfl
  · refine (ready.exec_read .setNoticeMask (d := [x]) rfl rfl rfl (by simp)).trans ?_
    rw [owner, setNoticeMask_eq]
    rfl
  · rw [State.attentionLine, powered, Bool.true_and]
    exact NoticeQueue.attention_iff _
  · rw [NoticeQueue.enqueue_twin twin, NoticeQueue.attention_topics, topics_coalesced, ← NoticeQueue.attention_topics]
  · cases p <;> rfl
end

section
/-! PROOFS. The limits of the queues at every step, and a notice that waits for an admission without effect; O51. -/

namespace Sys2Proof.Machine

/-! ### The operations on a queue (R178, R180 to R183) -/

theorem emptyQueue_legal : emptyQueue.Legal := by decide

theorem State.queuesLegal_iff {s : State} : s.QueuesLegal ↔ ∀ p : Port, (s.queues.get p).Legal :=
  ⟨fun ⟨panel, facility, engine⟩ p => by cases p; exacts [panel, facility, engine], fun h => ⟨h .panel, h .facility, h .engine⟩⟩

namespace State.QueuesLegal

variable {s : State} (h : s.QueuesLegal)
include h

theorem set {t : State} {p : Port} {q : NoticeQueue} (queues : t.queues = s.queues.set p q) (legal : q.Legal) : t.QueuesLegal := by
  rw [State.queuesLegal_iff] at h ⊢
  intro p'
  rw [queues]
  by_cases same : p' = p
  · rw [same, PerPort.get_set_same]; exact legal
  · rw [PerPort.get_set_ne _ _ same]; exact h p'

theorem admitAt (p : Port) (n : Notice) : (s.admitAt p n).QueuesLegal := h.set rfl ((State.queuesLegal_iff.mp h p).enqueue n)

theorem takeHanded (p : Port) (topic : Topic) (value : BitVec 16) : (s.takeHanded p topic value).QueuesLegal := by
  obtain ⟨-, taken⟩ | ⟨-, -, taken⟩ | ⟨-, older, newer, n, -, -, -, taken⟩ := s.takeHanded_cases p topic value
  all_goals rw [taken]
  exacts [h, h.admitAt p _, admitAt (s := { s with handed := s.handed.set p (older ++ newer) }) h p n]

theorem post (topic : Topic) (value : Nat) : (s.post topic value).QueuesLegal := by
  rw [State.queuesLegal_iff] at h ⊢
  intro p
  rw [State.post_queue]
  obtain ⟨-, queue, -⟩ | ⟨-, -, queue, -⟩ | ⟨-, -, queue, -⟩ := s.post_cases _ p
  all_goals rw [queue]
  exacts [h p, (h p).enqueue _, h p]

theorem takeNotice (p : Port) (d : List Byte) : (takeNotice p d s).1.QueuesLegal := by
  obtain ⟨length, distinct, -, mask⟩ := State.queuesLegal_iff.mp h p
  simp only [Machine.takeNotice]
  split
  · exact h.set rfl ⟨length, distinct, Nat.zero_le _, mask⟩
  · next n rest first =>
    rw [first] at length distinct
    exact h.set rfl ⟨(Nat.le_succ _).trans length, (List.nodup_cons.mp distinct).2, Nat.zero_le _, mask⟩

theorem setNoticeMask (p : Port) (d : List Byte) : (setNoticeMask p d s).1.QueuesLegal := by
  obtain ⟨length, distinct, lost, -⟩ := State.queuesLegal_iff.mp h p
  unfold Machine.setNoticeMask
  split
  exacts [h.set rfl ⟨length, distinct, lost, (clampNat_bounds _ (Nat.zero_le 7)).2⟩, h]

/-! ### The notices of the LKU and the TGU (R105 to R126) -/

theorem setLockout (x : Lockout) : (s.setLockout x).QueuesLegal := by
  unfold State.setLockout
  simp only
  split
  exacts [h, post h _ _]

theorem recomputeGeometry : s.recomputeGeometry.QueuesLegal := by
  unfold State.recomputeGeometry
  simp only
  split
  exacts [h, post h _ _]

theorem clearTrims : s.clearTrims.QueuesLegal := recomputeGeometry h

theorem handPresets (booking row : Option (Fin 8)) (clear : Bool) : (s.handPresets booking row clear).QueuesLegal := by
  unfold State.handPresets
  simp only
  split
  exacts [recomputeGeometry h, h]

theorem geometry {r : Request} (p : Port) (d : List Byte) (listed : r ∈ geometryRequests) : (owner r p d s).1.QueuesLegal := by
  simp only [geometryRequests, List.mem_cons, List.not_mem_nil, or_false] at listed
  rcases listed with rfl | rfl | rfl | rfl | rfl
  · simp only [owner, nudgeCorner]
    repeat' split
    exacts [h, recomputeGeometry h, h]
  · simp only [owner, writePreset]
    repeat' split
    exacts [h, h, recomputeGeometry h, h, h]
  · exact clearTrims h
  · simp only [owner, setKeystoneCalibration]
    split
    exacts [recomputeGeometry h, h]
  · exact h

theorem encoderPassage (ta tb : Bool) : (s.encoderPassage ta tb).QueuesLegal := by
  have stepped {t : State} (n : Int) (ht : t.QueuesLegal) : (t.stepCount n).QueuesLegal := by
    unfold State.stepCount
    simp only
    split
    exacts [recomputeGeometry (post ht _ _), ht]
  unfold State.encoderPassage
  simp only
  repeat' split
  exacts [stepped _ h, stepped _ h, post h _ _, h]

theorem indexPulse : s.indexPulse.QueuesLegal := by
  have counted : s.countToOffset.QueuesLegal := by
    unfold State.countToOffset
    split <;> exact h
  unfold State.indexPulse
  simp only
  repeat' split
  exacts [recomputeGeometry counted, recomputeGeometry (post counted _ _), recomputeGeometry counted, h]

theorem settleExpiry : s.settleExpiry.QueuesLegal := by
  unfold State.settleExpiry
  simp only
  repeat' split
  exacts [h, h, recomputeGeometry h]

end State.QueuesLegal

/-! ### Every step (R180, R182) -/

/-- Each operation on a queue keeps its limits, a reset empties it, and nothing else touches it. -/
theorem queuesLegal_kept : KeptByDesk State.QueuesLegal where
  frame h st := by rw [State.QueuesLegal, st.queues]; exact h
  post _ _ h := h.post _ _
  admission p _ _ h := h.takeHanded p _ _
  takeNotice p d h := h.takeNotice p d
  setNoticeMask p d h := h.setNoticeMask p d
  lockout x h := h.setLockout x
  trims h := h.clearTrims
  presets _ _ _ h := h.handPresets _ _ _
  geometry p d listed h := h.geometry p d listed
  encoder _ _ h := h.encoderPassage _ _
  index h := h.indexPulse
  settling h := h.settleExpiry
  elapse h := h
  service _ := ⟨emptyQueue_legal, emptyQueue_legal, emptyQueue_legal⟩
  factory _ _ := ⟨emptyQueue_legal, emptyQueue_legal, emptyQueue_legal⟩
  restored _ := ⟨emptyQueue_legal, emptyQueue_legal, emptyQueue_legal⟩
  merged _ h _ := h

/-- The first clause of O51, which holds. -/
theorem step_queuesLegal {s t : State} (h : s.QueuesLegal) (ran : step s = .next t) : t.QueuesLegal := queuesLegal_kept.step h ran

/-! ### A NOTICE_ADMISSION without effect (R179, log 13) -/

/-- TIME-INVALID waits at the PANEL port, which its kind does not name, and the command for it is the next. No sender can send that
command (`Instr.wf`), but `State.HandedLegal` counts it among those that take a notice. -/
def State.misaddressed : State :=
  { State.reset with
    handed := ⟨[⟨.timeInvalid, 0#16, 0⟩], [], []⟩
    pending := [.noticeAdmission .panel .timeInvalid 0#16] }

theorem State.misaddressed_legal : State.misaddressed.HandedLegal := by
  refine ⟨fun p topic value => ?_, nofun⟩
  cases p
  case panel =>
    by_cases is : Topic.timeInvalid = topic ∧ 0#16 = value
    · obtain ⟨rfl, rfl⟩ := is
      exact le_rfl
    · simp [State.misaddressed, PerPort.get, is]
  all_goals exact Nat.zero_le _

/-- Log 13: the command is spent and the notice still waits. -/
theorem step_misaddressed : step State.misaddressed = .next { State.misaddressed with pending := [] } := rfl

end Sys2Proof.Machine

open Sys2Proof Sys2Proof.Machine in
/-- Refutes O51: its second clause, for the state `State.misaddressed`, which meets `State.HandedLegal` and is left for one in which a
notice waits and no command is to come. No block posts a notice to a port that its kind does not name, and no sender sends the command;
the clause is about every state that meets the invariant. The first clause holds (`step_queuesLegal`). -/
theorem not_queuesStayLegal : ¬ Obligations.QueuesStayLegal := by
  rintro ⟨-, keeps⟩
  obtain ⟨covered, -⟩ := keeps _ _ State.misaddressed_legal step_misaddressed
  exact absurd (covered .panel .timeInvalid 0#16) (by decide)
end
